-- ==== Sys2Proof/Word.lean ====
section
/-!
DEFINITION. The words, bytes and operand types that the commands and the state are made of. Frames and requesters are
the operands that the outside of the block supplies with a command.
-/

namespace Sys2Proof

/-- One byte of a memory, a frame or a key. -/
abbrev Byte := BitVec 8

/-- One 32-bit register or memory word (R529). -/
abbrev Word := BitVec 32

/-- A field of a register: the register's address and the field's bits. -/
structure Fld where
  addr : Nat
  hi : Nat
  lo : Nat
deriving DecidableEq, Repr

/-- A field of a table entry: the 32-bit word of the entry and the field's bits. -/
structure EFld where
  word : Nat
  hi : Nat
  lo : Nat
deriving DecidableEq, Repr

/-- One row of the register map: where the register's words stand and which bits have which access code (R15). -/
structure RegRow where
  base : Nat
  dims : List (Nat × Nat)
  rw : Nat
  rwc : Nat
  w1c : Nat
  w1s : Nat
  rc : Bool
  kind : Nat
deriving DecidableEq, Repr

/-- Who sends a register or table access (R406, R532): the service port, Ostler firmware, or a PCIe function
(0 is PF0, n is VFn). [DEDUCED, log entry 125] -/
inductive Requester where
  | svc
  | ostler
  | func (n : Nat)
deriving DecidableEq, Repr

/-- A frame as a lane's controller sends or receives it (R129, R304): format 0 Classical CAN, 1 CAN FD, 2 CAN XL,
3 LIN or 10BASE-T1S. `id` is the identifier, the LIN frame ID or the T1S EtherType; `data` the data bytes, for T1S the
frame from its destination address onwards without FCS. -/
structure LaneFrame where
  format : Nat := 0
  ide : Bool := false
  rtr : Bool := false
  brs : Bool := false
  esi : Bool := false
  id : Nat := 0
  vcid : Nat := 0
  sdt : Nat := 0
  af : Nat := 0
  data : List Byte := []
deriving DecidableEq, Repr

/-- What a receive MAC reports with a frame (R160, R178): the FCS is right, the PHY reported an error during it, and how
far counters 27 to 30 and 62 rise with it. -/
structure RxInfo where
  fcsOk : Bool := true
  phyErr : Bool := false
  fragments : Nat := 0
  smdErr : Nat := 0
  assemblyErr : Nat := 0
  assemblyOk : Nat := 0
  pcsErr : Nat := 0
  /-- bits of an SA entry that have changed in the SRAM since the last frame, seen by this frame's lookup (R360) -/
  saUpset : Option (Nat × List Nat) := none
deriving DecidableEq, Repr

/-- What the Signal Store's scrubber finds (R296): a clean slot, a single-bit error, an uncorrectable error in the slot, or
an uncorrectable error in a Team's duplicate tag. -/
inductive ScrubHit where
  | clean
  | single
  | double
  | tag (team : Nat)
deriving DecidableEq, Repr

/-- What a home bank finds when it looks up a slot and its duplicate tags (R296): no error, a single-bit error, which it corrects,
or an uncorrectable one in the slot. -/
inductive HomeEcc where
  | clean
  | single
  | double
deriving DecidableEq, Repr

/-- An uncached read of a slot at home: the word that it names and the error that the bank meets (R291, R296). -/
structure SlotRead where
  w : Nat
  ecc : HomeEcc := .clean
deriving DecidableEq, Repr

/-- A LIN header on the bus: its ID, the length of its break in bit times, and the rate in b/s that its sync byte measures (R142,
R144). -/
structure LinHead where
  id : Nat
  breakBits : Nat
  rate : Nat
deriving DecidableEq, Repr

/-- A configuration request (R85, R511): the word of the function's space that it names, the value of a write (none reads), and
what a write to PF0 sets NumVFs to. -/
structure ConfigReq where
  numVfs : Option Nat := none
  at_ : Nat := 0
  value : Option Word := none
deriving DecidableEq, Repr

/-- An error that a Courser's instruction meets (R287, R296): an uncorrectable one in instruction memory, in data memory, in a
clean line of the Team cache or in a dirty one, or a single-bit one in a line, which is corrected. -/
inductive EccHit where
  | none
  | imem
  | dmem
  | cleanLine
  | dirtyLine
  | lineSingle
deriving DecidableEq, Repr

/-- Which rule of the CAN error counters a detected error falls under (R124: those of ISO 11898-1:2024). -/
inductive BusErrKind where
  /-- a receiver detects an error: REC + 1 -/
  | receiver
  /-- a receiver sees a dominant bit as the first bit after its error flag, or a bit error in its own flag: REC + 8 -/
  | receiverPrimary
  /-- a transmitter sends an error flag: TEC + 8 -/
  | transmitter
  /-- an error-passive transmitter finds no acknowledgement and no dominant bit in its flag: TEC kept -/
  | transmitterExempt
deriving DecidableEq, Repr

/-- The parts a device may be (R1). [DESIGN CHOICE, log entry 10] -/
inductive Variant where
  | kz4860
  | kz4840
  | kz4820
deriving DecidableEq, Repr

end Sys2Proof
end

