-- ==== Sys2Proof/Syntax.lean ====
section
/-!
DEFINITION. The commands that the block takes from outside: one constructor for each row of the opcode table, in the
table's order, with the operands that the sender supplies.

Operands that name a place: `r` the requester of an access; `n` the lane, port, engine, sensor or comparator of the
row; `k` a Courser (8 × Team + Courser), a transmit buffer, a die link, a pin or a queued repair; `t` a Team; `slot` a
signal slot or a key slot; `p` a pipeline or a fabric input; `d` a time domain or a PDU definition; `j` an output
(0 to 15 HS0 to HS15, 16 to 19 HB0 to HB3); `q` a queue pair, a receive queue, a converter sequence or a logical port;
`a` an address; `v` the word written.

Operands that tell what the outside did: the bytes of a frame, of a host buffer or of a message; `age`, the nanoseconds
since the instant that a timestamp names; `busNs`, bus time in nanoseconds; `cycles`, CORECLK cycles; `wraps`, the
packet-buffer cells that reach their last line generation; `hit`, an entry whose stored bits have changed with the
positions of those bits; `ecc` and `parity`, an error met on the way; `bad`, a service-port transaction with a wrong CRC
or an early end; `sent`, the bytes of a fragment that have gone; `active`, fault conditions that still hold.
-/

namespace Sys2Proof

/-- A command of the block. -/
inductive Instr where
  /-- AON_POWER_ON_RESET (R26). -/
  | aonPowerOnReset
  /-- VBAT_VALID (R73). -/
  | vbatValid
  /-- RAILS_IN_REGULATION (R73). -/
  | railsInRegulation
  /-- PLL_LOCK (R23). -/
  | pllLock
  /-- BOOT_BIST_PARTITION_DONE (R87). -/
  | bootBistPartitionDone (fails : Nat)
  /-- IMAGE_LOAD (R57). -/
  | imageLoad
  /-- SRAM_CLEAR_DONE (R81). -/
  | sramClearDone
  /-- SERVICE_PORT_READY (R73). -/
  | servicePortReady
  /-- LANE_ENABLE (R74). -/
  | laneEnable
  /-- ROUTING_READY (R74). -/
  | routingReady
  /-- DIGEST_VERDICT (R76). -/
  | digestVerdict
  /-- OSTLER_FIRMWARE_READ (R84). -/
  | ostlerFirmwareRead
  /-- PERST_N_LOW (R26). -/
  | perstNLow
  /-- PERST_N_RISE (R85). -/
  | perstNRise
  /-- CONFIG_REQUEST (R85). -/
  | configRequest (f : Nat) (q : ConfigReq)
  /-- TEST_RESET (R26). -/
  | testReset
  /-- DIE_LINK_TRANSFER (R19). -/
  | dieLinkTransfer (k : Nat) (inward ok arriving : Bool)
  /-- PLK_SILENCE (R20). -/
  | plkSilence
  /-- DIE_LINK_RETRAIN (R21). -/
  | dieLinkRetrain (k : Nat) (outOk inOk : Bool)
  /-- ABSENT_WRITE (R9). -/
  | absentWrite (r : Requester) (a : Nat)
  /-- REGISTER_WRITE (R532). -/
  | registerWrite (r : Requester) (a : Nat) (v : Word)
  /-- COUNTER_READ (R178). -/
  | counterRead (r : Requester) (a : Nat)
  /-- RETIRE (R63). -/
  | retire (r : Requester) (slotB : Bool)
  /-- PROGRAM (R63). -/
  | program (r : Requester) (row : Nat)
  /-- COMMIT (R64). -/
  | commit (r : Requester) (slotB : Bool)
  /-- NVM_UNDEFINED_OPCODE (R65). -/
  | nvmUndefinedOpcode (r : Requester) (opcode : Nat)
  /-- NVM_CMD_COMPLETE (R71). -/
  | nvmCmdComplete
  /-- TEAM_TEST (R90). -/
  | teamTest (r : Requester) (t : Nat)
  /-- FAR_UNDEFINED_OPCODE (R92). -/
  | farUndefinedOpcode (r : Requester) (opcode : Nat)
  /-- TEAM_DRAINED (R90). -/
  | teamDrained
  /-- DRAIN_TIMEOUT (R90). -/
  | drainTimeout
  /-- TEAM_TEST_COMPLETE (R90). -/
  | teamTestComplete (fail : Bool)
  /-- LANE_INTEGRATED (R75). -/
  | laneIntegrated (n : Nat)
  /-- OVER_VOLTAGE (R102). -/
  | overVoltage (n : Nat) (pinB : Bool)
  /-- TERMINATION_RECLOSE (R102). -/
  | terminationReclose (n : Nat)
  /-- CM_RANGE (R104). -/
  | cmRange (n : Nat)
  /-- STUCK_DOMINANT (R104). -/
  | stuckDominant (n : Nat)
  /-- LIN_PULLUP_SHORT (R104). -/
  | linPullupShort (n : Nat)
  /-- LANE_THERMAL (R104). -/
  | laneThermal (n : Nat)
  /-- DOM_TIMEOUT (R104). -/
  | domTimeout (n : Nat)
  /-- LANE_FAULT_RECOVERY (R104). -/
  | laneFaultRecovery (n bit : Nat)
  /-- LANE_PHY_FAULT_CLEAR (R113). -/
  | lanePhyFaultClear (r : Requester) (n : Nat) (v : Word)
  /-- LANE_DISABLE (R111). -/
  | laneDisable (r : Requester) (n : Nat)
  /-- LANE_REENABLE (R111). -/
  | laneReenable (r : Requester) (n : Nat)
  /-- LANE_LOOPBACK (R111). -/
  | laneLoopback (r : Requester) (n : Nat)
  /-- DOMINANT_EDGE_WAKE (R107). -/
  | dominantEdgeWake (n ns : Nat)
  /-- SELECTIVE_WAKE_MATCH (R108). -/
  | selectiveWakeMatch (n : Nat) (f : LaneFrame)
  /-- PN_ERROR_OVERFLOW (R108). -/
  | pnErrorOverflow (n : Nat)
  /-- PN_OSCILLATOR_IDLE (R108). -/
  | pnOscillatorIdle (n : Nat)
  /-- CAN_FRAME_RECEIVED (R125). -/
  | canFrameReceived (n : Nat) (f : LaneFrame) (age : Nat)
  /-- PROTOCOL_EXCEPTION (R121). -/
  | protocolException (n fmt : Nat)
  /-- CAN_REINTEGRATE (R121). -/
  | canReintegrate (n : Nat)
  /-- BUS_ERROR (R124). -/
  | busError (n : Nat) (kind : BusErrKind) (busNs : Nat)
  /-- BUS_OFF_RECOVERY (R124). -/
  | busOffRecovery (n : Nat)
  /-- HP_RELEASE (R127). -/
  | hpRelease (r : Requester) (n : Nat)
  /-- ACK_IDX_WRITE (R133). -/
  | ackIdxWrite (r : Requester) (n q ack : Nat)
  /-- WATERMARK_WRITE (R134). -/
  | watermarkWrite (r : Requester) (n q w : Nat)
  /-- TX_REQUEST (R136). -/
  | txRequest (r : Requester) (n k : Nat) (v : Word)
  /-- TX_ABORT (R138). -/
  | txAbort (r : Requester) (n k : Nat) (v : Word)
  /-- LANE_TX_START (R137). -/
  | laneTxStart (n : Nat)
  /-- LOST_ARBITRATION (R137). -/
  | lostArbitration (n busNs : Nat)
  /-- LANE_TX_COMPLETE (R138). -/
  | laneTxComplete (n age busNs : Nat)
  /-- FABRIC_FRAME_TO_LANE (R136). -/
  | fabricFrameToLane (n : Nat)
  /-- LIN_HEADER (R142). -/
  | linHeader (n : Nat) (h : LinHead)
  /-- LIN_NO_RESP (R142). -/
  | linNoResp (n : Nat)
  /-- LIN_SLOT_START (R143). -/
  | linSlotStart (n : Nat) (late : Bool) (busNs : Nat)
  /-- T1S_FRAME_RECEIVED (R145). -/
  | t1sFrameReceived (n : Nat) (bytes : List Byte) (fcsOk : Bool) (age : Nat)
  /-- PLCA_BEACON (R146). -/
  | plcaBeacon (n : Nat)
  /-- PLCA_FALLBACK (R146). -/
  | plcaFallback (n : Nat)
  /-- ETH_FRAME_RECEIVED (R160). -/
  | ethFrameReceived (n : Nat) (bs : List Byte) (info : RxInfo) (age : Nat)
  /-- CUT_THROUGH_PRESENT (R166). -/
  | cutThroughPresent (n : Nat) (bs : List Byte)
  /-- STEERING_RULE_COMMIT (R163). -/
  | steeringRuleCommit (r : Requester) (n i : Nat) (v : Word)
  /-- ENDPOINT_FRAME_DELIVERY (R168). -/
  | endpointFrameDelivery (e buf : Nat) (irq : Bool)
  /-- TEAM_FRAME_ARRIVAL (R278). -/
  | teamFrameArrival (t c : Nat)
  /-- PREEMPT_VERIFY_DONE (R171). -/
  | preemptVerifyDone (n : Nat)
  /-- PREEMPT_VERIFY_TIMEOUT (R171). -/
  | preemptVerifyTimeout (n : Nat)
  /-- GATE_HOLD_APPLY (R173). -/
  | gateHoldApply (n sent : Nat)
  /-- EGRESS_FRAME_START (R254). -/
  | egressFrameStart (n sent : Nat)
  /-- EGRESS_FRAME_END (R485). -/
  | egressFrameEnd (n : Nat)
  /-- LINK_DOWN (R176). -/
  | linkDown (n : Nat) (arriving : Bool)
  /-- LINK_UP (R158). -/
  | linkUp (n : Nat)
  /-- TRAINING_FAIL (R158). -/
  | trainingFail (n : Nat)
  /-- SQI_LOW (R158). -/
  | sqiLow (n sqi : Nat)
  /-- PHY_THERMAL (R179). -/
  | phyThermal (n : Nat) (shut : Bool)
  /-- PORT_DISABLE (R177). -/
  | portDisable (r : Requester) (n : Nat)
  /-- PORT_ENABLE (R177). -/
  | portEnable (r : Requester) (n : Nat)
  /-- PIPELINE_FRAME (R185). -/
  | pipelineFrame (q wraps : Nat)
  /-- LEARN_APPLY (R197). -/
  | learnApply (p : Nat)
  /-- PEER_QUERY (R200). -/
  | peerQuery (p : Nat)
  /-- PEER_ANSWER (R200). -/
  | peerAnswer (p : Nat)
  /-- MOVE_NOTIFY (R201). -/
  | moveNotify (p : Nat)
  /-- AGEING_TICK (R199). -/
  | ageingTick (p : Nat)
  /-- STREAM_ID_RELEASE (R188). -/
  | streamIdRelease (id : Nat)
  /-- FRER_RESET (R206). -/
  | frerReset (p i : Nat)
  /-- MIRROR_COPY_DELIVER (R209). -/
  | mirrorCopyDeliver
  /-- FWD_SCRUB_READ (R213). -/
  | fwdScrubRead (p : Nat) (hit : Option (Nat × List Nat))
  /-- FWD_REPAIR_DONE (R212). -/
  | fwdRepairDone (p k : Nat)
  /-- TABLE_WRITE (R215). -/
  | tableWrite (r : Requester) (a : Nat) (bs : List Byte)
  /-- TBL_READ (R218). -/
  | tblRead (r : Requester) (p : Nat) (v : Word)
  /-- TBL_WRITE (R218). -/
  | tblWrite (r : Requester) (p : Nat) (v : Word)
  /-- TBL_INSERT (R218). -/
  | tblInsert (r : Requester) (p : Nat) (v : Word)
  /-- TBL_DELETE (R218). -/
  | tblDelete (r : Requester) (p : Nat) (v : Word)
  /-- TBL_SEARCH (R218). -/
  | tblSearch (r : Requester) (p : Nat) (v : Word)
  /-- TBL_CMD_COMPLETE (R222). -/
  | tblCmdComplete (p : Nat)
  /-- SCHEDULER_MATCHING (R229). -/
  | schedulerMatching (parity : Option (Nat × Nat)) (ecc : Option (Nat × Bool × Nat)) (stall : Bool)
  /-- POINTER_SWEEP_END (R233). -/
  | pointerSweepEnd
  /-- PARITY_WINDOW_END (R235). -/
  | parityWindowEnd
  /-- HOL_STALL (R245). -/
  | holStall (p o c : Nat)
  /-- STREAM_GATE_ENTRY (R253). -/
  | streamGateEntry (g : Nat)
  /-- GATE_LIST_ENTRY (R257). -/
  | gateListEntry (n : Nat)
  /-- GCL_CHANGE_REQUEST (R258). -/
  | gclChangeRequest (r : Requester) (n : Nat) (v : Word)
  /-- GCL_CHANGE_APPLY (R258). -/
  | gclChangeApply (n : Nat)
  /-- GATE_RESUME (R259). -/
  | gateResume (n : Nat)
  /-- SCHOOL_START (R262). -/
  | schoolStart (r : Requester) (v : Word)
  /-- SCHOOL_WINDOW_END (R262). -/
  | schoolWindowEnd
  /-- STM_SCRUB_READ (R266). -/
  | stmScrubRead (hit : Option (Nat × List Nat))
  /-- STM_REPAIR_DONE (R266). -/
  | stmRepairDone (k : Nat)
  /-- ADD (R281). -/
  | add (k : Nat) (ecc : EccHit)
  /-- SUB (R281). -/
  | sub (k : Nat) (ecc : EccHit)
  /-- AND (R281). -/
  | and (k : Nat) (ecc : EccHit)
  /-- OR (R281). -/
  | or (k : Nat) (ecc : EccHit)
  /-- XOR (R281). -/
  | xor (k : Nat) (ecc : EccHit)
  /-- SLL (R281). -/
  | sll (k : Nat) (ecc : EccHit)
  /-- SRL (R281). -/
  | srl (k : Nat) (ecc : EccHit)
  /-- SRA (R281). -/
  | sra (k : Nat) (ecc : EccHit)
  /-- SLT (R281). -/
  | slt (k : Nat) (ecc : EccHit)
  /-- SLTU (R281). -/
  | sltu (k : Nat) (ecc : EccHit)
  /-- MUL (R281). -/
  | mul (k : Nat) (ecc : EccHit)
  /-- MULH (R281). -/
  | mulh (k : Nat) (ecc : EccHit)
  /-- ADDI (R281). -/
  | addi (k : Nat) (ecc : EccHit)
  /-- ANDI (R281). -/
  | andi (k : Nat) (ecc : EccHit)
  /-- ORI (R281). -/
  | ori (k : Nat) (ecc : EccHit)
  /-- XORI (R281). -/
  | xori (k : Nat) (ecc : EccHit)
  /-- SLTI (R281). -/
  | slti (k : Nat) (ecc : EccHit)
  /-- SLLI (R281). -/
  | slli (k : Nat) (ecc : EccHit)
  /-- SRLI (R281). -/
  | srli (k : Nat) (ecc : EccHit)
  /-- SRAI (R281). -/
  | srai (k : Nat) (ecc : EccHit)
  /-- LUI (R281). -/
  | lui (k : Nat) (ecc : EccHit)
  /-- LW (R281). -/
  | lw (k : Nat) (ecc : EccHit)
  /-- LH (R281). -/
  | lh (k : Nat) (ecc : EccHit)
  /-- LHU (R281). -/
  | lhu (k : Nat) (ecc : EccHit)
  /-- LB (R281). -/
  | lb (k : Nat) (ecc : EccHit)
  /-- LBU (R281). -/
  | lbu (k : Nat) (ecc : EccHit)
  /-- SW (R281). -/
  | sw (k : Nat) (ecc : EccHit)
  /-- SH (R281). -/
  | sh (k : Nat) (ecc : EccHit)
  /-- SB (R281). -/
  | sb (k : Nat) (ecc : EccHit)
  /-- BEQ (R281). -/
  | beq (k : Nat) (ecc : EccHit)
  /-- BNE (R281). -/
  | bne (k : Nat) (ecc : EccHit)
  /-- BLT (R281). -/
  | blt (k : Nat) (ecc : EccHit)
  /-- BGE (R281). -/
  | bge (k : Nat) (ecc : EccHit)
  /-- BLTU (R281). -/
  | bltu (k : Nat) (ecc : EccHit)
  /-- BGEU (R281). -/
  | bgeu (k : Nat) (ecc : EccHit)
  /-- JAL (R281). -/
  | jal (k : Nat) (ecc : EccHit)
  /-- JALR (R281). -/
  | jalr (k : Nat) (ecc : EccHit)
  /-- BFX (R282). -/
  | bfx (k : Nat) (ecc : EccHit)
  /-- BFI (R282). -/
  | bfi (k : Nat) (ecc : EccHit)
  /-- BFXR (R282). -/
  | bfxr (k : Nat) (ecc : EccHit)
  /-- BFIR (R282). -/
  | bfir (k : Nat) (ecc : EccHit)
  /-- CRCB (R283). -/
  | crcb (k : Nat) (ecc : EccHit)
  /-- CRCW (R283). -/
  | crcw (k : Nat) (ecc : EccHit)
  /-- SCALE (R283). -/
  | scale (k : Nat) (ecc : EccHit)
  /-- QGET (R285). -/
  | qget (k : Nat) (ecc : EccHit)
  /-- QPUT (R285). -/
  | qput (k : Nat) (ecc : EccHit)
  /-- SLD (R284). -/
  | sld (k : Nat) (ecc : EccHit)
  /-- SST (R284). -/
  | sst (k : Nat) (ecc : EccHit)
  /-- SSTC (R284). -/
  | sstc (k : Nat) (ecc : EccHit)
  /-- SFL (R293). -/
  | sfl (k : Nat) (ecc : EccHit)
  /-- WAITT (R286). -/
  | waitt (k : Nat) (ecc : EccHit)
  /-- WAITE (R286). -/
  | waite (k : Nat) (ecc : EccHit)
  /-- RDT (R281). -/
  | rdt (k : Nat) (ecc : EccHit)
  /-- EVR (R285). -/
  | evr (k : Nat) (ecc : EccHit)
  /-- CIPH (R285). -/
  | ciph (k : Nat) (ecc : EccHit)
  /-- YIELD (R293). -/
  | yield (k : Nat) (ecc : EccHit)
  /-- RUN_LIMIT (R287). -/
  | runLimit (k : Nat)
  /-- COURSER_RESUME (R286). -/
  | courserResume (k : Nat)
  /-- COURSER_AUTO_RESTART (R288). -/
  | courserAutoRestart (k : Nat)
  /-- COURSER_RESTART (R288). -/
  | courserRestart (r : Requester) (k : Nat)
  /-- COURSER_HALT (R287). -/
  | courserHalt (r : Requester) (k : Nat)
  /-- DOORBELL_RING (R286). -/
  | doorbellRing (r : Requester) (t : Nat) (v : Word)
  /-- GETS (R291). -/
  | gets (t slot : Nat) (ecc : HomeEcc)
  /-- GETM (R291). -/
  | getm (t slot : Nat) (ecc : HomeEcc)
  /-- PUTM (R294). -/
  | putm (t slot : Nat)
  /-- PUTS (R290). -/
  | puts (t slot : Nat)
  /-- HWR (R316). -/
  | hwr (slot : Nat)
  /-- HRD (R291). -/
  | hrd (r : Requester) (slot : Nat) (x : SlotRead)
  /-- FETCH (R292). -/
  | fetch (t slot : Nat)
  /-- FETCHINV (R292). -/
  | fetchinv (t slot : Nat)
  /-- INV (R292). -/
  | inv (t slot : Nat)
  /-- SNOOP_DATA (R294). -/
  | snoopData (t slot : Nat)
  /-- SNOOP_ACK (R291). -/
  | snoopAck (t slot : Nat)
  /-- SNOOP_ABSENT (R294). -/
  | snoopAbsent (t slot : Nat)
  /-- PUTM_ACK (R292). -/
  | putmAck (t slot : Nat)
  /-- LINE_FILL (R291). -/
  | lineFill (t slot cycles : Nat)
  /-- SIG_SCRUB_READ (R296). -/
  | sigScrubRead (hit : ScrubHit)
  /-- DIR_REBUILD_DONE (R296). -/
  | dirRebuildDone (t : Nat)
  /-- AGGREGATOR_FRAME (R304). -/
  | aggregatorFrame (n : Nat)
  /-- DEFERRED_RELEASE (R314). -/
  | deferredRelease (u : Nat)
  /-- STALENESS_SWEEP (R317). -/
  | stalenessSweep (i : Nat)
  /-- EVENT_SEND (R319). -/
  | eventSend (d : Nat)
  /-- CYCLIC_SEND (R319). -/
  | cyclicSend (d : Nat)
  /-- TUNNEL_SEND (R325). -/
  | tunnelSend (d : Nat)
  /-- ACF_DOWNLINK (R326). -/
  | acfDownlink (n : Nat)
  /-- ROUTE_SCRUB_READ (R329). -/
  | routeScrubRead (hit : Option (Nat × List Nat))
  /-- ROUTE_REPAIR_DONE (R329). -/
  | routeRepairDone (k : Nat)
  /-- INCREMENT_COMMIT (R337). -/
  | incrementCommit (r : Requester) (d v : Nat)
  /-- TIME_STEP (R338). -/
  | timeStep (r : Requester) (d : Nat)
  /-- THRESH_WRITE (R339). -/
  | threshWrite (r : Requester) (d : Nat) (v : Word)
  /-- THRESH_RESTORE (R339). -/
  | threshRestore (r : Requester) (d : Nat)
  /-- TIME_CAPTURE_READ (R340). -/
  | timeCaptureRead (r : Requester) (d : Nat)
  /-- SYNC_REPORT (R341). -/
  | syncReport (r : Requester) (d : Nat) (offset : Word)
  /-- SYNC_LOST (R342). -/
  | syncLost (d : Nat)
  /-- WAKE_GUARD_EXPIRY (R344). -/
  | wakeGuardExpiry
  /-- TRIGGER_FIRE (R345). -/
  | triggerFire (n : Nat)
  /-- TRIGGER_TARGET_COMMIT (R346). -/
  | triggerTargetCommit (r : Requester) (n : Nat) (hi : Word)
  /-- GPIO_PULSE_END (R347). -/
  | gpioPulseEnd (n : Nat)
  /-- CAPTURE_EDGE (R348). -/
  | captureEdge (k : Nat) (rising : Bool) (age : Nat)
  /-- CAPTURE_FIFO_POP (R357). -/
  | captureFifoPop (r : Requester) (k : Nat)
  /-- PTP_FIFO_POP (R358). -/
  | ptpFifoPop (r : Requester) (n : Nat) (tx : Bool)
  /-- MACSEC_ICV_VERDICT (R367). -/
  | macsecIcvVerdict (n : Nat)
  /-- JOB_SUBMIT (R368). -/
  | jobSubmit (r : Requester) (f : Nat) (desc : List Byte)
  /-- JOB_START (R376). -/
  | jobStart (n : Nat) (src : Option (List Byte))
  /-- JOB_SUSPEND (R376). -/
  | jobSuspend (done : Nat)
  /-- JOB_COMPLETE (R374). -/
  | jobComplete (n : Nat) (writeFail : Bool) (cycles : Nat)
  /-- FRAME_JOB (R380). -/
  | frameJob
  /-- FRAME_JOB_DONE (R380). -/
  | frameJobDone (n : Nat)
  /-- KEY_WRITE (R388). -/
  | keyWrite (r : Requester) (slot : Nat)
  /-- KEY_CLEAR (R388). -/
  | keyClear (r : Requester) (slot : Nat)
  /-- KEY_DERIVE (R390). -/
  | keyDerive (r : Requester) (slot : Nat)
  /-- KEY_WRAP (R388). -/
  | keyWrap (r : Requester) (slot : Nat)
  /-- KEY_UNWRAP (R388). -/
  | keyUnwrap (r : Requester) (slot : Nat)
  /-- KEY_ATTEST (R399). -/
  | keyAttest (r : Requester) (slot : Nat)
  /-- KEY_INFO (R388). -/
  | keyInfo (r : Requester) (slot : Nat)
  /-- KEY_UNDEFINED_OPCODE (R388). -/
  | keyUndefinedOpcode (r : Requester) (opcode : Nat)
  /-- KEY_CMD_COMPLETE (R387). -/
  | keyCmdComplete
  /-- PERSIST_LOAD_DONE (R396). -/
  | persistLoadDone
  /-- DEBUG_UNLOCK (R397). -/
  | debugUnlock (token : List Byte)
  /-- TAMPER_ASSERT (R400). -/
  | tamperAssert (n : Nat)
  /-- PERSIST_ERASE_DONE (R401). -/
  | persistEraseDone
  /-- TAMPER_LATCH_CLEAR (R402). -/
  | tamperLatchClear (r : Requester) (mask : Nat)
  /-- OWNER_CREATE (R410). -/
  | ownerCreate (r : Requester) (o : Nat)
  /-- OWNER_DESTROY (R411). -/
  | ownerDestroy (r : Requester) (o : Nat)
  /-- SCL_CMD_COMPLETE (R411). -/
  | sclCmdComplete
  /-- STATE_TARGET_WRITE (R419). -/
  | stateTargetWrite (r : Requester) (target : Nat)
  /-- STATE_MOVE_DONE (R419). -/
  | stateMoveDone
  /-- PADDOCK_DRAIN_TIMEOUT (R420). -/
  | paddockDrainTimeout
  /-- WAKE_LINE_LOW (R430). -/
  | wakeLineLow (us : Nat)
  /-- WAKE_TIMER (R421). -/
  | wakeTimer
  /-- SERVICE_CS_WAKE (R421). -/
  | serviceCsWake
  /-- WAKE_START (R422). -/
  | wakeStart
  /-- SLEEP_WRITE (R424). -/
  | sleepWrite (r : Requester)
  /-- UNDERVOLTAGE (R424). -/
  | undervoltage
  /-- OFF_LATCH_ACT (R427). -/
  | offLatchAct
  /-- DETECTOR_ARM (R106). -/
  | detectorArm
  /-- LANE_RELEASE (R425). -/
  | laneRelease
  /-- ETHERNET_SILENCE (R425). -/
  | ethernetSilence
  /-- CORE_LINE_OFF (R425). -/
  | coreLineOff
  /-- PDIE_OFF (R425). -/
  | pdieOff
  /-- BUCK_DROPOUT (R545). -/
  | buckDropout
  /-- WAKE_ASSERT (R430). -/
  | wakeAssert (r : Requester)
  /-- WAKE_PULSE_END (R430). -/
  | wakePulseEnd
  /-- WAKE_HELD_RELEASE (R430). -/
  | wakeHeldRelease
  /-- WAKE_STUCK (R430). -/
  | wakeStuck
  /-- CONSENT_WRITE (R431). -/
  | consentWrite (r : Requester) (v : Nat)
  /-- QUIET_TIME_EXPIRY (R431). -/
  | quietTimeExpiry (wake : Bool)
  /-- MIN_AWAKE_EXPIRY (R431). -/
  | minAwakeExpiry
  /-- RING_MESSAGE (R434). -/
  | ringMessage (bytes : List Byte)
  /-- RING_SILENCE_EXPIRY (R435). -/
  | ringSilenceExpiry
  /-- HOP_TIMEOUT (R437). -/
  | hopTimeout
  /-- CONFIRM_SILENCE_EXPIRY (R438). -/
  | confirmSilenceExpiry
  /-- DISMOUNT_END (R438). -/
  | dismountEnd
  /-- OUTPUT_COMMAND (R448). -/
  | outputCommand (r : Requester) (j : Nat) (v : Word)
  /-- PWM_PERIOD (R447). -/
  | pwmPeriod (j : Nat)
  /-- CURRENT_SAMPLE (R450). -/
  | currentSample (currents : List Nat)
  /-- SHORT_CIRCUIT (R451). -/
  | shortCircuit (j : Nat)
  /-- INRUSH (R451). -/
  | inrush (j : Nat)
  /-- OUTPUT_THERMAL (R451). -/
  | outputThermal (j : Nat)
  /-- SHED_REEVALUATE (R454). -/
  | shedReevaluate (g : Nat)
  /-- MAX_ON_EXPIRY (R452). -/
  | maxOnExpiry (j : Nat)
  /-- MIN_OFF_EXPIRY (R452). -/
  | minOffExpiry (j : Nat)
  /-- OUTPUT_RETRY (R453). -/
  | outputRetry (j : Nat)
  /-- RETRY_BUDGET_RESTORE (R453). -/
  | retryBudgetRestore (j : Nat)
  /-- OUTPUT_FAULT_CLEAR (R453). -/
  | outputFaultClear (r : Requester) (j v active : Nat)
  /-- OPEN_LOAD (R455). -/
  | openLoad (j : Nat)
  /-- OFF_STATE_CHECK (R455). -/
  | offStateCheck (j : Nat) (above : Bool)
  /-- OFF_STATE_PULLUP_END (R455). -/
  | offStatePullupEnd (j : Nat) (above : Bool)
  /-- PLK_LOST_CLEAR (R456). -/
  | plkLostClear
  /-- PROFILE_RUN (R458). -/
  | profileRun (r : Requester) (j : Nat) (v : Word)
  /-- PROFILE_STOP (R458). -/
  | profileStop (r : Requester) (j : Nat) (v : Word)
  /-- PROFILE_JUMP (R459). -/
  | profileJump (r : Requester) (j : Nat) (v : Word)
  /-- PROFILE_SAMPLE (R458). -/
  | profileSample (j : Nat)
  /-- SAR_SEQUENCE_GO (R461). -/
  | sarSequenceGo (r : Requester) (q : Nat)
  /-- SAR_PERIOD (R461). -/
  | sarPeriod (q : Nat)
  /-- SEQUENCE_DONE (R461). -/
  | sequenceDone (results : List Nat)
  /-- BAT_MEAS_START (R463). -/
  | batMeasStart (r : Requester)
  /-- BAT_PERIOD (R463). -/
  | batPeriod
  /-- BAT_MEAS_DONE (R463). -/
  | batMeasDone (cells : List Nat) (vpack : Nat)
  /-- OPEN_WIRE_START (R465). -/
  | openWireStart (r : Requester)
  /-- OPEN_WIRE_PHASE (R465). -/
  | openWirePhase (cells : List Nat)
  /-- OSTLER_KICK (R478). -/
  | ostlerKick (r : Requester)
  /-- WATCHDOG (R478). -/
  | watchdog
  /-- LOCKSTEP (R478). -/
  | lockstep
  /-- OSTLER_AUTO_RESTART (R478). -/
  | ostlerAutoRestart
  /-- OSTLER_RESTART (R478). -/
  | ostlerRestart (r : Requester)
  /-- HOBBLE_COPY_MISMATCH (R486). -/
  | hobbleCopyMismatch (off : Nat) (copyB : Bool) (byte : Byte)
  /-- HOBBLE_RESTORE_DONE (R486). -/
  | hobbleRestoreDone
  /-- ARBITER_GRANT (R490). -/
  | arbiterGrant (a waiting : Nat) (running : Option Nat) (wait : Nat)
  /-- PEND_CLEAR (R499). -/
  | pendClear (r : Requester) (n v : Nat)
  /-- COALESCE_WINDOW_END (R503). -/
  | coalesceWindowEnd (src : Nat)
  /-- BB_WRITE (R507). -/
  | bbWrite
  /-- BB_SCAN_DONE (R507). -/
  | bbScanDone
  /-- JOURNAL_RD_WRITE (R502). -/
  | journalRdWrite (r : Requester) (ost : Bool) (rd : Nat)
  /-- READER_ENABLE (R502). -/
  | readerEnable (r : Requester) (ost : Bool)
  /-- HOST_LINK_UP (R527). -/
  | hostLinkUp (width gen : Nat)
  /-- HOST_LINK_DOWN (R527). -/
  | hostLinkDown
  /-- PME_TURN_OFF (R510). -/
  | pmeTurnOff
  /-- FLR (R513). -/
  | flr (f : Nat)
  /-- QP_TX_POST (R516). -/
  | qpTxPost (r : Requester) (q tail : Nat)
  /-- TX_DESCRIPTOR (R516). -/
  | txDescriptor (q w2 : Nat) (buffer : List Byte)
  /-- DMA_ERROR (R518). -/
  | dmaError (q : Nat) (tx : Bool)
  /-- SVC_WRITE (R521). -/
  | svcWrite (off : Nat) (ws : List Word) (bad : Bool)
  /-- SVC_READ (R521). -/
  | svcRead (off count : Nat) (bad : Bool)
  /-- SVC_FETCH (R521). -/
  | svcFetch (bad : Bool)
  /-- SVC_STATUS (R524). -/
  | svcStatus (bad : Bool)
  /-- SVC_WINDOW (R522). -/
  | svcWindow (base : Nat) (bad : Bool)
  /-- SVC_MBOX (R523). -/
  | svcMbox (ws : List Word) (bad : Bool)
  /-- MBOX_ANSWER (R523). -/
  | mboxAnswer
  /-- MBOX_TIMEOUT (R523). -/
  | mboxTimeout
  /-- SVC_COMMAND_DONE (R521). -/
  | svcCommandDone
  /-- ACLK_CALIBRATION (R24). -/
  | aclkCalibration
  /-- SCAN_ENABLE (R88). -/
  | scanEnable
  /-- LIN_RESPONSE_END (R142). -/
  | linResponseEnd (n : Nat) (data : List Byte) (checksum : Nat) (framingErr : Bool) (break_ busNs : Nat)
  /-- RX_JABBER (R160). -/
  | rxJabber (n : Nat)
  /-- HOST_POST (R275). -/
  | hostPost (r : Requester) (t : Nat) (w0 w1 w2 w3 : Word)
  /-- SENSOR_DEASSERT (R400). -/
  | sensorDeassert (n : Nat)
  /-- WAKE_LINE_HIGH (R430). -/
  | wakeLineHigh
  /-- LOW_POWER_BIAS_ACTIVE (R548). -/
  | lowPowerBiasActive (n : Nat)
  /-- LOW_POWER_BIAS_IDLE (R548). -/
  | lowPowerBiasIdle (n : Nat)
  /-- VIO_LOW (R550). -/
  | vioLow
  /-- VIO_RESTORED (R550). -/
  | vioRestored
deriving DecidableEq, Repr

end Sys2Proof
end

