-- ==== Sys2Proof/Decode.lean ====
section
/-!
DEFINITION. The commands that a word spells by the bits of the opcode table. The table gives none of its rows any bits
(every row's list of fields is empty): commands reach the block as writes, reads, events and messages, never as encoded
words, so no word spells a command.
-/

namespace Sys2Proof

/-- The command that a word of `nbits` bits spells by the opcode table: none, since the table gives no row bits.
[DEDUCED, log entry 2] -/
def decodeTableWord (_nbits _w : Nat) : Option Instr := none

end Sys2Proof
end

