-- ==== Sys2Proof/Config.lean ====
section
/-!
DEFINITION. What one device fixes and the specification leaves to it: the free values, drawn one after another through
the counter `State.freeNext`, and the cryptographic functions that the specification takes from published standards
without restating them, as opaque constants: no proof can see a value of one. Only the output lengths that those standards fix
are stated.
-/

namespace Sys2Proof.Config

/-- A free value of 64 bits: the `i`-th value that the specification leaves open in this run.
[DESIGN CHOICE, log entry 6] -/
opaque freeValue : Nat → BitVec 64

/-- The first `n` bytes of a list, 0 beyond its end: what gives a function's output the length its standard fixes. -/
def fit (n : Nat) (l : List Byte) : List Byte := (List.range n).map fun i => l.getD i 0

/-- ECDSA P-256 verification: key (X then Y), signature (r then s), digest (R56, R379). -/
opaque ecdsaVerify : List Byte → List Byte → List Byte → Bool

/-- The boot ROM's verdict on the 2 MiB Ostler firmware region under the Lamnar key held in fuses (R84). -/
opaque firmwareVerifies : List Byte → Bool

opaque sha256Bytes : List Byte → List Byte
opaque hmacBytes : List Byte → List Byte → List Byte
opaque cmacBytes : List Byte → List Byte → List Byte
opaque gcmSealBytes : List Byte → List Byte → List Byte → List Byte → List Byte
opaque gcmOpenBytes : List Byte → List Byte → List Byte → List Byte → List Byte → Option (List Byte)
opaque ctrBytes : List Byte → List Byte → List Byte → List Byte
opaque cbcBytes : Bool → List Byte → List Byte → List Byte → List Byte
opaque cfbBytes : Bool → List Byte → List Byte → List Byte → List Byte
opaque ofbBytes : List Byte → List Byte → List Byte → List Byte
opaque ccmSealBytes : List Byte → List Byte → Nat → List Byte → List Byte → List Byte
opaque wrapBytes : List Byte → List Byte → List Byte
opaque unwrapBytes : List Byte → List Byte → Option (List Byte)
opaque debugBytes : List Byte

/-- SHA-256 (FIPS 180-4), 32 bytes (R42). [UNVERIFIED, log entry 8] -/
def sha256 (m : List Byte) : List Byte := fit 32 (sha256Bytes m)

/-- HMAC-SHA-256 of a key and a message, 32 bytes (R390, R399). [UNVERIFIED, log entry 8] -/
def hmacSha256 (key m : List Byte) : List Byte := fit 32 (hmacBytes key m)

/-- AES-CMAC of a key and a message, 16 bytes (R366). -/
def aesCmac (key m : List Byte) : List Byte := fit 16 (cmacBytes key m)

/-- AES-GCM encryption: key, initialisation vector, additional data, plaintext; ciphertext then the 16-byte tag. -/
def aesGcmSeal (key iv aad plain : List Byte) : List Byte := fit (plain.length + 16) (gcmSealBytes key iv aad plain)

/-- AES-GCM decryption: key, initialisation vector, additional data, ciphertext, tag; none when the tag fails. -/
def aesGcmOpen (key iv aad body tag : List Byte) : Option (List Byte) :=
  (gcmOpenBytes key iv aad body tag).map (fit body.length)

/-- AES in counter mode: key, initial counter block, data. -/
def aesCtr (key iv d : List Byte) : List Byte := fit d.length (ctrBytes key iv d)

/-- AES in CBC mode: encrypting or not, key, initialisation vector, data. -/
def aesCbc (enc : Bool) (key iv d : List Byte) : List Byte := fit d.length (cbcBytes enc key iv d)

/-- AES in CFB-128 mode: encrypting or not, key, initialisation vector, data. -/
def aesCfb (enc : Bool) (key iv d : List Byte) : List Byte := fit d.length (cfbBytes enc key iv d)

/-- AES in OFB mode: key, initialisation vector, data. -/
def aesOfb (key iv d : List Byte) : List Byte := fit d.length (ofbBytes key iv d)

/-- AES-CCM encryption: key, 12-byte nonce, tag length, additional data, plaintext; ciphertext then the tag. -/
def aesCcmSeal (key nonce : List Byte) (tag : Nat) (aad plain : List Byte) : List Byte :=
  fit (plain.length + tag) (ccmSealBytes key nonce tag aad plain)

/-- AES-CCM verification: key, nonce, additional data, ciphertext, tag. -/
opaque aesCcmVerify : List Byte → List Byte → List Byte → List Byte → List Byte → Bool

/-- AES key wrap (RFC 3394): wrapping key and key data; 8 bytes longer than the data. -/
def keyWrap (kek key : List Byte) : List Byte := fit (key.length + 8) (wrapBytes kek key)

/-- AES key unwrap (RFC 3394): none when the integrity check fails. -/
def keyUnwrap (kek d : List Byte) : Option (List Byte) := (unwrapBytes kek d).map (fit (d.length - 8))

/-- [UNVERIFIED, log entry 9] -/
opaque rootBytes : List Byte

/-- The device's root secret, 256 bits (R391, R392). [UNVERIFIED, log entry 9] -/
def rootSecret : List Byte := fit 32 rootBytes

/-- The debug key digest held in fuses (R397). -/
def debugKeyDigest : List Byte := fit 32 debugBytes

/-- Whether the root fuse bank passes its CRC check on this device (R392). -/
opaque rootFusesGood : Bool

end Sys2Proof.Config
end

