-- ==== Sys2Proof/Machine/Bits.lean ====
section
/-!
DEFINITION. Bit fields, byte orders, CRCs and the sparse maps in canonical form that the state keeps its registers,
memories and unit records in.
-/

namespace Sys2Proof.Machine

/-! ### Bit fields -/

/-- Bits `hi..lo` of a natural number. -/
def bitsOf (v hi lo : Nat) : Nat := v / 2 ^ lo % 2 ^ (hi + 1 - lo)

/-- Bit `i` of a natural number. -/
def bitOf (v i : Nat) : Bool := v / 2 ^ i % 2 == 1

/-- The mask with bits `hi..lo` set. -/
def fieldMask (hi lo : Nat) : Word := BitVec.ofNat 32 ((2 ^ (hi + 1 - lo) - 1) * 2 ^ lo)

/-- Field `hi..lo` of a register word. -/
def getField (w : Word) (hi lo : Nat) : Nat := (w &&& fieldMask hi lo).toNat / 2 ^ lo

/-- The register word with field `hi..lo` replaced by `n`, every other bit kept. -/
def setField (w : Word) (hi lo n : Nat) : Word :=
  (w &&& ~~~fieldMask hi lo) ||| (BitVec.ofNat 32 (n * 2 ^ lo) &&& fieldMask hi lo)

/-- The 32-bit word of a natural number. -/
def word (n : Nat) : Word := BitVec.ofNat 32 n

/-- 1 for true, 0 for false. -/
def b2n (b : Bool) : Nat := if b then 1 else 0

/-- The number of one bits among bits 0 to `n - 1`. -/
def popCount : Nat → Nat → Nat
  | 0, _ => 0
  | n + 1, v => v % 2 + popCount n (v / 2)

/-- Two's complement reading of the low `w` bits. -/
def signed (w v : Nat) : Int :=
  let u := v % 2 ^ w
  if 2 ^ w ≤ 2 * u then (u : Int) - 2 ^ w else u

/-- The low `w` bits of an integer, as a natural number. -/
def unsigned (w : Nat) (i : Int) : Nat := (i % (2 ^ w : Nat)).toNat

/-! ### Byte orders (R37: little-endian, unless a field says otherwise) -/

/-- The bytes of `v`, `n` of them, the lowest first. -/
def leBytes : Nat → Nat → List Byte
  | 0, _ => []
  | n + 1, v => BitVec.ofNat 8 v :: leBytes n (v / 256)

/-- The number that bytes spell, the first the lowest. -/
def leNat : List Byte → Nat
  | [] => 0
  | b :: bs => b.toNat + 256 * leNat bs

/-- The bytes of `v`, `n` of them, the highest first. -/
def beBytes (n v : Nat) : List Byte := (leBytes n v).reverse

/-- The number that bytes spell, the first the highest. -/
def beNat (bs : List Byte) : Nat := leNat bs.reverse

/-- Byte `i` of a list, 0 beyond its end. -/
def byteAt (bs : List Byte) (i : Nat) : Byte := bs.getD i 0

/-- `n` bytes from offset `o`, with zeros beyond the list's end. -/
def slice (bs : List Byte) (o n : Nat) : List Byte := (List.range n).map fun i => byteAt bs (o + i)

/-- The little-endian number of `n` bytes at offset `o`. -/
def leAt (bs : List Byte) (o n : Nat) : Nat := leNat (slice bs o n)

/-- The big-endian number of `n` bytes at offset `o`. -/
def beAt (bs : List Byte) (o n : Nat) : Nat := beNat (slice bs o n)

/-- The bytes of words, each little-endian. -/
def wordsToBytes (ws : List Word) : List Byte := ws.flatMap fun w => leBytes 4 w.toNat

/-- Bytes `o`, `o + 1`, … replaced by the given ones; the list's length is kept. -/
def overlay (bs : List Byte) (o : Nat) (new : List Byte) : List Byte :=
  bs.zipIdx.map fun (b, i) => if o ≤ i then new.getD (i - o) b else b

/-! ### CRCs -/

/-- One bit of a reflected CRC with the reversed polynomial `poly`. -/
def crcBit (poly c : Nat) : Nat := if c % 2 = 1 then (c / 2) ^^^ poly else c / 2

/-- One byte of a reflected CRC. -/
def crcByte (poly c : Nat) (b : Byte) : Nat := Nat.repeat (crcBit poly) 8 (c ^^^ b.toNat)

/-- CRC-32 of IEEE 802.3 over bytes. -/
def crc32 (bs : List Byte) : Nat := bs.foldl (crcByte 0xEDB88320) 0xFFFFFFFF ^^^ 0xFFFFFFFF

/-! ### Sparse maps

Data keyed by natural numbers, most keys holding a default that depends on the key. A map lists its keys in strictly
rising order and lists no key whose value is the default, so equal maps are equal lists. -/

/-- The value at key `k`. -/
def look {α : Type} (d : Nat → α) : List (Nat × α) → Nat → α
  | [], k => d k
  | (a, v) :: m, k => if a = k then v else look d m k

/-- The map without key `k`. -/
def unlist {α : Type} : List (Nat × α) → Nat → List (Nat × α)
  | [], _ => []
  | (a, v) :: m, k => if a = k then unlist m k else (a, v) :: unlist m k

/-- The map with `v` listed at key `k`, in key order. -/
def listAt {α : Type} : List (Nat × α) → Nat → α → List (Nat × α)
  | [], k, v => [(k, v)]
  | (a, w) :: m, k, v => if k < a then (k, v) :: (a, w) :: m else if a = k then (k, v) :: m else (a, w) :: listAt m k v

/-- The map with `v` at key `k`: a default value is not listed. -/
def put {α : Type} [DecidableEq α] (d : Nat → α) (m : List (Nat × α)) (k : Nat) (v : α) : List (Nat × α) :=
  if v = d k then unlist m k else listAt m k v

/-- The map with every listed value replaced by what `f` makes of it. -/
def mapVals {α : Type} [DecidableEq α] (d : Nat → α) (f : Nat → α → α) (m : List (Nat × α)) : List (Nat × α) :=
  m.foldl (fun acc e => put d acc e.1 (f e.1 e.2)) []

/-- Keys strictly rising from `lo`, and no listed value its key's default. -/
def sparseFrom {α : Type} [DecidableEq α] (d : Nat → α) : Nat → List (Nat × α) → Bool
  | _, [] => true
  | lo, (a, v) :: m => decide (lo ≤ a) && !decide (v = d a) && sparseFrom d (a + 1) m

/-- The canonical form of a sparse map. -/
def sparseWf {α : Type} [DecidableEq α] (d : Nat → α) (m : List (Nat × α)) : Bool := sparseFrom d 0 m

/-! ### Byte memories -/

/-- What a byte that nothing has written reads as. [DESIGN CHOICE, log entry 12] -/
def memDefault (_ : Nat) : Byte := 0

/-- The byte at an address. [DESIGN CHOICE, log entry 12] -/
def memGet (m : List (Nat × Byte)) (a : Nat) : Byte := look memDefault m a

/-- The memory with one byte written. -/
def memSet (m : List (Nat × Byte)) (a : Nat) (b : Byte) : List (Nat × Byte) := put memDefault m a b

/-- `n` bytes from an address. -/
def memRead (m : List (Nat × Byte)) (a n : Nat) : List Byte := (List.range n).map fun i => memGet m (a + i)

/-- Bytes written from an address on. -/
def memWrite (m : List (Nat × Byte)) : Nat → List Byte → List (Nat × Byte)
  | _, [] => m
  | a, b :: bs => memWrite (memSet m a b) (a + 1) bs

/-- The canonical form of a byte memory: addresses strictly rising and no listed zero. -/
def memWf (m : List (Nat × Byte)) : Bool := sparseWf memDefault m

/-- The map without the keys from `lo` to `hi`. -/
def dropRange {α : Type} (m : List (Nat × α)) (lo hi : Nat) : List (Nat × α) :=
  m.filter fun e => e.1 < lo || hi < e.1

end Sys2Proof.Machine
end

