-- ==== Sys2Proof/Machine/Regs.lean ====
section
/-!
DEFINITION. The register map: the address of every register (R534, R535, R537 and the register table of each
chapter), the fields of every register and of every table entry under the spec's own names, the value each register
has after reset where that value is not 0, and the access codes of R15 as one mask per code.
-/

namespace Sys2Proof.Machine


/-! ### NVM block (02_harness_image.md, R69) -/
def NVM_CMD : Nat := 0xA0000
def NVM_CMD_row : Fld := ⟨NVM_CMD, 28, 12⟩
def NVM_CMD_slot : Fld := ⟨NVM_CMD, 8, 8⟩
def NVM_CMD_opcode : Fld := ⟨NVM_CMD, 3, 0⟩
def NVM_STATUS : Nat := 0xA0004
def NVM_STATUS_status : Fld := ⟨NVM_STATUS, 31, 16⟩
def NVM_STATUS_not_retired : Fld := ⟨NVM_STATUS, 7, 7⟩
def NVM_STATUS_requester : Fld := ⟨NVM_STATUS, 5, 4⟩
def NVM_STATUS_boot_done : Fld := ⟨NVM_STATUS, 2, 2⟩
def NVM_STATUS_done : Fld := ⟨NVM_STATUS, 1, 1⟩
def NVM_STATUS_busy : Fld := ⟨NVM_STATUS, 0, 0⟩
def NVM_SLOT_STATE : Nat := 0xA0008
def NVM_SLOT_STATE_active : Fld := ⟨NVM_SLOT_STATE, 4, 4⟩
def NVM_SLOT_STATE_b_retired : Fld := ⟨NVM_SLOT_STATE, 3, 3⟩
def NVM_SLOT_STATE_a_retired : Fld := ⟨NVM_SLOT_STATE, 2, 2⟩
def NVM_SLOT_STATE_b_valid : Fld := ⟨NVM_SLOT_STATE, 1, 1⟩
def NVM_SLOT_STATE_a_valid : Fld := ⟨NVM_SLOT_STATE, 0, 0⟩
def NVM_SLOT_A_GEN : Nat := 0xA000C
def NVM_SLOT_B_GEN : Nat := 0xA0010
def NVM_GEN_LAST : Nat := 0xA0014
def NVM_REJECTS : Nat := 0xA0018
def NVM_SIGNER_DIGEST (i : Nat) : Nat := 0xA0040 + 0x20 * i
def NVM_WBUF (i : Nat) : Nat := 0xA0100 + 0x4 * i

/-! ### FAR block (03_startup_selftest.md, R91) -/
def FAR_CMD : Nat := 0x90000
def FAR_CMD_team : Fld := ⟨FAR_CMD, 7, 4⟩
def FAR_CMD_opcode : Fld := ⟨FAR_CMD, 3, 0⟩
def FAR_STATUS : Nat := 0x90004
def FAR_STATUS_status : Fld := ⟨FAR_STATUS, 31, 16⟩
def FAR_STATUS_boot_ran : Fld := ⟨FAR_STATUS, 2, 2⟩
def FAR_STATUS_done : Fld := ⟨FAR_STATUS, 1, 1⟩
def FAR_STATUS_busy : Fld := ⟨FAR_STATUS, 0, 0⟩
def FAR_RESULT : Nat := 0x90008
def FAR_RESULT_team_fail : Fld := ⟨FAR_RESULT, 31, 16⟩
def FAR_RESULT_part_fail : Fld := ⟨FAR_RESULT, 5, 0⟩

/-! ### LANE block (04_tack_lanes.md, R109) -/
def LANE_PHY_CFG (n : Nat) : Nat := 0x180000 + 0x800 * n
def LANE_PHY_CFG_wake (n : Nat) : Fld := ⟨(LANE_PHY_CFG n), 13, 12⟩
def LANE_PHY_CFG_fast (n : Nat) : Fld := ⟨(LANE_PHY_CFG n), 11, 11⟩
def LANE_PHY_CFG_sic (n : Nat) : Fld := ⟨(LANE_PHY_CFG n), 10, 10⟩
def LANE_PHY_CFG_xl (n : Nat) : Fld := ⟨(LANE_PHY_CFG n), 9, 9⟩
def LANE_PHY_CFG_fd (n : Nat) : Fld := ⟨(LANE_PHY_CFG n), 8, 8⟩
def LANE_PHY_CFG_lin_pullup (n : Nat) : Fld := ⟨(LANE_PHY_CFG n), 6, 6⟩
def LANE_PHY_CFG_term (n : Nat) : Fld := ⟨(LANE_PHY_CFG n), 5, 4⟩
def LANE_PHY_CFG_kind (n : Nat) : Fld := ⟨(LANE_PHY_CFG n), 2, 0⟩
def LANE_PHY_CTRL (n : Nat) : Nat := 0x180004 + 0x800 * n
def LANE_PHY_CTRL_int_loopback (n : Nat) : Fld := ⟨(LANE_PHY_CTRL n), 1, 1⟩
def LANE_PHY_CTRL_enable (n : Nat) : Fld := ⟨(LANE_PHY_CTRL n), 0, 0⟩
def LANE_PHY_STATUS (n : Nat) : Nat := 0x180008 + 0x800 * n
def LANE_PHY_STATUS_tx_inhibit (n : Nat) : Fld := ⟨(LANE_PHY_STATUS n), 5, 5⟩
def LANE_PHY_STATUS_term_open_ovp (n : Nat) : Fld := ⟨(LANE_PHY_STATUS n), 4, 4⟩
def LANE_PHY_STATUS_tx_mode (n : Nat) : Fld := ⟨(LANE_PHY_STATUS n), 3, 2⟩
def LANE_PHY_STATUS_bus_dominant (n : Nat) : Fld := ⟨(LANE_PHY_STATUS n), 1, 1⟩
def LANE_PHY_STATUS_integrated (n : Nat) : Fld := ⟨(LANE_PHY_STATUS n), 0, 0⟩
def LANE_PHY_FAULT (n : Nat) : Nat := 0x18000C + 0x800 * n
def LANE_PHY_FAULT_lin_pullup_short (n : Nat) : Fld := ⟨(LANE_PHY_FAULT n), 6, 6⟩
def LANE_PHY_FAULT_stuck_dominant (n : Nat) : Fld := ⟨(LANE_PHY_FAULT n), 5, 5⟩
def LANE_PHY_FAULT_thermal (n : Nat) : Fld := ⟨(LANE_PHY_FAULT n), 4, 4⟩
def LANE_PHY_FAULT_dom_timeout (n : Nat) : Fld := ⟨(LANE_PHY_FAULT n), 3, 3⟩
def LANE_PHY_FAULT_cm_range (n : Nat) : Fld := ⟨(LANE_PHY_FAULT n), 2, 2⟩
def LANE_PHY_FAULT_ovp_b (n : Nat) : Fld := ⟨(LANE_PHY_FAULT n), 1, 1⟩
def LANE_PHY_FAULT_ovp_a (n : Nat) : Fld := ⟨(LANE_PHY_FAULT n), 0, 0⟩
def LANE_PHY_FAULT_CNT (n : Nat) : Nat := 0x180010 + 0x800 * n
def LANE_PHY_FAULT_CNT_count (n : Nat) : Fld := ⟨(LANE_PHY_FAULT_CNT n), 15, 0⟩
def LANE_PN_ID (n : Nat) : Nat := 0x180020 + 0x800 * n
def LANE_PN_ID_ide (n : Nat) : Fld := ⟨(LANE_PN_ID n), 29, 29⟩
def LANE_PN_ID_id (n : Nat) : Fld := ⟨(LANE_PN_ID n), 28, 0⟩
def LANE_PN_ID_MASK (n : Nat) : Nat := 0x180024 + 0x800 * n
def LANE_PN_ID_MASK_mask (n : Nat) : Fld := ⟨(LANE_PN_ID_MASK n), 28, 0⟩
def LANE_PN_CTRL (n : Nat) : Nat := 0x180028 + 0x800 * n
def LANE_PN_CTRL_rate (n : Nat) : Fld := ⟨(LANE_PN_CTRL n), 6, 5⟩
def LANE_PN_CTRL_data_check (n : Nat) : Fld := ⟨(LANE_PN_CTRL n), 4, 4⟩
def LANE_PN_CTRL_dlc (n : Nat) : Fld := ⟨(LANE_PN_CTRL n), 3, 0⟩
def LANE_PN_DMASK_LO (n : Nat) : Nat := 0x180030 + 0x800 * n
def LANE_PN_DMASK_LO_dmask_lo (n : Nat) : Fld := ⟨(LANE_PN_DMASK_LO n), 31, 0⟩
def LANE_PN_DMASK_HI (n : Nat) : Nat := 0x180034 + 0x800 * n
def LANE_PN_DMASK_HI_dmask_hi (n : Nat) : Fld := ⟨(LANE_PN_DMASK_HI n), 31, 0⟩
def LANE_CTRL (n : Nat) : Nat := 0x180100 + 0x800 * n
def LANE_CTRL_ts_domain (n : Nat) : Fld := ⟨(LANE_CTRL n), 5, 4⟩
def LANE_CTRL_listen_only (n : Nat) : Fld := ⟨(LANE_CTRL n), 0, 0⟩
def LANE_ERR (n : Nat) : Nat := 0x180104 + 0x800 * n
def LANE_ERR_busoff_seq (n : Nat) : Fld := ⟨(LANE_ERR n), 31, 24⟩
def LANE_ERR_state (n : Nat) : Fld := ⟨(LANE_ERR n), 17, 16⟩
def LANE_ERR_rec (n : Nat) : Fld := ⟨(LANE_ERR n), 15, 8⟩
def LANE_ERR_tec (n : Nat) : Fld := ⟨(LANE_ERR n), 7, 0⟩
def LANE_RX_DEFAULT (n : Nat) : Nat := 0x180108 + 0x800 * n
def LANE_RX_DEFAULT_hp (n : Nat) : Fld := ⟨(LANE_RX_DEFAULT n), 7, 7⟩
def LANE_RX_DEFAULT_agg (n : Nat) : Fld := ⟨(LANE_RX_DEFAULT n), 6, 6⟩
def LANE_RX_DEFAULT_rxq1 (n : Nat) : Fld := ⟨(LANE_RX_DEFAULT n), 5, 5⟩
def LANE_RX_DEFAULT_rxq0 (n : Nat) : Fld := ⟨(LANE_RX_DEFAULT n), 4, 4⟩
def LANE_RXQ0_CTRL (n : Nat) : Nat := 0x180120 + 0x800 * n
def LANE_RXQ0_CTRL_watermark (n : Nat) : Fld := ⟨(LANE_RXQ0_CTRL n), 6, 0⟩
def LANE_RXQ0_IDX (n : Nat) : Nat := 0x180124 + 0x800 * n
def LANE_RXQ0_IDX_ack_idx (n : Nat) : Fld := ⟨(LANE_RXQ0_IDX n), 22, 16⟩
def LANE_RXQ0_IDX_wr_idx (n : Nat) : Fld := ⟨(LANE_RXQ0_IDX n), 6, 0⟩
def LANE_RXQ1_CTRL (n : Nat) : Nat := 0x180128 + 0x800 * n
def LANE_RXQ1_CTRL_watermark (n : Nat) : Fld := ⟨(LANE_RXQ1_CTRL n), 6, 0⟩
def LANE_RXQ1_IDX (n : Nat) : Nat := 0x18012C + 0x800 * n
def LANE_RXQ1_IDX_ack_idx (n : Nat) : Fld := ⟨(LANE_RXQ1_IDX n), 22, 16⟩
def LANE_RXQ1_IDX_wr_idx (n : Nat) : Fld := ⟨(LANE_RXQ1_IDX n), 6, 0⟩
def LANE_HP_CTRL (n : Nat) : Nat := 0x180130 + 0x800 * n
def LANE_HP_CTRL_full (n : Nat) : Fld := ⟨(LANE_HP_CTRL n), 0, 0⟩
def LANE_HP_DESC (n i : Nat) : Nat := 0x180140 + 0x800 * n + 0x4 * i
def LANE_HP_DATA (n i : Nat) : Nat := 0x180160 + 0x800 * n + 0x4 * i
def LANE_TB_CTRL (n i : Nat) : Nat := 0x1801A0 + 0x800 * n + 0x4 * i
def LANE_TB_CTRL_lost_arb (n i : Nat) : Fld := ⟨(LANE_TB_CTRL n i), 31, 24⟩
def LANE_TB_CTRL_trig_en (n i : Nat) : Fld := ⟨(LANE_TB_CTRL n i), 13, 13⟩
def LANE_TB_CTRL_trig (n i : Nat) : Fld := ⟨(LANE_TB_CTRL n i), 12, 8⟩
def LANE_TB_CTRL_result (n i : Nat) : Fld := ⟨(LANE_TB_CTRL n i), 6, 4⟩
def LANE_TB_CTRL_one_shot (n i : Nat) : Fld := ⟨(LANE_TB_CTRL n i), 3, 3⟩
def LANE_TB_CTRL_irq (n i : Nat) : Fld := ⟨(LANE_TB_CTRL n i), 2, 2⟩
def LANE_TB_CTRL_abort (n i : Nat) : Fld := ⟨(LANE_TB_CTRL n i), 1, 1⟩
def LANE_TB_CTRL_pending (n i : Nat) : Fld := ⟨(LANE_TB_CTRL n i), 0, 0⟩
def LANE_BTR_NOM (n : Nat) : Nat := 0x1801C4 + 0x800 * n
def LANE_BTR_NOM_brp_m1 (n : Nat) : Fld := ⟨(LANE_BTR_NOM n), 31, 27⟩
def LANE_BTR_NOM_tseg1_m1 (n : Nat) : Fld := ⟨(LANE_BTR_NOM n), 26, 19⟩
def LANE_BTR_NOM_tseg2_m1 (n : Nat) : Fld := ⟨(LANE_BTR_NOM n), 18, 12⟩
def LANE_BTR_NOM_sjw_m1 (n : Nat) : Fld := ⟨(LANE_BTR_NOM n), 11, 5⟩
def LANE_BTR_DATA (n : Nat) : Nat := 0x1801C8 + 0x800 * n
def LANE_TDC (n : Nat) : Nat := 0x1801CC + 0x800 * n
def LANE_TDC_tdc_meas (n : Nat) : Fld := ⟨(LANE_TDC n), 23, 16⟩
def LANE_TDC_tdc_en (n : Nat) : Fld := ⟨(LANE_TDC n), 15, 15⟩
def LANE_TDC_tdc_offset (n : Nat) : Fld := ⟨(LANE_TDC n), 7, 0⟩
def LANE_LIN_SCHED (n : Nat) : Nat := 0x1801D0 + 0x800 * n
def LANE_LIN_SCHED_slot_now (n : Nat) : Fld := ⟨(LANE_LIN_SCHED n), 13, 8⟩
def LANE_LIN_SCHED_run (n : Nat) : Fld := ⟨(LANE_LIN_SCHED n), 0, 0⟩
def LANE_CNT (n i : Nat) : Nat := 0x180200 + 0x800 * n + 0x4 * i
def LANE_FLT (n i : Nat) : Nat := 0x180300 + 0x800 * n + 0x10 * i
def LANE_FLT_en (n i : Nat) : Fld := ⟨(LANE_FLT n i), 31, 31⟩
def LANE_FLT_ide (n i : Nat) : Fld := ⟨(LANE_FLT n i), 29, 29⟩
def LANE_FLT_id (n i : Nat) : Fld := ⟨(LANE_FLT n i), 28, 0⟩
def LANE_FLT_mask (n i : Nat) : Fld := ⟨(LANE_FLT n i + 4), 28, 0⟩
def LANE_FLT_hp (n i : Nat) : Fld := ⟨(LANE_FLT n i + 8), 7, 7⟩
def LANE_FLT_agg (n i : Nat) : Fld := ⟨(LANE_FLT n i + 8), 6, 6⟩
def LANE_FLT_rxq1 (n i : Nat) : Fld := ⟨(LANE_FLT n i + 8), 5, 5⟩
def LANE_FLT_rxq0 (n i : Nat) : Fld := ⟨(LANE_FLT n i + 8), 4, 4⟩
def LANE_FLT_xl (n i : Nat) : Fld := ⟨(LANE_FLT n i + 8), 2, 2⟩
def LANE_FLT_fd (n i : Nat) : Fld := ⟨(LANE_FLT n i + 8), 1, 1⟩
def LANE_FLT_classical (n i : Nat) : Fld := ⟨(LANE_FLT n i + 8), 0, 0⟩
def LANE_LIN_ID (n i : Nat) : Nat := 0x180300 + 0x800 * n + 0x10 * i
def LANE_LIN_ID_length (n i : Nat) : Fld := ⟨(LANE_LIN_ID n i), 11, 8⟩
def LANE_LIN_ID_hp (n i : Nat) : Fld := ⟨(LANE_LIN_ID n i), 7, 7⟩
def LANE_LIN_ID_agg (n i : Nat) : Fld := ⟨(LANE_LIN_ID n i), 6, 6⟩
def LANE_LIN_ID_rxq1 (n i : Nat) : Fld := ⟨(LANE_LIN_ID n i), 5, 5⟩
def LANE_LIN_ID_rxq0 (n i : Nat) : Fld := ⟨(LANE_LIN_ID n i), 4, 4⟩
def LANE_LIN_ID_enh (n i : Nat) : Fld := ⟨(LANE_LIN_ID n i), 3, 3⟩
def LANE_LIN_ID_dir (n i : Nat) : Fld := ⟨(LANE_LIN_ID n i), 1, 0⟩
def LANE_TB_DESC (n i : Nat) : Nat := 0x180500 + 0x800 * n + 0x20 * i
def LANE_T1S_CTRL (n : Nat) : Nat := 0x180600 + 0x800 * n
def LANE_T1S_CTRL_promisc (n : Nat) : Fld := ⟨(LANE_T1S_CTRL n), 0, 0⟩
def LANE_T1S_MAC_LO (n : Nat) : Nat := 0x180604 + 0x800 * n
def LANE_T1S_MAC_LO_mac_lo (n : Nat) : Fld := ⟨(LANE_T1S_MAC_LO n), 31, 0⟩
def LANE_T1S_MAC_HI (n : Nat) : Nat := 0x180608 + 0x800 * n
def LANE_T1S_MAC_HI_mac_hi (n : Nat) : Fld := ⟨(LANE_T1S_MAC_HI n), 15, 0⟩
def LANE_T1S_PLCA (n : Nat) : Nat := 0x18060C + 0x800 * n
def LANE_T1S_PLCA_plca_ok (n : Nat) : Fld := ⟨(LANE_T1S_PLCA n), 16, 16⟩
def LANE_T1S_PLCA_node_count (n : Nat) : Fld := ⟨(LANE_T1S_PLCA n), 15, 8⟩
def LANE_T1S_PLCA_node_id (n : Nat) : Fld := ⟨(LANE_T1S_PLCA n), 7, 0⟩
def LANE_LIN_SLOT (n i : Nat) : Nat := 0x180700 + 0x800 * n + 0x4 * i
def LANE_LIN_SLOT_slot_time (n i : Nat) : Fld := ⟨(LANE_LIN_SLOT n i), 15, 8⟩
def LANE_LIN_SLOT_valid (n i : Nat) : Fld := ⟨(LANE_LIN_SLOT n i), 6, 6⟩
def LANE_LIN_SLOT_id (n i : Nat) : Fld := ⟨(LANE_LIN_SLOT n i), 5, 0⟩

/-! ### HST block (06_ethernet_ports.md, R170) -/
def HST_EP_CTRL (e : Nat) : Nat := 0x4E000 + 0x100 * e
def HST_EP_CTRL_sa_check (e : Nat) : Fld := ⟨(HST_EP_CTRL e), 2, 2⟩
def HST_EP_CTRL_mc_accept (e : Nat) : Fld := ⟨(HST_EP_CTRL e), 1, 1⟩
def HST_EP_CTRL_bc_accept (e : Nat) : Fld := ⟨(HST_EP_CTRL e), 0, 0⟩
def HST_EP_REJECT (e : Nat) : Nat := 0x4E004 + 0x100 * e
def HST_EP_REJECT_count (e : Nat) : Fld := ⟨(HST_EP_REJECT e), 31, 0⟩
def HST_EP_ADDR (e i : Nat) : Nat := 0x4E080 + 0x100 * e + 0x8 * i
def HST_EP_ADDR_mac_lo (e i : Nat) : Fld := ⟨(HST_EP_ADDR e i), 31, 0⟩
def HST_EP_ADDR_en (e i : Nat) : Fld := ⟨(HST_EP_ADDR e i + 4), 31, 31⟩
def HST_EP_ADDR_queue (e i : Nat) : Fld := ⟨(HST_EP_ADDR e i + 4), 18, 16⟩
def HST_EP_ADDR_mac_hi (e i : Nat) : Fld := ⟨(HST_EP_ADDR e i + 4), 15, 0⟩

/-! ### EMAC block (06_ethernet_ports.md, R179) -/
def EMAC_CFG (n : Nat) : Nat := 0x140000 + 0x1000 * n
def EMAC_CFG_phy_master (n : Nat) : Fld := ⟨(EMAC_CFG n), 27, 27⟩
def EMAC_CFG_macsec_required (n : Nat) : Fld := ⟨(EMAC_CFG n), 26, 26⟩
def EMAC_CFG_preemption (n : Nat) : Fld := ⟨(EMAC_CFG n), 25, 25⟩
def EMAC_CFG_cut_through (n : Nat) : Fld := ⟨(EMAC_CFG n), 24, 24⟩
def EMAC_CFG_speed (n : Nat) : Fld := ⟨(EMAC_CFG n), 18, 16⟩
def EMAC_CFG_max_len (n : Nat) : Fld := ⟨(EMAC_CFG n), 13, 0⟩
def EMAC_CTRL (n : Nat) : Nat := 0x140004 + 0x1000 * n
def EMAC_CTRL_enable (n : Nat) : Fld := ⟨(EMAC_CTRL n), 3, 3⟩
def EMAC_CTRL_default_pcp (n : Nat) : Fld := ⟨(EMAC_CTRL n), 2, 0⟩
def EMAC_STATUS (n : Nat) : Nat := 0x140008 + 0x1000 * n
def EMAC_STATUS_preempt_active (n : Nat) : Fld := ⟨(EMAC_STATUS n), 2, 2⟩
def EMAC_STATUS_relinked (n : Nat) : Fld := ⟨(EMAC_STATUS n), 1, 1⟩
def EMAC_STATUS_link_up (n : Nat) : Fld := ⟨(EMAC_STATUS n), 0, 0⟩
def EMAC_PREEMPT_CTRL (n : Nat) : Nat := 0x140020 + 0x1000 * n
def EMAC_PREEMPT_CTRL_verify_time (n : Nat) : Fld := ⟨(EMAC_PREEMPT_CTRL n), 14, 8⟩
def EMAC_PREEMPT_CTRL_preemptable (n : Nat) : Fld := ⟨(EMAC_PREEMPT_CTRL n), 7, 0⟩
def EMAC_HOLD_ADV (n : Nat) : Nat := 0x140024 + 0x1000 * n
def EMAC_HOLD_ADV_hold_adv (n : Nat) : Fld := ⟨(EMAC_HOLD_ADV n), 15, 0⟩
def EMAC_CNT_HALF_LO (n : Nat) : Nat := 0x140030 + 0x1000 * n
def EMAC_CNT_HALF_HI (n : Nat) : Nat := 0x140034 + 0x1000 * n
def EMAC_PHY_STATUS (n : Nat) : Nat := 0x140040 + 0x1000 * n
def EMAC_PHY_STATUS_sqi (n : Nat) : Fld := ⟨(EMAC_PHY_STATUS n), 7, 5⟩
def EMAC_PHY_STATUS_training (n : Nat) : Fld := ⟨(EMAC_PHY_STATUS n), 4, 4⟩
def EMAC_PHY_STATUS_role (n : Nat) : Fld := ⟨(EMAC_PHY_STATUS n), 3, 3⟩
def EMAC_PHY_STATUS_speed (n : Nat) : Fld := ⟨(EMAC_PHY_STATUS n), 2, 0⟩
def EMAC_PHY_CTRL (n : Nat) : Nat := 0x140044 + 0x1000 * n
def EMAC_PHY_CTRL_sqi_min (n : Nat) : Fld := ⟨(EMAC_PHY_CTRL n), 2, 0⟩
def EMAC_STEER (n i : Nat) : Nat := 0x140100 + 0x1000 * n + 0x10 * i
def EMAC_STEER_en (n i : Nat) : Fld := ⟨(EMAC_STEER n i), 31, 31⟩
def EMAC_STEER_etype_cmp (n i : Nat) : Fld := ⟨(EMAC_STEER n i), 26, 26⟩
def EMAC_STEER_pcp_cmp (n i : Nat) : Fld := ⟨(EMAC_STEER n i), 25, 25⟩
def EMAC_STEER_vid_cmp (n i : Nat) : Fld := ⟨(EMAC_STEER n i), 24, 24⟩
def EMAC_STEER_stag_mode (n i : Nat) : Fld := ⟨(EMAC_STEER n i), 23, 22⟩
def EMAC_STEER_queue (n i : Nat) : Fld := ⟨(EMAC_STEER n i), 21, 19⟩
def EMAC_STEER_pcp (n i : Nat) : Fld := ⟨(EMAC_STEER n i), 18, 16⟩
def EMAC_STEER_etype (n i : Nat) : Fld := ⟨(EMAC_STEER n i), 15, 0⟩
def EMAC_STEER_svid (n i : Nat) : Fld := ⟨(EMAC_STEER n i + 4), 27, 16⟩
def EMAC_STEER_vid (n i : Nat) : Fld := ⟨(EMAC_STEER n i + 4), 11, 0⟩
def EMAC_STEER_vid_mask (n i : Nat) : Fld := ⟨(EMAC_STEER n i + 8), 11, 0⟩
def EMAC_CNT (n i : Nat) : Nat := 0x140800 + 0x1000 * n + 0x4 * i

/-! ### FWD block (07_forwarding.md, R220) -/
def FWD_CTRL (p : Nat) : Nat := 0x110000 + 0x10000 * p
def FWD_CTRL_par_inject (p : Nat) : Fld := ⟨(FWD_CTRL p), 4, 4⟩
def FWD_CTRL_move_notify (p : Nat) : Fld := ⟨(FWD_CTRL p), 3, 3⟩
def FWD_CTRL_peer_query (p : Nat) : Fld := ⟨(FWD_CTRL p), 2, 2⟩
def FWD_CTRL_auto_stream (p : Nat) : Fld := ⟨(FWD_CTRL p), 1, 1⟩
def FWD_CTRL_learn_en (p : Nat) : Fld := ⟨(FWD_CTRL p), 0, 0⟩
def FWD_AGE (p : Nat) : Nat := 0x110008 + 0x10000 * p
def FWD_AGE_period (p : Nat) : Fld := ⟨(FWD_AGE p), 15, 0⟩
def FWD_AUTO_STREAM (p : Nat) : Nat := 0x11000C + 0x10000 * p
def FWD_AUTO_STREAM_count (p : Nat) : Fld := ⟨(FWD_AUTO_STREAM p), 29, 16⟩
def FWD_AUTO_STREAM_first (p : Nat) : Fld := ⟨(FWD_AUTO_STREAM p), 12, 0⟩
def FWD_LEARN_LO (p : Nat) : Nat := 0x110010 + 0x10000 * p
def FWD_LEARN_MID (p : Nat) : Nat := 0x110014 + 0x10000 * p
def FWD_LEARN_HI (p : Nat) : Nat := 0x110018 + 0x10000 * p
def FWD_FLOOD_LO (p : Nat) : Nat := 0x110020 + 0x10000 * p
def FWD_FLOOD_MID (p : Nat) : Nat := 0x110024 + 0x10000 * p
def FWD_FLOOD_HI (p : Nat) : Nat := 0x110028 + 0x10000 * p
def FWD_STATUS (p : Nat) : Nat := 0x110030 + 0x10000 * p
def FWD_STATUS_learn_level (p : Nat) : Fld := ⟨(FWD_STATUS p), 23, 16⟩
def FWD_STATUS_peer_busy (p : Nat) : Fld := ⟨(FWD_STATUS p), 4, 0⟩
def FWD_PAR_LOG (p : Nat) : Nat := 0x110034 + 0x10000 * p
def FWD_PAR_LOG_valid (p : Nat) : Fld := ⟨(FWD_PAR_LOG p), 31, 31⟩
def FWD_PAR_LOG_table (p : Nat) : Fld := ⟨(FWD_PAR_LOG p), 30, 28⟩
def FWD_PAR_LOG_index (p : Nat) : Fld := ⟨(FWD_PAR_LOG p), 15, 0⟩
def FWD_SCRUB (p : Nat) : Nat := 0x110038 + 0x10000 * p
def FWD_SCRUB_busy (p : Nat) : Fld := ⟨(FWD_SCRUB p), 16, 16⟩
def FWD_SCRUB_period (p : Nat) : Fld := ⟨(FWD_SCRUB p), 15, 0⟩
def FWD_TBL_CMD (p : Nat) : Nat := 0x110040 + 0x10000 * p
def FWD_TBL_CMD_table (p : Nat) : Fld := ⟨(FWD_TBL_CMD p), 27, 25⟩
def FWD_TBL_CMD_index (p : Nat) : Fld := ⟨(FWD_TBL_CMD p), 19, 4⟩
def FWD_TBL_CMD_opcode (p : Nat) : Fld := ⟨(FWD_TBL_CMD p), 3, 0⟩
def FWD_TBL_STATUS (p : Nat) : Nat := 0x110044 + 0x10000 * p
def FWD_TBL_STATUS_status (p : Nat) : Fld := ⟨(FWD_TBL_STATUS p), 31, 16⟩
def FWD_TBL_STATUS_done (p : Nat) : Fld := ⟨(FWD_TBL_STATUS p), 1, 1⟩
def FWD_TBL_STATUS_busy (p : Nat) : Fld := ⟨(FWD_TBL_STATUS p), 0, 0⟩
def FWD_TBL_RESULT (p : Nat) : Nat := 0x110048 + 0x10000 * p
def FWD_TBL_RESULT_table (p : Nat) : Fld := ⟨(FWD_TBL_RESULT p), 18, 16⟩
def FWD_TBL_RESULT_index (p : Nat) : Fld := ⟨(FWD_TBL_RESULT p), 15, 0⟩
def FWD_TBL_DATA (p i : Nat) : Nat := 0x110080 + 0x10000 * p + 0x4 * i
def FWD_CNT_HALF (p : Nat) : Nat := 0x1100C0 + 0x10000 * p
def FWD_CNT (p i : Nat) : Nat := 0x110100 + 0x10000 * p + 0x4 * i
def FWD_MCGRP (p i : Nat) : Nat := 0x111000 + 0x10000 * p + 0x10 * i

/-! ### SWC block (08_switch_core.md, R245) -/
def SWC_SCHED_CTRL : Nat := 0x100000
def SWC_SCHED_CTRL_force_iter : Fld := ⟨SWC_SCHED_CTRL, 8, 8⟩
def SWC_SCHED_CTRL_iter_count : Fld := ⟨SWC_SCHED_CTRL, 2, 0⟩
def SWC_SCHED_STATUS : Nat := 0x100004
def SWC_SCHED_STATUS_parity_left : Fld := ⟨SWC_SCHED_STATUS, 26, 16⟩
def SWC_SCHED_STATUS_sweep_busy : Fld := ⟨SWC_SCHED_STATUS, 4, 4⟩
def SWC_SCHED_STATUS_cause_parity : Fld := ⟨SWC_SCHED_STATUS, 3, 3⟩
def SWC_SCHED_STATUS_cause_test : Fld := ⟨SWC_SCHED_STATUS, 2, 2⟩
def SWC_SCHED_STATUS_cause_init : Fld := ⟨SWC_SCHED_STATUS, 1, 1⟩
def SWC_SCHED_STATUS_mode : Fld := ⟨SWC_SCHED_STATUS, 0, 0⟩
def SWC_ALPHA : Nat := 0x100008
def SWC_PORT_STATE : Nat := 0x10000C
def SWC_PORT_STATE_port : Fld := ⟨SWC_PORT_STATE, 31, 0⟩
def SWC_POOL_FREE : Nat := 0x100010
def SWC_POOL_FREE_free : Fld := ⟨SWC_POOL_FREE, 17, 0⟩
def SWC_LANE_FREE : Nat := 0x100014
def SWC_LANE_FREE_free : Fld := ⟨SWC_LANE_FREE, 14, 0⟩
def SWC_POOL_WARN : Nat := 0x100018
def SWC_POOL_WARN_warn : Fld := ⟨SWC_POOL_WARN, 17, 0⟩
def SWC_STALL_LIMIT : Nat := 0x10001C
def SWC_STALL_LIMIT_limit : Fld := ⟨SWC_STALL_LIMIT, 15, 0⟩
def SWC_PAR_LOG : Nat := 0x100020
def SWC_PAR_LOG_valid : Fld := ⟨SWC_PAR_LOG, 31, 31⟩
def SWC_PAR_LOG_source : Fld := ⟨SWC_PAR_LOG, 30, 29⟩
def SWC_PAR_LOG_port : Fld := ⟨SWC_PAR_LOG, 4, 0⟩
def SWC_ECC_LOG : Nat := 0x100024
def SWC_ECC_LOG_valid : Fld := ⟨SWC_ECC_LOG, 31, 31⟩
def SWC_ECC_LOG_cell : Fld := ⟨SWC_ECC_LOG, 17, 0⟩
def SWC_VOQ_SEL : Nat := 0x100028
def SWC_VOQ_SEL_input : Fld := ⟨SWC_VOQ_SEL, 12, 8⟩
def SWC_VOQ_SEL_output : Fld := ⟨SWC_VOQ_SEL, 7, 3⟩
def SWC_VOQ_SEL_class : Fld := ⟨SWC_VOQ_SEL, 2, 0⟩
def SWC_VOQ_DEPTH : Nat := 0x10002C
def SWC_VOQ_DEPTH_cells : Fld := ⟨SWC_VOQ_DEPTH, 17, 0⟩
def SWC_LANE_PEAK : Nat := 0x100030
def SWC_LANE_PEAK_peak : Fld := ⟨SWC_LANE_PEAK, 14, 0⟩
def SWC_CNT_HALF : Nat := 0x100034
def SWC_CNT_HALF_half : Fld := ⟨SWC_CNT_HALF, 15, 0⟩
def SWC_GUAR_USED (i : Nat) : Nat := 0x100080 + 0x4 * i
def SWC_GUAR_USED_used (i : Nat) : Fld := ⟨(SWC_GUAR_USED i), 12, 0⟩
def SWC_CNT (i : Nat) : Nat := 0x100100 + 0x4 * i
def SWC_IN_DROP (i : Nat) : Nat := 0x100400 + 0x4 * i

/-! ### STM block (09_traffic_control.md, R268) -/
def STM_SCHOOL_CTRL : Nat := 0x130000
def STM_SCHOOL_CTRL_default_margin : Fld := ⟨STM_SCHOOL_CTRL, 12, 10⟩
def STM_SCHOOL_CTRL_default_action : Fld := ⟨STM_SCHOOL_CTRL, 9, 8⟩
def STM_SCHOOL_CTRL_ewma_shift : Fld := ⟨STM_SCHOOL_CTRL, 7, 4⟩
def STM_SCHOOL_CTRL_unknown_action : Fld := ⟨STM_SCHOOL_CTRL, 3, 2⟩
def STM_SCHOOL_CTRL_start : Fld := ⟨STM_SCHOOL_CTRL, 1, 1⟩
def STM_SCHOOL_CTRL_learning : Fld := ⟨STM_SCHOOL_CTRL, 0, 0⟩
def STM_SCHOOL_PERIOD : Nat := 0x130004
def STM_SCHOOL_PERIOD_seconds : Fld := ⟨STM_SCHOOL_PERIOD, 16, 0⟩
def STM_SCHOOL_ELAPSED : Nat := 0x130008
def STM_SCHOOL_ELAPSED_seconds : Fld := ⟨STM_SCHOOL_ELAPSED, 16, 0⟩
def STM_SCHOOL_LOG : Nat := 0x13000C
def STM_SCHOOL_LOG_valid : Fld := ⟨STM_SCHOOL_LOG, 31, 31⟩
def STM_SCHOOL_LOG_record : Fld := ⟨STM_SCHOOL_LOG, 13, 0⟩
def STM_SCHOOL_LANES_LO : Nat := 0x130010
def STM_SCHOOL_LANES_HI : Nat := 0x130014
def STM_PAR_LOG : Nat := 0x130018
def STM_PAR_LOG_valid : Fld := ⟨STM_PAR_LOG, 31, 31⟩
def STM_PAR_LOG_table : Fld := ⟨STM_PAR_LOG, 30, 28⟩
def STM_PAR_LOG_index : Fld := ⟨STM_PAR_LOG, 13, 0⟩
def STM_SCRUB : Nat := 0x13001C
def STM_CNT_HALF : Nat := 0x130020
def STM_CNT (i : Nat) : Nat := 0x130040 + 0x4 * i
def STM_SGATE_CTRL (g : Nat) : Nat := 0x130200 + 0x40 * g
def STM_SGATE_CTRL_enable (g : Nat) : Fld := ⟨(STM_SGATE_CTRL g), 31, 31⟩
def STM_SGATE_CTRL_fb_open (g : Nat) : Fld := ⟨(STM_SGATE_CTRL g), 30, 30⟩
def STM_SGATE_CTRL_domain (g : Nat) : Fld := ⟨(STM_SGATE_CTRL g), 5, 4⟩
def STM_SGATE_CTRL_count_m1 (g : Nat) : Fld := ⟨(STM_SGATE_CTRL g), 2, 0⟩
def STM_SGATE_BASE_LO (g : Nat) : Nat := 0x130204 + 0x40 * g
def STM_SGATE_BASE_HI (g : Nat) : Nat := 0x130208 + 0x40 * g
def STM_SGATE_ENT (g i : Nat) : Nat := 0x130220 + 0x40 * g + 0x4 * i
def STM_SGATE_ENT_open (g i : Nat) : Fld := ⟨(STM_SGATE_ENT g i), 31, 31⟩
def STM_SGATE_ENT_interval (g i : Nat) : Fld := ⟨(STM_SGATE_ENT g i), 30, 0⟩
def STM_GCL_CTRL (n : Nat) : Nat := 0x131000 + 0x100 * n
def STM_GCL_CTRL_enable (n : Nat) : Fld := ⟨(STM_GCL_CTRL n), 31, 31⟩
def STM_GCL_CTRL_change (n : Nat) : Fld := ⟨(STM_GCL_CTRL n), 30, 30⟩
def STM_GCL_CTRL_domain (n : Nat) : Fld := ⟨(STM_GCL_CTRL n), 5, 4⟩
def STM_GCL_STATUS (n : Nat) : Nat := 0x131004 + 0x100 * n
def STM_GCL_STATUS_fallback (n : Nat) : Fld := ⟨(STM_GCL_STATUS n), 31, 31⟩
def STM_GCL_STATUS_pending (n : Nat) : Fld := ⟨(STM_GCL_STATUS n), 30, 30⟩
def STM_GCL_STATUS_error (n : Nat) : Fld := ⟨(STM_GCL_STATUS n), 29, 29⟩
def STM_GCL_STATUS_fb_count (n : Nat) : Fld := ⟨(STM_GCL_STATUS n), 28, 24⟩
def STM_GCL_STATUS_oper_start (n : Nat) : Fld := ⟨(STM_GCL_STATUS n), 23, 16⟩
def STM_GCL_STATUS_oper_len_m1 (n : Nat) : Fld := ⟨(STM_GCL_STATUS n), 15, 8⟩
def STM_GCL_STATUS_index (n : Nat) : Fld := ⟨(STM_GCL_STATUS n), 7, 0⟩
def STM_GCL_BASE_LO (n : Nat) : Nat := 0x131008 + 0x100 * n
def STM_GCL_BASE_HI (n : Nat) : Nat := 0x13100C + 0x100 * n
def STM_GCL_CYCLE (n : Nat) : Nat := 0x131010 + 0x100 * n
def STM_GCL_ADMIN (n : Nat) : Nat := 0x131014 + 0x100 * n
def STM_GCL_ADMIN_start (n : Nat) : Fld := ⟨(STM_GCL_ADMIN n), 15, 8⟩
def STM_GCL_ADMIN_len_m1 (n : Nat) : Fld := ⟨(STM_GCL_ADMIN n), 7, 0⟩
def STM_GCL_FB (n : Nat) : Nat := 0x131018 + 0x100 * n
def STM_GCL_FB_len (n : Nat) : Fld := ⟨(STM_GCL_FB n), 6, 0⟩
def STM_GCL_FB_CYCLE (n : Nat) : Nat := 0x13101C + 0x100 * n
def STM_GCL_OPER_CYCLE (n : Nat) : Nat := 0x131020 + 0x100 * n
def STM_CBS_SLOPE (n i : Nat) : Nat := 0x131040 + 0x100 * n + 0x4 * i
def STM_CBS_SLOPE_en (n i : Nat) : Fld := ⟨(STM_CBS_SLOPE n i), 31, 31⟩
def STM_CBS_SLOPE_idle_slope (n i : Nat) : Fld := ⟨(STM_CBS_SLOPE n i), 23, 0⟩
def STM_CBS_CREDIT (n i : Nat) : Nat := 0x131060 + 0x100 * n + 0x4 * i

/-! ### CRS block (10_courser_engines.md, R297) -/
def CRS_TEAM_CFG (t : Nat) : Nat := 0x200000 + 0x1000 * t
def CRS_TEAM_CFG_auto_restart (t : Nat) : Fld := ⟨(CRS_TEAM_CFG t), 31, 31⟩
def CRS_TEAM_CFG_run_limit (t : Nat) : Fld := ⟨(CRS_TEAM_CFG t), 15, 0⟩
def CRS_TEAM_STATUS (t : Nat) : Nat := 0x200004 + 0x1000 * t
def CRS_TEAM_STATUS_halted (t : Nat) : Fld := ⟨(CRS_TEAM_STATUS t), 31, 24⟩
def CRS_TEAM_STATUS_waiting (t : Nat) : Fld := ⟨(CRS_TEAM_STATUS t), 23, 16⟩
def CRS_TEAM_STATUS_draining (t : Nat) : Fld := ⟨(CRS_TEAM_STATUS t), 9, 9⟩
def CRS_TEAM_STATUS_wq_level (t : Nat) : Fld := ⟨(CRS_TEAM_STATUS t), 8, 0⟩
def CRS_CRC_POLY (t i : Nat) : Nat := 0x200010 + 0x1000 * t + 0x4 * i
def CRS_CRC_CFG (t : Nat) : Nat := 0x200020 + 0x1000 * t
def CRS_DOORBELL (t : Nat) : Nat := 0x200024 + 0x1000 * t
def CRS_DOORBELL_ring (t : Nat) : Fld := ⟨(CRS_DOORBELL t), 7, 0⟩
def CRS_CNT (t i : Nat) : Nat := 0x200040 + 0x1000 * t + 0x4 * i
def CRS_CNT_HALF (t : Nat) : Nat := 0x200080 + 0x1000 * t
def CRS_CCTRL (t c : Nat) : Nat := 0x200100 + 0x1000 * t + 0x20 * c
def CRS_CCTRL_restart (t c : Nat) : Fld := ⟨(CRS_CCTRL t c), 1, 1⟩
def CRS_CCTRL_halt (t c : Nat) : Fld := ⟨(CRS_CCTRL t c), 0, 0⟩
def CRS_CSTATUS (t c : Nat) : Nat := 0x200104 + 0x1000 * t + 0x20 * c
def CRS_CSTATUS_owner (t c : Nat) : Fld := ⟨(CRS_CSTATUS t c), 31, 24⟩
def CRS_CSTATUS_state (t c : Nat) : Fld := ⟨(CRS_CSTATUS t c), 15, 14⟩
def CRS_CSTATUS_pc (t c : Nat) : Fld := ⟨(CRS_CSTATUS t c), 11, 0⟩
def CRS_CEXC (t c : Nat) : Nat := 0x200108 + 0x1000 * t + 0x20 * c
def CRS_CEXC_valid (t c : Nat) : Fld := ⟨(CRS_CEXC t c), 31, 31⟩
def CRS_CEXC_cause (t c : Nat) : Fld := ⟨(CRS_CEXC t c), 19, 16⟩
def CRS_CEXC_pc (t c : Nat) : Fld := ⟨(CRS_CEXC t c), 11, 0⟩
def CRS_CEXC_VAL (t c : Nat) : Nat := 0x20010C + 0x1000 * t + 0x20 * c
def CRS_CTRIG (t c : Nat) : Nat := 0x200110 + 0x1000 * t + 0x20 * c
def CRS_CEVT (t c : Nat) : Nat := 0x200114 + 0x1000 * t + 0x20 * c
def CRS_CEVT_code (t c : Nat) : Fld := ⟨(CRS_CEVT t c), 15, 0⟩
def CRS_CBUSY (t c : Nat) : Nat := 0x200118 + 0x1000 * t + 0x20 * c

/-! ### SIG block (10_courser_engines.md, R300) -/
def SIG_SCRUB : Nat := 0x300000
def SIG_SCRUB_period : Fld := ⟨SIG_SCRUB, 15, 0⟩
def SIG_ECC_LOG : Nat := 0x300004
def SIG_ECC_LOG_valid : Fld := ⟨SIG_ECC_LOG, 31, 31⟩
def SIG_ECC_LOG_source : Fld := ⟨SIG_ECC_LOG, 30, 29⟩
def SIG_ECC_LOG_team : Fld := ⟨SIG_ECC_LOG, 28, 25⟩
def SIG_ECC_LOG_slot : Fld := ⟨SIG_ECC_LOG, 17, 0⟩
def SIG_CNT_HALF : Nat := 0x300008
def SIG_CNT_HALF_half : Fld := ⟨SIG_CNT_HALF, 7, 0⟩
def SIG_CNT (i : Nat) : Nat := 0x300040 + 0x4 * i
def SIG_GW_CFG : Nat := 0x300100
def SIG_GW_CFG_zone : Fld := ⟨SIG_GW_CFG, 31, 24⟩
def SIG_GW_CFG_kc_type : Fld := ⟨SIG_GW_CFG, 23, 17⟩
def SIG_GW_CFG_ts_domain : Fld := ⟨SIG_GW_CFG, 15, 14⟩
def SIG_GW_MAC_LO : Nat := 0x300104
def SIG_GW_MAC_LO_mac_lo : Fld := ⟨SIG_GW_MAC_LO, 31, 0⟩
def SIG_GW_MAC_HI : Nat := 0x300108
def SIG_GW_MAC_HI_mac_hi : Fld := ⟨SIG_GW_MAC_HI, 15, 0⟩
def SIG_GW_STATUS : Nat := 0x30010C
def SIG_GW_STATUS_defer1 : Fld := ⟨SIG_GW_STATUS, 28, 16⟩
def SIG_GW_STATUS_defer0 : Fld := ⟨SIG_GW_STATUS, 12, 0⟩
def SIG_DEFER_PEAK : Nat := 0x300110
def SIG_DEFER_PEAK_peak1 : Fld := ⟨SIG_DEFER_PEAK, 28, 16⟩
def SIG_DEFER_PEAK_peak0 : Fld := ⟨SIG_DEFER_PEAK, 12, 0⟩
def SIG_RT_PAR_LOG : Nat := 0x300114
def SIG_RT_PAR_LOG_valid : Fld := ⟨SIG_RT_PAR_LOG, 31, 31⟩
def SIG_RT_PAR_LOG_table : Fld := ⟨SIG_RT_PAR_LOG, 30, 28⟩
def SIG_RT_PAR_LOG_index : Fld := ⟨SIG_RT_PAR_LOG, 17, 0⟩
def SIG_RT_SCRUB : Nat := 0x300118
def SIG_RT_SCRUB_period : Fld := ⟨SIG_RT_SCRUB, 15, 0⟩
def SIG_GW_CNT_HALF : Nat := 0x30011C
def SIG_GW_CNT_HALF_half : Fld := ⟨SIG_GW_CNT_HALF, 15, 0⟩
def SIG_GW_CNT (i : Nat) : Nat := 0x300140 + 0x4 * i

/-! ### TMB block (12_time_bases.md, R353) -/
def TMB_TIME_LO (d : Nat) : Nat := 0x30000 + 0x40 * d
def TMB_TIME_HI (d : Nat) : Nat := 0x30004 + 0x40 * d
def TMB_INC_FRAC (d : Nat) : Nat := 0x30008 + 0x40 * d
def TMB_INC_INT (d : Nat) : Nat := 0x3000C + 0x40 * d
def TMB_INC_INT_inc_int (d : Nat) : Fld := ⟨(TMB_INC_INT d), 7, 0⟩
def TMB_STEP_LO (d : Nat) : Nat := 0x30010 + 0x40 * d
def TMB_STEP_HI (d : Nat) : Nat := 0x30014 + 0x40 * d
def TMB_STEP_CTRL (d : Nat) : Nat := 0x30018 + 0x40 * d
def TMB_STEP_CTRL_restore (d : Nat) : Fld := ⟨(TMB_STEP_CTRL d), 1, 1⟩
def TMB_STEP_CTRL_go (d : Nat) : Fld := ⟨(TMB_STEP_CTRL d), 0, 0⟩
def TMB_THRESH (d : Nat) : Nat := 0x3001C + 0x40 * d
def TMB_THRESH_threshold (d : Nat) : Fld := ⟨(TMB_THRESH d), 31, 0⟩
def TMB_SYNC_REPORT (d : Nat) : Nat := 0x30020 + 0x40 * d
def TMB_DOM_STATUS (d : Nat) : Nat := 0x30024 + 0x40 * d
def TMB_DOM_STATUS_inside (d : Nat) : Fld := ⟨(TMB_DOM_STATUS d), 31, 31⟩
def TMB_DOM_STATUS_synced_once (d : Nat) : Fld := ⟨(TMB_DOM_STATUS d), 30, 30⟩
def TMB_DOM_STATUS_refused (d : Nat) : Fld := ⟨(TMB_DOM_STATUS d), 29, 29⟩
def TMB_DOM_STATUS_good_run (d : Nat) : Fld := ⟨(TMB_DOM_STATUS d), 2, 0⟩
def TMB_DOM_CFG (d : Nat) : Nat := 0x30028 + 0x40 * d
def TMB_DOM_CFG_role (d : Nat) : Fld := ⟨(TMB_DOM_CFG d), 31, 31⟩
def TMB_DOM_CFG_sync_port (d : Nat) : Fld := ⟨(TMB_DOM_CFG d), 30, 24⟩
def TMB_DOM_CFG_sync_ivl (d : Nat) : Fld := ⟨(TMB_DOM_CFG d), 15, 0⟩
def TMB_GUARD (d : Nat) : Nat := 0x3002C + 0x40 * d
def TMB_DOM_FB (d : Nat) : Nat := 0x30030 + 0x40 * d
def TMB_DOM_FB_fb_ports (d : Nat) : Fld := ⟨(TMB_DOM_FB d), 15, 0⟩
def TMB_MODE : Nat := 0x30100
def TMB_MODE_wake_guard : Fld := ⟨TMB_MODE, 31, 16⟩
def TMB_MODE_map_en : Fld := ⟨TMB_MODE, 7, 4⟩
def TMB_MODE_mode : Fld := ⟨TMB_MODE, 0, 0⟩
def TMB_PTP_MAP : Nat := 0x30104
def TMB_CNT_HALF : Nat := 0x30108
def TMB_CNT (i : Nat) : Nat := 0x30140 + 0x4 * i
def TMB_TRIG_CTRL (n : Nat) : Nat := 0x30200 + 0x20 * n
def TMB_TRIG_CTRL_enable (n : Nat) : Fld := ⟨(TMB_TRIG_CTRL n), 31, 31⟩
def TMB_TRIG_CTRL_need_guard (n : Nat) : Fld := ⟨(TMB_TRIG_CTRL n), 30, 30⟩
def TMB_TRIG_CTRL_domain (n : Nat) : Fld := ⟨(TMB_TRIG_CTRL n), 29, 28⟩
def TMB_TRIG_CTRL_pulse_en (n : Nat) : Fld := ⟨(TMB_TRIG_CTRL n), 27, 27⟩
def TMB_TRIG_CTRL_gpio (n : Nat) : Fld := ⟨(TMB_TRIG_CTRL n), 19, 16⟩
def TMB_TRIG_CTRL_width (n : Nat) : Fld := ⟨(TMB_TRIG_CTRL n), 15, 0⟩
def TMB_TRIG_TGT_LO (n : Nat) : Nat := 0x30204 + 0x20 * n
def TMB_TRIG_TGT_HI (n : Nat) : Nat := 0x30208 + 0x20 * n
def TMB_TRIG_PERIOD (n : Nat) : Nat := 0x3020C + 0x20 * n
def TMB_TRIG_COUNT (n : Nat) : Nat := 0x30210 + 0x20 * n
def TMB_CAP_CTRL (k : Nat) : Nat := 0x30600 + 0x10 * k
def TMB_CAP_CTRL_enable (k : Nat) : Fld := ⟨(TMB_CAP_CTRL k), 31, 31⟩
def TMB_CAP_CTRL_irq (k : Nat) : Fld := ⟨(TMB_CAP_CTRL k), 30, 30⟩
def TMB_CAP_CTRL_domain (k : Nat) : Fld := ⟨(TMB_CAP_CTRL k), 5, 4⟩
def TMB_CAP_CTRL_edge (k : Nat) : Fld := ⟨(TMB_CAP_CTRL k), 1, 0⟩
def TMB_CAP_STATUS (k : Nat) : Nat := 0x30604 + 0x10 * k
def TMB_CAP_STATUS_level (k : Nat) : Fld := ⟨(TMB_CAP_STATUS k), 2, 0⟩
def TMB_CAP_TS_LO (k : Nat) : Nat := 0x30608 + 0x10 * k
def TMB_CAP_TS_HI (k : Nat) : Nat := 0x3060C + 0x10 * k
def TMB_PTP_PORT (n : Nat) : Nat := 0x30800 + 0x40 * n
def TMB_PTP_PORT_as_capable (n : Nat) : Fld := ⟨(TMB_PTP_PORT n), 0, 0⟩
def TMB_PTP_LEVEL (n : Nat) : Nat := 0x30804 + 0x40 * n
def TMB_PTP_LEVEL_tx_level (n : Nat) : Fld := ⟨(TMB_PTP_LEVEL n), 12, 8⟩
def TMB_PTP_LEVEL_rx_level (n : Nat) : Fld := ⟨(TMB_PTP_LEVEL n), 4, 0⟩
def TMB_PTP_RX (n i : Nat) : Nat := 0x30810 + 0x40 * n + 0x4 * i
def TMB_PTP_TX (n i : Nat) : Nat := 0x30820 + 0x40 * n + 0x4 * i

/-! ### CIP block (13_cipher_engines.md, R382) -/
def CIP_CFG : Nat := 0x70000
def CIP_CFG_pn_warn : Fld := ⟨CIP_CFG, 31, 0⟩
def CIP_STATUS : Nat := 0x70004
def CIP_STATUS_ctx_free : Fld := ⟨CIP_STATUS, 29, 24⟩
def CIP_STATUS_ecdsa_busy : Fld := ⟨CIP_STATUS, 4, 4⟩
def CIP_STATUS_engine_busy : Fld := ⟨CIP_STATUS, 3, 0⟩
def CIP_BOOT_FIELD : Nat := 0x70008
def CIP_SUBMIT_REFUSED : Nat := 0x7000C
def CIP_SUBMIT_REFUSED_func : Fld := ⟨CIP_SUBMIT_REFUSED, 31, 0⟩
def CIP_SUBMIT_REFUSED_OST : Nat := 0x70010
def CIP_SUBMIT_REFUSED_OST_ostler : Fld := ⟨CIP_SUBMIT_REFUSED_OST, 0, 0⟩
def CIP_SA_PAR_LOG : Nat := 0x70014
def CIP_SA_PAR_LOG_valid : Fld := ⟨CIP_SA_PAR_LOG, 31, 31⟩
def CIP_SA_PAR_LOG_index : Fld := ⟨CIP_SA_PAR_LOG, 9, 0⟩
def CIP_CNT_HALF : Nat := 0x70018
def CIP_CNT_HALF_half : Fld := ⟨CIP_CNT_HALF, 18, 0⟩
def CIP_CNT (i : Nat) : Nat := 0x70040 + 0x4 * i
def CIP_SUBMIT_LO (f : Nat) : Nat := 0x70100 + 0x8 * f
def CIP_SUBMIT_HI (f : Nat) : Nat := 0x70104 + 0x8 * f
def CIP_SUBMIT_OST_LO : Nat := 0x70200
def CIP_SUBMIT_OST_HI : Nat := 0x70204
def CIP_PORT_CFG (i : Nat) : Nat := 0x70400 + 0x4 * i
def CIP_PORT_CFG_tx_an (i : Nat) : Fld := ⟨(CIP_PORT_CFG i), 1, 0⟩
def CIP_FJOB (i : Nat) : Nat := 0x70800 + 0x10 * i
def CIP_FJOB_valid (i : Nat) : Fld := ⟨(CIP_FJOB i), 31, 31⟩
def CIP_FJOB_op (i : Nat) : Fld := ⟨(CIP_FJOB i), 30, 30⟩
def CIP_FJOB_stream (i : Nat) : Fld := ⟨(CIP_FJOB i), 25, 13⟩
def CIP_FJOB_key (i : Nat) : Fld := ⟨(CIP_FJOB i), 11, 0⟩
def CIP_FJOB_owner (i : Nat) : Fld := ⟨(CIP_FJOB i + 4), 31, 24⟩

/-! ### KEY block (14_tack_room.md, R402) -/
def KEY_CMD : Nat := 0x60000
def KEY_CMD_slot : Fld := ⟨KEY_CMD, 27, 16⟩
def KEY_CMD_opcode : Fld := ⟨KEY_CMD, 3, 0⟩
def KEY_ARG : Nat := 0x60004
def KEY_ARG_persist : Fld := ⟨KEY_ARG, 31, 31⟩
def KEY_ARG_exportable : Fld := ⟨KEY_ARG, 30, 30⟩
def KEY_ARG_len256 : Fld := ⟨KEY_ARG, 29, 29⟩
def KEY_ARG_usage : Fld := ⟨KEY_ARG, 27, 26⟩
def KEY_ARG_src_root : Fld := ⟨KEY_ARG, 12, 12⟩
def KEY_ARG_src : Fld := ⟨KEY_ARG, 11, 0⟩
def KEY_STATUS : Nat := 0x60008
def KEY_STATUS_status : Fld := ⟨KEY_STATUS, 31, 16⟩
def KEY_STATUS_closed : Fld := ⟨KEY_STATUS, 15, 15⟩
def KEY_STATUS_debug : Fld := ⟨KEY_STATUS, 14, 14⟩
def KEY_STATUS_loaded : Fld := ⟨KEY_STATUS, 13, 13⟩
def KEY_STATUS_function : Fld := ⟨KEY_STATUS, 12, 8⟩
def KEY_STATUS_requester : Fld := ⟨KEY_STATUS, 7, 6⟩
def KEY_STATUS_done : Fld := ⟨KEY_STATUS, 1, 1⟩
def KEY_STATUS_busy : Fld := ⟨KEY_STATUS, 0, 0⟩
def KEY_TAMPER : Nat := 0x6000C
def KEY_TAMPER_active : Fld := ⟨KEY_TAMPER, 19, 16⟩
def KEY_TAMPER_latch : Fld := ⟨KEY_TAMPER, 3, 0⟩
def KEY_PERSIST : Nat := 0x60010
def KEY_PERSIST_discarded : Fld := ⟨KEY_PERSIST, 26, 16⟩
def KEY_PERSIST_used : Fld := ⟨KEY_PERSIST, 10, 0⟩
def KEY_DBG_CHALLENGE (i : Nat) : Nat := 0x60040 + 0x4 * i
def KEY_CNT (i : Nat) : Nat := 0x60080 + 0x4 * i
def KEY_DATA (i : Nat) : Nat := 0x60100 + 0x4 * i
def KEY_OUT (i : Nat) : Nat := 0x60200 + 0x4 * i

/-! ### SCL block (15_owners_saddlecloth.md, R415) -/
def SCL_CMD : Nat := 0x80000
def SCL_CMD_owner : Fld := ⟨SCL_CMD, 11, 4⟩
def SCL_CMD_opcode : Fld := ⟨SCL_CMD, 3, 0⟩
def SCL_ARG : Nat := 0x80004
def SCL_ARG_host_function : Fld := ⟨SCL_ARG, 28, 24⟩
def SCL_ARG_key_count : Fld := ⟨SCL_ARG, 23, 12⟩
def SCL_ARG_key_first : Fld := ⟨SCL_ARG, 11, 0⟩
def SCL_STATUS : Nat := 0x80008
def SCL_STATUS_status : Fld := ⟨SCL_STATUS, 31, 16⟩
def SCL_STATUS_done : Fld := ⟨SCL_STATUS, 1, 1⟩
def SCL_STATUS_busy : Fld := ⟨SCL_STATUS, 0, 0⟩
def SCL_OWNER_SEL : Nat := 0x8000C
def SCL_OWNER_SEL_owner : Fld := ⟨SCL_OWNER_SEL, 7, 0⟩
def SCL_OWNER_STATE : Nat := 0x80010
def SCL_OWNER_STATE_state : Fld := ⟨SCL_OWNER_STATE, 31, 30⟩
def SCL_OWNER_STATE_key_valid : Fld := ⟨SCL_OWNER_STATE, 29, 29⟩
def SCL_OWNER_STATE_persistent : Fld := ⟨SCL_OWNER_STATE, 28, 28⟩
def SCL_OWNER_STATE_epoch : Fld := ⟨SCL_OWNER_STATE, 27, 20⟩
def SCL_OWNER_STATE_bound : Fld := ⟨SCL_OWNER_STATE, 13, 13⟩
def SCL_OWNER_STATE_function : Fld := ⟨SCL_OWNER_STATE, 12, 8⟩
def SCL_REJECT_LOG : Nat := 0x80014
def SCL_REJECT_LOG_valid : Fld := ⟨SCL_REJECT_LOG, 31, 31⟩
def SCL_REJECT_LOG_owner : Fld := ⟨SCL_REJECT_LOG, 30, 23⟩
def SCL_REJECT_LOG_space : Fld := ⟨SCL_REJECT_LOG, 22, 22⟩
def SCL_REJECT_LOG_index : Fld := ⟨SCL_REJECT_LOG, 21, 0⟩
def SCL_REJECT_COUNT : Nat := 0x80018
def SCL_REJECT_COUNT_count : Fld := ⟨SCL_REJECT_COUNT, 31, 0⟩
def SCL_CNT (i : Nat) : Nat := 0x80040 + 0x4 * i

/-! ### PWK block (16_power_states_wake.md, R440) -/
def PWK_STATE : Nat := 0x10000
def PWK_STATE_target : Fld := ⟨PWK_STATE, 9, 8⟩
def PWK_STATE_off_latched : Fld := ⟨PWK_STATE, 7, 7⟩
def PWK_STATE_phase : Fld := ⟨PWK_STATE, 6, 4⟩
def PWK_STATE_state : Fld := ⟨PWK_STATE, 1, 0⟩
def PWK_CTRL : Nat := 0x10004
def PWK_CTRL_sleep : Fld := ⟨PWK_CTRL, 8, 8⟩
def PWK_CTRL_target : Fld := ⟨PWK_CTRL, 1, 0⟩
def PWK_CONSENT : Nat := 0x10008
def PWK_CONSENT_svc : Fld := ⟨PWK_CONSENT, 2, 2⟩
def PWK_CONSENT_ostler : Fld := ⟨PWK_CONSENT, 1, 1⟩
def PWK_CONSENT_host : Fld := ⟨PWK_CONSENT, 0, 0⟩
def PWK_READY : Nat := 0x1000C
def PWK_READY_ready : Fld := ⟨PWK_READY, 5, 5⟩
def PWK_READY_cond : Fld := ⟨PWK_READY, 4, 0⟩
def PWK_RING_STATUS : Nat := 0x10010
def PWK_RING_STATUS_phase : Fld := ⟨PWK_RING_STATUS, 31, 30⟩
def PWK_RING_STATUS_initiator : Fld := ⟨PWK_RING_STATUS, 21, 16⟩
def PWK_RING_STATUS_round : Fld := ⟨PWK_RING_STATUS, 15, 0⟩
def PWK_DISMOUNT_LEFT : Nat := 0x10014
def PWK_DISMOUNT_LEFT_ms : Fld := ⟨PWK_DISMOUNT_LEFT, 15, 0⟩
def PWK_RING_CONSENT_LO : Nat := 0x10018
def PWK_RING_CONSENT_HI : Nat := 0x1001C
def PWK_RING_PRESENT_LO : Nat := 0x10020
def PWK_RING_PRESENT_HI : Nat := 0x10024
def PWK_WAKE_CTRL : Nat := 0x10030
def PWK_WAKE_CTRL_assert : Fld := ⟨PWK_WAKE_CTRL, 0, 0⟩
def PWK_WAKE_STATUS : Nat := 0x10034
def PWK_WAKE_STATUS_stuck : Fld := ⟨PWK_WAKE_STATUS, 3, 3⟩
def PWK_WAKE_STATUS_held : Fld := ⟨PWK_WAKE_STATUS, 2, 2⟩
def PWK_WAKE_STATUS_driving : Fld := ⟨PWK_WAKE_STATUS, 1, 1⟩
def PWK_WAKE_STATUS_level : Fld := ⟨PWK_WAKE_STATUS, 0, 0⟩
def PWK_ACLK_COUNT : Nat := 0x10040
def PWK_WREC_IDX : Nat := 0x10044
def PWK_WREC_IDX_wakes : Fld := ⟨PWK_WREC_IDX, 31, 16⟩
def PWK_WREC_IDX_next : Fld := ⟨PWK_WREC_IDX, 3, 0⟩
def PWK_WREC (i : Nat) : Nat := 0x10080 + 0x10 * i
def PWK_CNT (i : Nat) : Nat := 0x10200 + 0x4 * i

/-! ### PWR block (17_loads_battery.md, R468) -/
def PWR_STATUS : Nat := 0xC0000
def PWR_STATUS_plk_lost : Fld := ⟨PWR_STATUS, 31, 31⟩
def PWR_STATUS_pkg_shed : Fld := ⟨PWR_STATUS, 4, 4⟩
def PWR_STATUS_group_shed : Fld := ⟨PWR_STATUS, 3, 0⟩
def PWR_GROUP_I (i : Nat) : Nat := 0xC0010 + 0x4 * i
def PWR_GROUP_I_energy (i : Nat) : Fld := ⟨(PWR_GROUP_I i), 31, 16⟩
def PWR_GROUP_I_current (i : Nat) : Fld := ⟨(PWR_GROUP_I i), 15, 0⟩
def PWR_PKG_I : Nat := 0xC0020
def PWR_CNT (i : Nat) : Nat := 0xC0040 + 0x4 * i
def PWR_OUT_CFG (j : Nat) : Nat := 0xC1000 + 0x100 * j
def PWR_OUT_CFG_owner (j : Nat) : Fld := ⟨(PWR_OUT_CFG j), 31, 24⟩
def PWR_OUT_CFG_trig_en (j : Nat) : Fld := ⟨(PWR_OUT_CFG j), 23, 23⟩
def PWR_OUT_CFG_trig (j : Nat) : Fld := ⟨(PWR_OUT_CFG j), 22, 18⟩
def PWR_OUT_CFG_source (j : Nat) : Fld := ⟨(PWR_OUT_CFG j), 17, 16⟩
def PWR_OUT_CFG_slew (j : Nat) : Fld := ⟨(PWR_OUT_CFG j), 15, 14⟩
def PWR_OUT_CFG_retry (j : Nat) : Fld := ⟨(PWR_OUT_CFG j), 13, 11⟩
def PWR_OUT_CFG_fuse_class (j : Nat) : Fld := ⟨(PWR_OUT_CFG j), 10, 9⟩
def PWR_OUT_CFG_inom (j : Nat) : Fld := ⟨(PWR_OUT_CFG j), 8, 4⟩
def PWR_OUT_CFG_mode (j : Nat) : Fld := ⟨(PWR_OUT_CFG j), 3, 0⟩
def PWR_OUT_PWM (j : Nat) : Nat := 0xC1004 + 0x100 * j
def PWR_OUT_PWM_phase (j : Nat) : Fld := ⟨(PWR_OUT_PWM j), 31, 24⟩
def PWR_OUT_PWM_pwm_hz (j : Nat) : Fld := ⟨(PWR_OUT_PWM j), 15, 0⟩
def PWR_OUT_CMD (j : Nat) : Nat := 0xC1008 + 0x100 * j
def PWR_OUT_CMD_dir (j : Nat) : Fld := ⟨(PWR_OUT_CMD j), 19, 18⟩
def PWR_OUT_CMD_duty (j : Nat) : Fld := ⟨(PWR_OUT_CMD j), 15, 0⟩
def PWR_OUT_SLOT (j : Nat) : Nat := 0xC100C + 0x100 * j
def PWR_OUT_SLOT_slot (j : Nat) : Fld := ⟨(PWR_OUT_SLOT j), 17, 0⟩
def PWR_OUT_STATUS (j : Nat) : Nat := 0xC1010 + 0x100 * j
def PWR_OUT_STATUS_state (j : Nat) : Fld := ⟨(PWR_OUT_STATUS j), 31, 29⟩
def PWR_OUT_STATUS_duty_now (j : Nat) : Fld := ⟨(PWR_OUT_STATUS j), 15, 0⟩
def PWR_OUT_FAULT (j : Nat) : Nat := 0xC1014 + 0x100 * j
def PWR_OUT_FAULT_slew_limited (j : Nat) : Fld := ⟨(PWR_OUT_FAULT j), 10, 10⟩
def PWR_OUT_FAULT_hobble_on (j : Nat) : Fld := ⟨(PWR_OUT_FAULT j), 9, 9⟩
def PWR_OUT_FAULT_hobble_energy (j : Nat) : Fld := ⟨(PWR_OUT_FAULT j), 8, 8⟩
def PWR_OUT_FAULT_short_vload (j : Nat) : Fld := ⟨(PWR_OUT_FAULT j), 7, 7⟩
def PWR_OUT_FAULT_open_load (j : Nat) : Fld := ⟨(PWR_OUT_FAULT j), 6, 6⟩
def PWR_OUT_FAULT_shed_pkg (j : Nat) : Fld := ⟨(PWR_OUT_FAULT j), 5, 5⟩
def PWR_OUT_FAULT_shed_group (j : Nat) : Fld := ⟨(PWR_OUT_FAULT j), 4, 4⟩
def PWR_OUT_FAULT_thermal (j : Nat) : Fld := ⟨(PWR_OUT_FAULT j), 3, 3⟩
def PWR_OUT_FAULT_inrush (j : Nat) : Fld := ⟨(PWR_OUT_FAULT j), 2, 2⟩
def PWR_OUT_FAULT_short_circuit (j : Nat) : Fld := ⟨(PWR_OUT_FAULT j), 1, 1⟩
def PWR_OUT_FAULT_fuse (j : Nat) : Fld := ⟨(PWR_OUT_FAULT j), 0, 0⟩
def PWR_OUT_MEAS (j : Nat) : Nat := 0xC1018 + 0x100 * j
def PWR_OUT_MEAS_current (j : Nat) : Fld := ⟨(PWR_OUT_MEAS j), 31, 16⟩
def PWR_OUT_MEAS_energy (j : Nat) : Fld := ⟨(PWR_OUT_MEAS j), 15, 0⟩
def PWR_OUT_DIAG (j : Nat) : Nat := 0xC101C + 0x100 * j
def PWR_OUT_DIAG_safe_duty (j : Nat) : Fld := ⟨(PWR_OUT_DIAG j), 31, 16⟩
def PWR_OUT_DIAG_open_ma (j : Nat) : Fld := ⟨(PWR_OUT_DIAG j), 15, 0⟩
def PWR_PROF_CTRL (j : Nat) : Nat := 0xC1020 + 0x100 * j
def PWR_PROF_CTRL_run (j : Nat) : Fld := ⟨(PWR_PROF_CTRL j), 31, 31⟩
def PWR_PROF_CTRL_jump (j : Nat) : Fld := ⟨(PWR_PROF_CTRL j), 30, 30⟩
def PWR_PROF_CTRL_jump_target (j : Nat) : Fld := ⟨(PWR_PROF_CTRL j), 28, 24⟩
def PWR_PROF_CTRL_start_seg (j : Nat) : Fld := ⟨(PWR_PROF_CTRL j), 4, 0⟩
def PWR_PROF_STATUS (j : Nat) : Nat := 0xC1024 + 0x100 * j
def PWR_PROF_STATUS_running (j : Nat) : Fld := ⟨(PWR_PROF_STATUS j), 31, 31⟩
def PWR_PROF_STATUS_jump_pending (j : Nat) : Fld := ⟨(PWR_PROF_STATUS j), 30, 30⟩
def PWR_PROF_STATUS_segment (j : Nat) : Fld := ⟨(PWR_PROF_STATUS j), 20, 16⟩
def PWR_PROF_STATUS_sample (j : Nat) : Fld := ⟨(PWR_PROF_STATUS j), 15, 0⟩
def PWR_PROF_SEG (j i : Nat) : Nat := 0xC4000 + 0x100 * j + 0x8 * i
def PWR_PROF_SEG_end (j i : Nat) : Fld := ⟨(PWR_PROF_SEG j i), 31, 16⟩
def PWR_PROF_SEG_start (j i : Nat) : Fld := ⟨(PWR_PROF_SEG j i), 15, 0⟩
def PWR_PROF_SEG_samples (j i : Nat) : Fld := ⟨(PWR_PROF_SEG j i + 4), 31, 16⟩
def PWR_PROF_SEG_valid (j i : Nat) : Fld := ⟨(PWR_PROF_SEG j i + 4), 15, 15⟩
def PWR_PROF_SEG_end_flag (j i : Nat) : Fld := ⟨(PWR_PROF_SEG j i + 4), 14, 14⟩
def PWR_PROF_SEG_next (j i : Nat) : Fld := ⟨(PWR_PROF_SEG j i + 4), 4, 0⟩

/-! ### BAT block (17_loads_battery.md, R473) -/
def BAT_CFG : Nat := 0xD0000
def BAT_CFG_period_ms : Fld := ⟨BAT_CFG, 31, 16⟩
def BAT_CFG_cell_count : Fld := ⟨BAT_CFG, 4, 0⟩
def BAT_CTRL : Nat := 0xD0004
def BAT_CTRL_ow_start : Fld := ⟨BAT_CTRL, 2, 2⟩
def BAT_CTRL_meas_start : Fld := ⟨BAT_CTRL, 1, 1⟩
def BAT_CTRL_bal_auto : Fld := ⟨BAT_CTRL, 0, 0⟩
def BAT_STATUS : Nat := 0xD0008
def BAT_STATUS_ow_busy : Fld := ⟨BAT_STATUS, 31, 31⟩
def BAT_STATUS_meas_valid : Fld := ⟨BAT_STATUS, 30, 30⟩
def BAT_STATUS_sum_mismatch : Fld := ⟨BAT_STATUS, 29, 29⟩
def BAT_STATUS_meas_count : Fld := ⟨BAT_STATUS, 15, 0⟩
def BAT_LIMITS : Nat := 0xD000C
def BAT_LIMITS_ov_mv : Fld := ⟨BAT_LIMITS, 31, 16⟩
def BAT_LIMITS_uv_mv : Fld := ⟨BAT_LIMITS, 15, 0⟩
def BAT_BAL_CFG : Nat := 0xD0010
def BAT_BAL_CFG_bal_min_mv : Fld := ⟨BAT_BAL_CFG, 31, 16⟩
def BAT_BAL_CFG_bal_delta_mv : Fld := ⟨BAT_BAL_CFG, 7, 0⟩
def BAT_BAL_MASK : Nat := 0xD0014
def BAT_BAL_MASK_mask : Fld := ⟨BAT_BAL_MASK, 15, 0⟩
def BAT_BAL_ACTIVE : Nat := 0xD0018
def BAT_BAL_ACTIVE_active : Fld := ⟨BAT_BAL_ACTIVE, 15, 0⟩
def BAT_THRESH : Nat := 0xD001C
def BAT_THRESH_ow_thresh_mv : Fld := ⟨BAT_THRESH, 31, 16⟩
def BAT_THRESH_sum_thresh_mv : Fld := ⟨BAT_THRESH, 15, 0⟩
def BAT_CELL_FLAGS : Nat := 0xD0020
def BAT_CELL_FLAGS_uv : Fld := ⟨BAT_CELL_FLAGS, 31, 16⟩
def BAT_CELL_FLAGS_ov : Fld := ⟨BAT_CELL_FLAGS, 15, 0⟩
def BAT_OW_RESULT : Nat := 0xD0024
def BAT_OW_RESULT_valid : Fld := ⟨BAT_OW_RESULT, 31, 31⟩
def BAT_OW_RESULT_wire : Fld := ⟨BAT_OW_RESULT, 16, 0⟩
def BAT_VPACK : Nat := 0xD0028
def BAT_VPACK_vpack : Fld := ⟨BAT_VPACK, 15, 0⟩
def BAT_CELL (i : Nat) : Nat := 0xD0040 + 0x4 * i
def BAT_OW_SHIFT (i : Nat) : Nat := 0xD0080 + 0x4 * i
def BAT_OW_SHIFT_fall (i : Nat) : Fld := ⟨(BAT_OW_SHIFT i), 31, 16⟩
def BAT_OW_SHIFT_rise (i : Nat) : Fld := ⟨(BAT_OW_SHIFT i), 15, 0⟩
def BAT_CNT (i : Nat) : Nat := 0xD0140 + 0x4 * i
def BAT_SEQ_CTRL (q : Nat) : Nat := 0xD0200 + 0x40 * q
def BAT_SEQ_CTRL_owner (q : Nat) : Fld := ⟨(BAT_SEQ_CTRL q), 31, 24⟩
def BAT_SEQ_CTRL_sync_pwm (q : Nat) : Fld := ⟨(BAT_SEQ_CTRL q), 17, 17⟩
def BAT_SEQ_CTRL_slot_en (q : Nat) : Fld := ⟨(BAT_SEQ_CTRL q), 16, 16⟩
def BAT_SEQ_CTRL_count (q : Nat) : Fld := ⟨(BAT_SEQ_CTRL q), 12, 8⟩
def BAT_SEQ_CTRL_comp (q : Nat) : Fld := ⟨(BAT_SEQ_CTRL q), 6, 2⟩
def BAT_SEQ_CTRL_mode (q : Nat) : Fld := ⟨(BAT_SEQ_CTRL q), 1, 0⟩
def BAT_SEQ_PERIOD (q : Nat) : Nat := 0xD0204 + 0x40 * q
def BAT_SEQ_PERIOD_period_us (q : Nat) : Fld := ⟨(BAT_SEQ_PERIOD q), 31, 0⟩
def BAT_SEQ_SLOT (q : Nat) : Nat := 0xD0208 + 0x40 * q
def BAT_SEQ_SLOT_slot_first (q : Nat) : Fld := ⟨(BAT_SEQ_SLOT q), 17, 0⟩
def BAT_SEQ_GO (q : Nat) : Nat := 0xD020C + 0x40 * q
def BAT_SEQ_GO_go (q : Nat) : Fld := ⟨(BAT_SEQ_GO q), 0, 0⟩
def BAT_SEQ_CH (q i : Nat) : Nat := 0xD0210 + 0x40 * q + 0x4 * i
def BAT_SEQ_RES (q i : Nat) : Nat := 0xD0220 + 0x40 * q + 0x4 * i

/-! ### HOB block (18_ostler_hobble_arbiters.md, R487) -/
def HOB_CREDIT (i : Nat) : Nat := 0xB0800 + 0x4 * i
def HOB_STATUS : Nat := 0xB0900
def HOB_STATUS_restoring : Fld := ⟨HOB_STATUS, 0, 0⟩
def HOB_LANE_HOLD_LO : Nat := 0xB0904
def HOB_LANE_HOLD_HI : Nat := 0xB0908
def HOB_MISMATCH_LOG : Nat := 0xB090C
def HOB_MISMATCH_LOG_valid : Fld := ⟨HOB_MISMATCH_LOG, 31, 31⟩
def HOB_MISMATCH_LOG_offset : Fld := ⟨HOB_MISMATCH_LOG, 10, 0⟩

/-! ### ARB block (18_ostler_hobble_arbiters.md, R493) -/
def ARB_WAIT_LIMIT (a : Nat) : Nat := 0x50000 + 0x200 * a
def ARB_WAIT_LIMIT_limit (a : Nat) : Fld := ⟨(ARB_WAIT_LIMIT a), 15, 0⟩
def ARB_PREEMPTS (a : Nat) : Nat := 0x50004 + 0x200 * a
def ARB_PREEMPTS_count (a : Nat) : Fld := ⟨(ARB_PREEMPTS a), 31, 0⟩
def ARB_OVER_LOG (a : Nat) : Nat := 0x50008 + 0x200 * a
def ARB_OVER_LOG_valid (a : Nat) : Fld := ⟨(ARB_OVER_LOG a), 31, 31⟩
def ARB_OVER_LOG_requester (a : Nat) : Fld := ⟨(ARB_OVER_LOG a), 20, 16⟩
def ARB_OVER_LOG_wait (a : Nat) : Fld := ⟨(ARB_OVER_LOG a), 15, 0⟩
def ARB_GRANTS (a r : Nat) : Nat := 0x50020 + 0x200 * a + 0x10 * r
def ARB_GRANTS_count (a r : Nat) : Fld := ⟨(ARB_GRANTS a r), 31, 0⟩
def ARB_WAIT_SUM (a r : Nat) : Nat := 0x50024 + 0x200 * a + 0x10 * r
def ARB_WAIT_SUM_cycles (a r : Nat) : Fld := ⟨(ARB_WAIT_SUM a r), 31, 0⟩
def ARB_WAIT_MAX (a r : Nat) : Nat := 0x50028 + 0x200 * a + 0x10 * r
def ARB_WAIT_MAX_cycles (a r : Nat) : Fld := ⟨(ARB_WAIT_MAX a r), 31, 0⟩
def ARB_RESTARTS (a r : Nat) : Nat := 0x5002C + 0x200 * a + 0x10 * r
def ARB_RESTARTS_count (a r : Nat) : Fld := ⟨(ARB_RESTARTS a r), 31, 0⟩

/-! ### EVC block (19_events_journal.md, R507) -/
def EVC_CFG : Nat := 0x20000
def EVC_CFG_window_ms : Fld := ⟨EVC_CFG, 31, 16⟩
def EVC_CFG_ts_domain : Fld := ⟨EVC_CFG, 1, 0⟩
def EVC_STATUS : Nat := 0x20004
def EVC_STATUS_class0_unread : Fld := ⟨EVC_STATUS, 28, 16⟩
def EVC_STATUS_occupied : Fld := ⟨EVC_STATUS, 12, 0⟩
def EVC_HRB_NEXT : Nat := 0x20008
def EVC_HRB_NEXT_valid : Fld := ⟨EVC_HRB_NEXT, 31, 31⟩
def EVC_HRB_NEXT_event : Fld := ⟨EVC_HRB_NEXT, 10, 0⟩
def EVC_JRNL_CTRL : Nat := 0x20010
def EVC_JRNL_CTRL_high : Fld := ⟨EVC_JRNL_CTRL, 28, 16⟩
def EVC_JRNL_CTRL_ost_en : Fld := ⟨EVC_JRNL_CTRL, 1, 1⟩
def EVC_JRNL_CTRL_host_en : Fld := ⟨EVC_JRNL_CTRL, 0, 0⟩
def EVC_JRNL_WR : Nat := 0x20014
def EVC_JRNL_WR_wr : Fld := ⟨EVC_JRNL_WR, 12, 0⟩
def EVC_JRNL_RD_HOST : Nat := 0x20018
def EVC_JRNL_RD_HOST_rd : Fld := ⟨EVC_JRNL_RD_HOST, 12, 0⟩
def EVC_JRNL_RD_OST : Nat := 0x2001C
def EVC_JRNL_RD_OST_rd : Fld := ⟨EVC_JRNL_RD_OST, 12, 0⟩
def EVC_BB_STATUS : Nat := 0x20020
def EVC_BB_STATUS_ready : Fld := ⟨EVC_BB_STATUS, 31, 31⟩
def EVC_BB_STATUS_staged : Fld := ⟨EVC_BB_STATUS, 30, 24⟩
def EVC_BB_STATUS_next : Fld := ⟨EVC_BB_STATUS, 14, 0⟩
def EVC_LOST (i : Nat) : Nat := 0x20040 + 0x4 * i
def EVC_BB_LOST : Nat := 0x20050
def EVC_RD_REJECT : Nat := 0x20054
def EVC_PEND (i : Nat) : Nat := 0x20100 + 0x4 * i
def EVC_SRC (i : Nat) : Nat := 0x21000 + 0x4 * i
def EVC_SRC_enable (i : Nat) : Fld := ⟨(EVC_SRC i), 31, 31⟩
def EVC_SRC_class (i : Nat) : Fld := ⟨(EVC_SRC i), 30, 29⟩
def EVC_SRC_jrnl (i : Nat) : Fld := ⟨(EVC_SRC i), 28, 28⟩
def EVC_SRC_bb (i : Nat) : Fld := ⟨(EVC_SRC i), 27, 27⟩
def EVC_SRC_hrb (i : Nat) : Fld := ⟨(EVC_SRC i), 26, 26⟩
def EVC_SRC_ost (i : Nat) : Fld := ⟨(EVC_SRC i), 25, 25⟩
def EVC_SRC_host (i : Nat) : Fld := ⟨(EVC_SRC i), 24, 24⟩
def EVC_SRC_func (i : Nat) : Fld := ⟨(EVC_SRC i), 20, 16⟩
def EVC_SRC_vec (i : Nat) : Fld := ⟨(EVC_SRC i), 13, 8⟩
def EVC_SRC_owner (i : Nat) : Fld := ⟨(EVC_SRC i), 7, 0⟩

/-! ### HST block (20_host_port.md, R527) -/
def HST_LINK_STATUS : Nat := 0x40000
def HST_LINK_STATUS_state : Fld := ⟨HST_LINK_STATUS, 7, 5⟩
def HST_LINK_STATUS_width : Fld := ⟨HST_LINK_STATUS, 4, 2⟩
def HST_LINK_STATUS_gen : Fld := ⟨HST_LINK_STATUS, 1, 0⟩
def HST_FUNC_BOUND : Nat := 0x40004
def HST_CNT (i : Nat) : Nat := 0x40040 + 0x4 * i
def HST_QP_CFG (q : Nat) : Nat := 0x41000 + 0x40 * q
def HST_QP_CFG_enable (q : Nat) : Fld := ⟨(HST_QP_CFG q), 31, 31⟩
def HST_QP_CFG_func (q : Nat) : Fld := ⟨(HST_QP_CFG q), 30, 26⟩
def HST_QP_CFG_ep (q : Nat) : Fld := ⟨(HST_QP_CFG q), 25, 25⟩
def HST_QP_CFG_rxq (q : Nat) : Fld := ⟨(HST_QP_CFG q), 24, 22⟩
def HST_QP_CFG_ring_log2 (q : Nat) : Fld := ⟨(HST_QP_CFG q), 18, 16⟩
def HST_QP_CFG_buf_size (q : Nat) : Fld := ⟨(HST_QP_CFG q), 15, 14⟩
def HST_QP_STATUS (q : Nat) : Nat := 0x41004 + 0x40 * q
def HST_QP_STATUS_owner (q : Nat) : Fld := ⟨(HST_QP_STATUS q), 31, 24⟩
def HST_QP_STATUS_rx_stalled (q : Nat) : Fld := ⟨(HST_QP_STATUS q), 1, 1⟩
def HST_QP_STATUS_tx_error (q : Nat) : Fld := ⟨(HST_QP_STATUS q), 0, 0⟩
def HST_QP_TX_BASE_LO (q : Nat) : Nat := 0x41008 + 0x40 * q
def HST_QP_TX_BASE_HI (q : Nat) : Nat := 0x4100C + 0x40 * q
def HST_QP_RX_BASE_LO (q : Nat) : Nat := 0x41010 + 0x40 * q
def HST_QP_RX_BASE_HI (q : Nat) : Nat := 0x41014 + 0x40 * q
def HST_QP_TX_TAIL (q : Nat) : Nat := 0x41018 + 0x40 * q
def HST_QP_TX_HEAD (q : Nat) : Nat := 0x4101C + 0x40 * q
def HST_QP_RX_TAIL (q : Nat) : Nat := 0x41020 + 0x40 * q
def HST_QP_RX_HEAD (q : Nat) : Nat := 0x41024 + 0x40 * q

/-! ### GLB block (21_register_map.md, R537) -/
def GLB_DEVICE_ID : Nat := 0x0
def GLB_DEVICE_ID_family : Fld := ⟨GLB_DEVICE_ID, 31, 16⟩
def GLB_DEVICE_ID_part_number : Fld := ⟨GLB_DEVICE_ID, 15, 0⟩
def GLB_STEPPING : Nat := 0x4
def GLB_STEPPING_major : Fld := ⟨GLB_STEPPING, 7, 4⟩
def GLB_STEPPING_minor : Fld := ⟨GLB_STEPPING, 3, 0⟩
def GLB_CAP_UNITS : Nat := 0x10
def GLB_CAP_UNITS_hbridge : Fld := ⟨GLB_CAP_UNITS, 26, 26⟩
def GLB_CAP_UNITS_trace : Fld := ⟨GLB_CAP_UNITS, 25, 25⟩
def GLB_CAP_UNITS_bat_mon : Fld := ⟨GLB_CAP_UNITS, 24, 24⟩
def GLB_CAP_UNITS_teams : Fld := ⟨GLB_CAP_UNITS, 23, 8⟩
def GLB_CAP_UNITS_bulk : Fld := ⟨GLB_CAP_UNITS, 7, 4⟩
def GLB_CAP_UNITS_eth10g : Fld := ⟨GLB_CAP_UNITS, 3, 0⟩
def GLB_CAP_LANES_LO : Nat := 0x14
def GLB_CAP_LANES_HI : Nat := 0x18
def GLB_ABSENT_WRITES : Nat := 0x1C
def GLB_IMAGE_STATUS : Nat := 0x20
def GLB_IMAGE_STATUS_load_status : Fld := ⟨GLB_IMAGE_STATUS, 31, 16⟩
def GLB_IMAGE_STATUS_hash : Fld := ⟨GLB_IMAGE_STATUS, 9, 8⟩
def GLB_IMAGE_STATUS_fallback : Fld := ⟨GLB_IMAGE_STATUS, 7, 7⟩
def GLB_IMAGE_STATUS_slot : Fld := ⟨GLB_IMAGE_STATUS, 6, 6⟩
def GLB_IMAGE_STATUS_state : Fld := ⟨GLB_IMAGE_STATUS, 1, 0⟩
def GLB_IMAGE_GEN : Nat := 0x24
def GLB_IMAGE_VERSION : Nat := 0x28
def GLB_IMAGE_TARGET : Nat := 0x2C
def GLB_IMAGE_TARGET_build_target : Fld := ⟨GLB_IMAGE_TARGET, 15, 0⟩
def GLB_OSTLER_STATUS : Nat := 0x30
def GLB_OSTLER_STATUS_state : Fld := ⟨GLB_OSTLER_STATUS, 31, 30⟩
def GLB_OSTLER_STATUS_halt_cause : Fld := ⟨GLB_OSTLER_STATUS, 29, 28⟩
def GLB_OSTLER_STATUS_restarts : Fld := ⟨GLB_OSTLER_STATUS, 23, 16⟩
def GLB_OSTLER_STATUS_drops : Fld := ⟨GLB_OSTLER_STATUS, 15, 0⟩
def GLB_OSTLER_CTRL : Nat := 0x34
def GLB_OSTLER_CTRL_restart : Fld := ⟨GLB_OSTLER_CTRL, 1, 1⟩
def GLB_OSTLER_CTRL_kick : Fld := ⟨GLB_OSTLER_CTRL, 0, 0⟩

/-! ### Entry FDB (07_forwarding.md, R194) -/
def FDB_mac_lo : EFld := ⟨0, 31, 0⟩
def FDB_vid : EFld := ⟨1, 27, 16⟩
def FDB_mac_hi : EFld := ⟨1, 15, 0⟩
def FDB_valid : EFld := ⟨2, 31, 31⟩
def FDB_static : EFld := ⟨2, 30, 30⟩
def FDB_lock : EFld := ⟨2, 29, 29⟩
def FDB_peer : EFld := ⟨2, 28, 28⟩
def FDB_age : EFld := ⟨2, 27, 24⟩
def FDB_group : EFld := ⟨2, 23, 23⟩
def FDB_dest : EFld := ⟨2, 22, 16⟩
def FDB_stream_valid : EFld := ⟨2, 15, 15⟩
def FDB_auto : EFld := ⟨2, 14, 14⟩
def FDB_drop : EFld := ⟨2, 13, 13⟩
def FDB_stream : EFld := ⟨2, 12, 0⟩
def FDB_owner : EFld := ⟨3, 31, 24⟩
def FDB_parity : EFld := ⟨3, 0, 0⟩

/-! ### Entry RULE (07_forwarding.md, R204) -/
def RULE_valid : EFld := ⟨10, 31, 31⟩
def RULE_lock : EFld := ⟨10, 30, 30⟩
def RULE_drop : EFld := ⟨10, 29, 29⟩
def RULE_copy_ostler : EFld := ⟨10, 28, 28⟩
def RULE_class_en : EFld := ⟨10, 27, 27⟩
def RULE_class : EFld := ⟨10, 26, 24⟩
def RULE_out_en : EFld := ⟨10, 23, 23⟩
def RULE_out_group : EFld := ⟨10, 22, 22⟩
def RULE_out : EFld := ⟨10, 21, 15⟩
def RULE_mirror_en : EFld := ⟨10, 14, 14⟩
def RULE_mirror : EFld := ⟨10, 13, 11⟩
def RULE_no_learn : EFld := ⟨10, 10, 10⟩
def RULE_recirc : EFld := ⟨10, 9, 9⟩
def RULE_recirc_pipe : EFld := ⟨10, 8, 8⟩
def RULE_stream_en : EFld := ⟨11, 31, 31⟩
def RULE_stream : EFld := ⟨11, 12, 0⟩
def RULE_owner : EFld := ⟨12, 31, 24⟩
def RULE_hits : EFld := ⟨14, 31, 0⟩
def RULE_parity : EFld := ⟨15, 0, 0⟩

/-! ### Entry FRER (07_forwarding.md, R207) -/
def FRER_valid : EFld := ⟨0, 31, 31⟩
def FRER_lock : EFld := ⟨0, 30, 30⟩
def FRER_func : EFld := ⟨0, 29, 28⟩
def FRER_strip : EFld := ⟨0, 27, 27⟩
def FRER_stream : EFld := ⟨0, 12, 0⟩
def FRER_owner : EFld := ⟨1, 31, 24⟩
def FRER_rcv_index : EFld := ⟨1, 23, 14⟩
def FRER_port_b : EFld := ⟨1, 13, 7⟩
def FRER_port_a : EFld := ⟨1, 6, 0⟩
def FRER_hist_m1 : EFld := ⟨2, 20, 16⟩
def FRER_reset_ms : EFld := ⟨2, 15, 0⟩
def FRER_gen_seq : EFld := ⟨3, 31, 16⟩
def FRER_rcv_seq : EFld := ⟨3, 15, 0⟩
def FRER_history : EFld := ⟨4, 31, 0⟩
def FRER_take_any : EFld := ⟨5, 31, 31⟩
def FRER_parity : EFld := ⟨15, 0, 0⟩

/-! ### Entry MIR (07_forwarding.md, R211) -/
def MIR_valid : EFld := ⟨0, 31, 31⟩
def MIR_sel_out : EFld := ⟨0, 30, 30⟩
def MIR_trunc : EFld := ⟨0, 29, 28⟩
def MIR_dest : EFld := ⟨0, 26, 20⟩
def MIR_n : EFld := ⟨0, 15, 0⟩
def MIR_owner : EFld := ⟨1, 31, 24⟩
def MIR_mask_hi : EFld := ⟨4, 21, 0⟩
def MIR_sampled : EFld := ⟨5, 31, 0⟩
def MIR_drops : EFld := ⟨6, 31, 0⟩
def MIR_parity : EFld := ⟨7, 31, 31⟩
def MIR_phase : EFld := ⟨7, 15, 0⟩

/-! ### Entry SFLT (09_traffic_control.md, R250) -/
def SFLT_valid : EFld := ⟨0, 31, 31⟩
def SFLT_lock : EFld := ⟨0, 30, 30⟩
def SFLT_pol_en : EFld := ⟨0, 29, 29⟩
def SFLT_sdu_block_en : EFld := ⟨0, 28, 28⟩
def SFLT_blocked : EFld := ⟨0, 27, 27⟩
def SFLT_policer : EFld := ⟨0, 25, 13⟩
def SFLT_gate : EFld := ⟨0, 12, 8⟩
def SFLT_owner : EFld := ⟨0, 7, 0⟩
def SFLT_parity : EFld := ⟨1, 31, 31⟩
def SFLT_max_sdu : EFld := ⟨1, 13, 0⟩

/-! ### Entry POL (09_traffic_control.md, R252) -/
def POL_owner : EFld := ⟨0, 31, 24⟩
def POL_colour_aware : EFld := ⟨0, 23, 23⟩
def POL_coupling : EFld := ⟨0, 22, 22⟩
def POL_drop_yellow : EFld := ⟨0, 21, 21⟩
def POL_mark_red_en : EFld := ⟨0, 20, 20⟩
def POL_cir : EFld := ⟨0, 19, 0⟩
def POL_eir : EFld := ⟨1, 19, 0⟩
def POL_cbs : EFld := ⟨2, 31, 16⟩
def POL_ebs : EFld := ⟨2, 15, 0⟩
def POL_valid : EFld := ⟨3, 31, 31⟩
def POL_lock : EFld := ⟨3, 30, 30⟩
def POL_mark_red : EFld := ⟨3, 29, 29⟩
def POL_parity : EFld := ⟨3, 0, 0⟩

/-! ### Entry GATE (09_traffic_control.md, R256) -/
def GATE_op : EFld := ⟨0, 9, 8⟩
def GATE_gates : EFld := ⟨0, 7, 0⟩
def GATE_interval : EFld := ⟨1, 31, 0⟩

/-! ### Entry SCH (09_traffic_control.md, R261) -/
def SCH_state : EFld := ⟨0, 31, 30⟩
def SCH_action : EFld := ⟨0, 29, 28⟩
def SCH_deviant : EFld := ⟨0, 27, 27⟩
def SCH_blocked : EFld := ⟨0, 26, 26⟩
def SCH_kind : EFld := ⟨0, 25, 25⟩
def SCH_lock : EFld := ⟨0, 24, 24⟩
def SCH_margin : EFld := ⟨0, 23, 21⟩
def SCH_lane : EFld := ⟨0, 20, 15⟩
def SCH_owner : EFld := ⟨0, 14, 7⟩
def SCH_parity : EFld := ⟨0, 0, 0⟩
def SCH_ide : EFld := ⟨1, 29, 29⟩
def SCH_id : EFld := ⟨1, 28, 0⟩
def SCH_rate : EFld := ⟨2, 31, 12⟩
def SCH_burst : EFld := ⟨2, 11, 0⟩
def SCH_min_ivl : EFld := ⟨3, 31, 16⟩
def SCH_deviations : EFld := ⟨3, 15, 0⟩

/-! ### Entry ROUTE (11_signal_gateway.md, R306) -/
def ROUTE_valid : EFld := ⟨0, 31, 31⟩
def ROUTE_lock : EFld := ⟨0, 30, 30⟩
def ROUTE_kind : EFld := ⟨0, 29, 28⟩
def ROUTE_count : EFld := ⟨7, 31, 1⟩
def ROUTE_parity : EFld := ⟨7, 0, 0⟩

/-! ### Entry RXR (11_signal_gateway.md, R307) -/
def RXR_lane : EFld := ⟨0, 27, 22⟩
def RXR_ide : EFld := ⟨0, 21, 21⟩
def RXR_action : EFld := ⟨0, 20, 19⟩
def RXR_out_group : EFld := ⟨0, 18, 18⟩
def RXR_out : EFld := ⟨0, 17, 11⟩
def RXR_class : EFld := ⟨0, 10, 8⟩
def RXR_owner : EFld := ⟨0, 7, 0⟩
def RXR_id : EFld := ⟨1, 28, 0⟩
def RXR_new_ide : EFld := ⟨2, 29, 29⟩
def RXR_new_id : EFld := ⟨2, 28, 0⟩
def RXR_sig_count : EFld := ⟨3, 31, 25⟩
def RXR_sig_first : EFld := ⟨3, 17, 0⟩
def RXR_link : EFld := ⟨4, 31, 16⟩
def RXR_stream_en : EFld := ⟨4, 15, 15⟩
def RXR_stream : EFld := ⟨4, 12, 0⟩

/-! ### Entry PDU (11_signal_gateway.md, R309) -/
def PDU_lane : EFld := ⟨0, 27, 22⟩
def PDU_ide : EFld := ⟨0, 21, 21⟩
def PDU_format : EFld := ⟨0, 20, 19⟩
def PDU_brs : EFld := ⟨0, 18, 18⟩
def PDU_length : EFld := ⟨0, 17, 11⟩
def PDU_class : EFld := ⟨0, 10, 8⟩
def PDU_owner : EFld := ⟨0, 7, 0⟩
def PDU_id : EFld := ⟨1, 28, 0⟩
def PDU_period : EFld := ⟨2, 31, 16⟩
def PDU_phase : EFld := ⟨2, 15, 0⟩
def PDU_holdoff : EFld := ⟨3, 31, 24⟩
def PDU_sdt : EFld := ⟨3, 23, 16⟩
def PDU_fill : EFld := ⟨3, 15, 8⟩
def PDU_stream_en : EFld := ⟨4, 31, 31⟩
def PDU_stream : EFld := ⟨4, 12, 0⟩

/-! ### Entry ETHD (11_signal_gateway.md, R310) -/
def ETHD_tunnel : EFld := ⟨0, 27, 27⟩
def ETHD_out : EFld := ⟨0, 26, 20⟩
def ETHD_pcp : EFld := ⟨0, 19, 17⟩
def ETHD_tagged : EFld := ⟨0, 16, 16⟩
def ETHD_class : EFld := ⟨0, 15, 13⟩
def ETHD_agg : EFld := ⟨0, 12, 12⟩
def ETHD_vid : EFld := ⟨0, 11, 0⟩
def ETHD_mac_lo : EFld := ⟨1, 31, 0⟩
def ETHD_period : EFld := ⟨2, 31, 16⟩
def ETHD_mac_hi : EFld := ⟨2, 15, 0⟩
def ETHD_owner : EFld := ⟨5, 31, 24⟩
def ETHD_holdoff : EFld := ⟨5, 23, 16⟩
def ETHD_full : EFld := ⟨5, 15, 15⟩
def ETHD_max_elems : EFld := ⟨5, 6, 0⟩
def ETHD_stream_en : EFld := ⟨6, 31, 31⟩
def ETHD_phase : EFld := ⟨6, 28, 13⟩
def ETHD_stream : EFld := ⟨6, 12, 0⟩

/-! ### Entry SIGR (11_signal_gateway.md, R312) -/
def SIGR_valid : EFld := ⟨0, 31, 31⟩
def SIGR_dir : EFld := ⟨0, 30, 30⟩
def SIGR_prog : EFld := ⟨0, 29, 29⟩
def SIGR_trig : EFld := ⟨0, 29, 28⟩
def SIGR_be : EFld := ⟨0, 28, 28⟩
def SIGR_bit27 : EFld := ⟨0, 27, 27⟩
def SIGR_len_m1 : EFld := ⟨0, 26, 21⟩
def SIGR_slot : EFld := ⟨0, 17, 0⟩
def SIGR_pos : EFld := ⟨1, 31, 23⟩
def SIGR_shift : EFld := ⟨1, 22, 18⟩
def SIGR_team : EFld := ⟨1, 17, 14⟩
def SIGR_param : EFld := ⟨1, 13, 6⟩
def SIGR_def : EFld := ⟨1, 17, 2⟩
def SIGR_mul : EFld := ⟨2, 31, 8⟩
def SIGR_owner : EFld := ⟨2, 7, 0⟩
def SIGR_add : EFld := ⟨3, 31, 8⟩
def SIGR_thr_exp : EFld := ⟨3, 7, 2⟩
def SIGR_parity : EFld := ⟨3, 0, 0⟩

/-! ### Entry SA (13_cipher_engines.md, R360) -/
def SA_valid : EFld := ⟨0, 31, 31⟩
def SA_lock : EFld := ⟨0, 30, 30⟩
def SA_dir : EFld := ⟨0, 29, 29⟩
def SA_en : EFld := ⟨0, 28, 28⟩
def SA_an : EFld := ⟨0, 27, 26⟩
def SA_suite : EFld := ⟨0, 25, 24⟩
def SA_conf : EFld := ⟨0, 23, 23⟩
def SA_port : EFld := ⟨0, 22, 19⟩
def SA_key : EFld := ⟨0, 11, 0⟩
def SA_owner : EFld := ⟨1, 31, 24⟩
def SA_replay_en : EFld := ⟨1, 16, 16⟩
def SA_window : EFld := ⟨1, 15, 0⟩
def SA_ssci : EFld := ⟨6, 31, 0⟩
def SA_frames : EFld := ⟨10, 31, 0⟩
def SA_octets : EFld := ⟨11, 31, 0⟩
def SA_icv_fail : EFld := ⟨12, 31, 0⟩
def SA_replay : EFld := ⟨13, 31, 0⟩
def SA_parity : EFld := ⟨15, 0, 0⟩

/-! ### Multi-word entry fields -/
def FRER_passed : EFld := ⟨8, 31, 0⟩
def FRER_discarded : EFld := ⟨9, 31, 0⟩
def FRER_out_of_order : EFld := ⟨10, 31, 0⟩
def FRER_rogue : EFld := ⟨11, 31, 0⟩
def FRER_lost : EFld := ⟨12, 31, 0⟩
def FRER_resets : EFld := ⟨13, 31, 0⟩
def MIR_mask_lo : EFld := ⟨2, 31, 0⟩
def MIR_mask_mid : EFld := ⟨3, 31, 0⟩
def ETHD_stream_id_hi : EFld := ⟨3, 31, 0⟩
def ETHD_stream_id_lo : EFld := ⟨4, 31, 0⟩
def SA_next_pn_lo : EFld := ⟨2, 31, 0⟩
def SA_next_pn_hi : EFld := ⟨3, 31, 0⟩
def SA_sci_hi : EFld := ⟨4, 31, 0⟩
def SA_sci_lo : EFld := ⟨5, 31, 0⟩
def SA_salt_hi : EFld := ⟨7, 31, 0⟩
def SA_salt_mid : EFld := ⟨8, 31, 0⟩
def SA_salt_lo : EFld := ⟨9, 31, 0⟩

/-! ### Access codes (R15)

One row per register word: its base address, the strides and counts of the window it repeats in (R535), the bits that
are RW, RWC, W1C and W1S, whether it is RC, and the lane kind that has it (0 any; 1 CAN or 10BASE-T1S; 2 LIN;
3 LIN commander; 4 10BASE-T1S). Bits in no mask are read-only or reserved (R16). -/

def regRows0 : List RegRow := [
  ⟨0xA0000, [], 0x0, 0x0, 0x0, 0x0, false, 0⟩,
  ⟨0xA0004, [], 0x0, 0x0, 0x82, 0x0, false, 0⟩,
  ⟨0xA0008, [], 0x0, 0x0, 0x0, 0x0, false, 0⟩,
  ⟨0xA000C, [], 0x0, 0x0, 0x0, 0x0, false, 0⟩,
  ⟨0xA0010, [], 0x0, 0x0, 0x0, 0x0, false, 0⟩,
  ⟨0xA0014, [], 0x0, 0x0, 0x0, 0x0, false, 0⟩,
  ⟨0xA0018, [], 0x0, 0x0, 0x0, 0x0, true, 0⟩,
  ⟨0xA0040, [(0x20, 4)], 0x0, 0x0, 0x0, 0x0, false, 0⟩,
  ⟨0xA0044, [(0x20, 4)], 0x0, 0x0, 0x0, 0x0, false, 0⟩,
  ⟨0xA0048, [(0x20, 4)], 0x0, 0x0, 0x0, 0x0, false, 0⟩,
  ⟨0xA004C, [(0x20, 4)], 0x0, 0x0, 0x0, 0x0, false, 0⟩,
  ⟨0xA0050, [(0x20, 4)], 0x0, 0x0, 0x0, 0x0, false, 0⟩,
  ⟨0xA0054, [(0x20, 4)], 0x0, 0x0, 0x0, 0x0, false, 0⟩,
  ⟨0xA0058, [(0x20, 4)], 0x0, 0x0, 0x0, 0x0, false, 0⟩,
  ⟨0xA005C, [(0x20, 4)], 0x0, 0x0, 0x0, 0x0, false, 0⟩,
  ⟨0xA0100, [(0x4, 64)], 0x0, 0x0, 0x0, 0x0, false, 0⟩,
  ⟨0x90000, [], 0x0, 0x0, 0x0, 0x0, false, 0⟩,
  ⟨0x90004, [], 0x0, 0x0, 0x2, 0x0, false, 0⟩,
  ⟨0x90008, [], 0x0, 0x0, 0x0, 0x0, false, 0⟩,
  ⟨0x180000, [(0x800, 48)], 0x0, 0x3F77, 0x0, 0x0, false, 0⟩,
  ⟨0x180004, [(0x800, 48)], 0x3, 0x0, 0x0, 0x0, false, 0⟩,
  ⟨0x180008, [(0x800, 48)], 0x0, 0x0, 0x0, 0x0, false, 0⟩,
  ⟨0x18000C, [(0x800, 48)], 0x0, 0x0, 0x7F, 0x0, false, 0⟩,
  ⟨0x180010, [(0x800, 48)], 0x0, 0x0, 0x0, 0x0, true, 0⟩,
  ⟨0x180020, [(0x800, 48)], 0x0, 0x3FFFFFFF, 0x0, 0x0, false, 0⟩,
  ⟨0x180024, [(0x800, 48)], 0x0, 0x1FFFFFFF, 0x0, 0x0, false, 0⟩,
  ⟨0x180028, [(0x800, 48)], 0x0, 0x7F, 0x0, 0x0, false, 0⟩,
  ⟨0x180030, [(0x800, 48)], 0x0, 0xFFFFFFFF, 0x0, 0x0, false, 0⟩,
  ⟨0x180034, [(0x800, 48)], 0x0, 0xFFFFFFFF, 0x0, 0x0, false, 0⟩,
  ⟨0x180100, [(0x800, 48)], 0x31, 0x0, 0x0, 0x0, false, 0⟩,
  ⟨0x180104, [(0x800, 48)], 0x0, 0x0, 0x0, 0x0, false, 0⟩,
  ⟨0x180108, [(0x800, 48)], 0xF0, 0x0, 0x0, 0x0, false, 0⟩,
  ⟨0x180120, [(0x800, 48)], 0x7F, 0x0, 0x0, 0x0, false, 0⟩,
  ⟨0x180124, [(0x800, 48)], 0x7F0000, 0x0, 0x0, 0x0, false, 0⟩,
  ⟨0x180128, [(0x800, 48)], 0x7F, 0x0, 0x0, 0x0, false, 0⟩,
  ⟨0x18012C, [(0x800, 48)], 0x7F0000, 0x0, 0x0, 0x0, false, 0⟩,
  ⟨0x180130, [(0x800, 48)], 0x0, 0x0, 0x1, 0x0, false, 0⟩,
  ⟨0x180140, [(0x800, 48), (0x4, 8)], 0x0, 0x0, 0x0, 0x0, false, 0⟩,
  ⟨0x180160, [(0x800, 48), (0x4, 16)], 0x0, 0x0, 0x0, 0x0, false, 0⟩,
  ⟨0x1801A0, [(0x800, 48), (0x4, 8)], 0x3F0C, 0x0, 0x0, 0x3, false, 0⟩]

def regRows1 : List RegRow := [
  ⟨0x1801C4, [(0x800, 48)], 0x0, 0xFFFFFFE0, 0x0, 0x0, false, 0⟩,
  ⟨0x1801C8, [(0x800, 48)], 0x0, 0xFFFFFFE0, 0x0, 0x0, false, 0⟩,
  ⟨0x1801CC, [(0x800, 48)], 0x0, 0x80FF, 0x0, 0x0, false, 0⟩,
  ⟨0x1801D0, [(0x800, 48)], 0x1, 0x0, 0x0, 0x0, false, 3⟩,
  ⟨0x180200, [(0x800, 48), (0x4, 16)], 0x0, 0x0, 0x0, 0x0, true, 0⟩,
  ⟨0x180300, [(0x800, 48), (0x10, 32)], 0xBFFFFFFF, 0x0, 0x0, 0x0, false, 1⟩,
  ⟨0x180304, [(0x800, 48), (0x10, 32)], 0x1FFFFFFF, 0x0, 0x0, 0x0, false, 1⟩,
  ⟨0x180308, [(0x800, 48), (0x10, 32)], 0xF7, 0x0, 0x0, 0x0, false, 1⟩,
  ⟨0x18030C, [(0x800, 48), (0x10, 32)], 0x0, 0x0, 0x0, 0x0, false, 1⟩,
  ⟨0x180300, [(0x800, 48), (0x10, 64)], 0xFFB, 0x0, 0x0, 0x0, false, 2⟩,
  ⟨0x180304, [(0x800, 48), (0x10, 64)], 0x0, 0x0, 0x0, 0x0, false, 2⟩,
  ⟨0x180308, [(0x800, 48), (0x10, 64)], 0xFFFFFFFF, 0x0, 0x0, 0x0, false, 2⟩,
  ⟨0x18030C, [(0x800, 48), (0x10, 64)], 0xFFFFFFFF, 0x0, 0x0, 0x0, false, 2⟩,
  ⟨0x180500, [(0x800, 48), (0x20, 8)], 0x7FFFFFFF, 0x0, 0x0, 0x0, false, 1⟩,
  ⟨0x180504, [(0x800, 48), (0x20, 8)], 0xFFFFFFFF, 0x0, 0x0, 0x0, false, 1⟩,
  ⟨0x180508, [(0x800, 48), (0x20, 8)], 0xFFFFFFFF, 0x0, 0x0, 0x0, false, 1⟩,
  ⟨0x18050C, [(0x800, 48), (0x20, 8)], 0x0, 0x0, 0x0, 0x0, false, 1⟩,
  ⟨0x180510, [(0x800, 48), (0x20, 8)], 0x0, 0x0, 0x0, 0x0, false, 1⟩,
  ⟨0x180514, [(0x800, 48), (0x20, 8)], 0x0, 0x0, 0x0, 0x0, false, 1⟩,
  ⟨0x180518, [(0x800, 48), (0x20, 8)], 0x0, 0x0, 0x0, 0x0, false, 1⟩,
  ⟨0x18051C, [(0x800, 48), (0x20, 8)], 0x0, 0x0, 0x0, 0x0, false, 1⟩,
  ⟨0x180600, [(0x800, 48)], 0x1, 0x0, 0x0, 0x0, false, 4⟩,
  ⟨0x180604, [(0x800, 48)], 0x0, 0xFFFFFFFF, 0x0, 0x0, false, 4⟩,
  ⟨0x180608, [(0x800, 48)], 0x0, 0xFFFF, 0x0, 0x0, false, 4⟩,
  ⟨0x18060C, [(0x800, 48)], 0x0, 0x0, 0x0, 0x0, false, 0⟩,
  ⟨0x180700, [(0x800, 48), (0x4, 64)], 0xFF7F, 0x0, 0x0, 0x0, false, 3⟩,
  ⟨0x4E000, [(0x100, 3)], 0x7, 0x0, 0x0, 0x0, false, 0⟩,
  ⟨0x4E004, [(0x100, 3)], 0x0, 0x0, 0x0, 0x0, true, 0⟩,
  ⟨0x4E080, [(0x100, 3), (0x8, 16)], 0xFFFFFFFF, 0x0, 0x0, 0x0, false, 0⟩,
  ⟨0x4E084, [(0x100, 3), (0x8, 16)], 0x8007FFFF, 0x0, 0x0, 0x0, false, 0⟩,
  ⟨0x140000, [(0x1000, 16)], 0x0, 0xF073FFF, 0x0, 0x0, false, 0⟩,
  ⟨0x140004, [(0x1000, 16)], 0xF, 0x0, 0x0, 0x0, false, 0⟩,
  ⟨0x140008, [(0x1000, 16)], 0x0, 0x0, 0x0, 0x0, false, 0⟩,
  ⟨0x140020, [(0x1000, 16)], 0x7FFF, 0x0, 0x0, 0x0, false, 0⟩,
  ⟨0x140024, [(0x1000, 16)], 0xFFFF, 0x0, 0x0, 0x0, false, 0⟩,
  ⟨0x140030, [(0x1000, 16)], 0x0, 0x0, 0x0, 0x0, false, 0⟩,
  ⟨0x140034, [(0x1000, 16)], 0x0, 0x0, 0x0, 0x0, false, 0⟩,
  ⟨0x140040, [(0x1000, 16)], 0x0, 0x0, 0x0, 0x0, false, 0⟩,
  ⟨0x140044, [(0x1000, 16)], 0x7, 0x0, 0x0, 0x0, false, 0⟩,
  ⟨0x140100, [(0x1000, 16), (0x10, 64)], 0x87FFFFFF, 0x0, 0x0, 0x0, false, 0⟩]

def regRows2 : List RegRow := [
  ⟨0x140104, [(0x1000, 16), (0x10, 64)], 0xFFF0FFF, 0x0, 0x0, 0x0, false, 0⟩,
  ⟨0x140108, [(0x1000, 16), (0x10, 64)], 0xFFF, 0x0, 0x0, 0x0, false, 0⟩,
  ⟨0x14010C, [(0x1000, 16), (0x10, 64)], 0x0, 0x0, 0x0, 0x0, false, 0⟩,
  ⟨0x140800, [(0x1000, 16), (0x4, 64)], 0x0, 0x0, 0x0, 0x0, true, 0⟩,
  ⟨0x110000, [(0x10000, 2)], 0x1, 0xE, 0x0, 0x10, false, 0⟩,
  ⟨0x110008, [(0x10000, 2)], 0xFFFF, 0x0, 0x0, 0x0, false, 0⟩,
  ⟨0x11000C, [(0x10000, 2)], 0x0, 0x3FFF1FFF, 0x0, 0x0, false, 0⟩,
  ⟨0x110010, [(0x10000, 2)], 0xFFFFFFFF, 0x0, 0x0, 0x0, false, 0⟩,
  ⟨0x110014, [(0x10000, 2)], 0xFFFFFFFF, 0x0, 0x0, 0x0, false, 0⟩,
  ⟨0x110018, [(0x10000, 2)], 0x3FFFFF, 0x0, 0x0, 0x0, false, 0⟩,
  ⟨0x110020, [(0x10000, 2)], 0xFFFFFFFF, 0x0, 0x0, 0x0, false, 0⟩,
  ⟨0x110024, [(0x10000, 2)], 0xFFFFFFFF, 0x0, 0x0, 0x0, false, 0⟩,
  ⟨0x110028, [(0x10000, 2)], 0xBFFFF, 0x0, 0x0, 0x0, false, 0⟩,
  ⟨0x110030, [(0x10000, 2)], 0x0, 0x0, 0x0, 0x0, false, 0⟩,
  ⟨0x110034, [(0x10000, 2)], 0x0, 0x0, 0x80000000, 0x0, false, 0⟩,
  ⟨0x110038, [(0x10000, 2)], 0xFFFF, 0x0, 0x0, 0x0, false, 0⟩,
  ⟨0x110040, [(0x10000, 2)], 0x0, 0x0, 0x0, 0x0, false, 0⟩,
  ⟨0x110044, [(0x10000, 2)], 0x0, 0x0, 0x2, 0x0, false, 0⟩,
  ⟨0x110048, [(0x10000, 2)], 0x0, 0x0, 0x0, 0x0, false, 0⟩,
  ⟨0x110080, [(0x10000, 2), (0x4, 16)], 0xFFFFFFFF, 0x0, 0x0, 0x0, false, 0⟩,
  ⟨0x1100C0, [(0x10000, 2)], 0x0, 0x0, 0x0, 0x0, false, 0⟩,
  ⟨0x110100, [(0x10000, 2), (0x4, 32)], 0x0, 0x0, 0x0, 0x0, true, 0⟩,
  ⟨0x111000, [(0x10000, 2), (0x10, 64)], 0xFFFFFFFF, 0x0, 0x0, 0x0, false, 0⟩,
  ⟨0x111004, [(0x10000, 2), (0x10, 64)], 0xFFFFFFFF, 0x0, 0x0, 0x0, false, 0⟩,
  ⟨0x111008, [(0x10000, 2), (0x10, 64)], 0x3FFFFF, 0x0, 0x0, 0x0, false, 0⟩,
  ⟨0x11100C, [(0x10000, 2), (0x10, 64)], 0x0, 0x0, 0x0, 0x0, false, 0⟩,
  ⟨0x100000, [], 0x100, 0x7, 0x0, 0x0, false, 0⟩,
  ⟨0x100004, [], 0x0, 0x0, 0x0, 0x0, false, 0⟩,
  ⟨0x100008, [], 0x0, 0xFFFFFFFF, 0x0, 0x0, false, 0⟩,
  ⟨0x10000C, [], 0x0, 0x0, 0x0, 0x0, false, 0⟩,
  ⟨0x100010, [], 0x0, 0x0, 0x0, 0x0, false, 0⟩,
  ⟨0x100014, [], 0x0, 0x0, 0x0, 0x0, false, 0⟩,
  ⟨0x100018, [], 0x3FFFF, 0x0, 0x0, 0x0, false, 0⟩,
  ⟨0x10001C, [], 0xFFFF, 0x0, 0x0, 0x0, false, 0⟩,
  ⟨0x100020, [], 0x0, 0x0, 0x80000000, 0x0, false, 0⟩,
  ⟨0x100024, [], 0x0, 0x0, 0x80000000, 0x0, false, 0⟩,
  ⟨0x100028, [], 0x1FFF, 0x0, 0x0, 0x0, false, 0⟩,
  ⟨0x10002C, [], 0x0, 0x0, 0x0, 0x0, false, 0⟩,
  ⟨0x100030, [], 0x0, 0x0, 0x0, 0x0, true, 0⟩,
  ⟨0x100034, [], 0x0, 0x0, 0x0, 0x0, false, 0⟩]

def regRows3 : List RegRow := [
  ⟨0x100080, [(0x4, 32)], 0x0, 0x0, 0x0, 0x0, false, 0⟩,
  ⟨0x100100, [(0x4, 16)], 0x0, 0x0, 0x0, 0x0, true, 0⟩,
  ⟨0x100400, [(0x4, 256)], 0x0, 0x0, 0x0, 0x0, true, 0⟩,
  ⟨0x130000, [], 0x1FFC, 0x0, 0x0, 0x2, false, 0⟩,
  ⟨0x130004, [], 0x1FFFF, 0x0, 0x0, 0x0, false, 0⟩,
  ⟨0x130008, [], 0x0, 0x0, 0x0, 0x0, false, 0⟩,
  ⟨0x13000C, [], 0x0, 0x0, 0x80000000, 0x0, false, 0⟩,
  ⟨0x130010, [], 0xFFFFFFFF, 0x0, 0x0, 0x0, false, 0⟩,
  ⟨0x130014, [], 0xFFFF, 0x0, 0x0, 0x0, false, 0⟩,
  ⟨0x130018, [], 0x0, 0x0, 0x80000000, 0x0, false, 0⟩,
  ⟨0x13001C, [], 0xFFFF, 0x0, 0x0, 0x0, false, 0⟩,
  ⟨0x130020, [], 0x0, 0x0, 0x0, 0x0, false, 0⟩,
  ⟨0x130040, [(0x4, 16)], 0x0, 0x0, 0x0, 0x0, true, 0⟩,
  ⟨0x130200, [(0x40, 32)], 0xC0000037, 0x0, 0x0, 0x0, false, 0⟩,
  ⟨0x130204, [(0x40, 32)], 0xFFFFFFFF, 0x0, 0x0, 0x0, false, 0⟩,
  ⟨0x130208, [(0x40, 32)], 0xFFFFFFFF, 0x0, 0x0, 0x0, false, 0⟩,
  ⟨0x130220, [(0x40, 32), (0x4, 8)], 0xFFFFFFFF, 0x0, 0x0, 0x0, false, 0⟩,
  ⟨0x131000, [(0x100, 16)], 0x80000000, 0x30, 0x0, 0x40000000, false, 0⟩,
  ⟨0x131004, [(0x100, 16)], 0x0, 0x0, 0x0, 0x0, false, 0⟩,
  ⟨0x131008, [(0x100, 16)], 0xFFFFFFFF, 0x0, 0x0, 0x0, false, 0⟩,
  ⟨0x13100C, [(0x100, 16)], 0xFFFFFFFF, 0x0, 0x0, 0x0, false, 0⟩,
  ⟨0x131010, [(0x100, 16)], 0xFFFFFFFF, 0x0, 0x0, 0x0, false, 0⟩,
  ⟨0x131014, [(0x100, 16)], 0xFFFF, 0x0, 0x0, 0x0, false, 0⟩,
  ⟨0x131018, [(0x100, 16)], 0x0, 0x7F, 0x0, 0x0, false, 0⟩,
  ⟨0x13101C, [(0x100, 16)], 0x0, 0xFFFFFFFF, 0x0, 0x0, false, 0⟩,
  ⟨0x131020, [(0x100, 16)], 0x0, 0x0, 0x0, 0x0, false, 0⟩,
  ⟨0x131040, [(0x100, 16), (0x4, 8)], 0x80FFFFFF, 0x0, 0x0, 0x0, false, 0⟩,
  ⟨0x131060, [(0x100, 16), (0x4, 8)], 0x0, 0x0, 0x0, 0x0, false, 0⟩,
  ⟨0x200000, [(0x1000, 16)], 0x0, 0x8000FFFF, 0x0, 0x0, false, 0⟩,
  ⟨0x200004, [(0x1000, 16)], 0x0, 0x0, 0x0, 0x0, false, 0⟩,
  ⟨0x200010, [(0x1000, 16), (0x4, 4)], 0xFFFFFFFF, 0x0, 0x0, 0x0, false, 0⟩,
  ⟨0x200020, [(0x1000, 16)], 0x7777, 0x0, 0x0, 0x0, false, 0⟩,
  ⟨0x200024, [(0x1000, 16)], 0x0, 0x0, 0x0, 0xFF, false, 0⟩,
  ⟨0x200040, [(0x1000, 16), (0x4, 16)], 0x0, 0x0, 0x0, 0x0, true, 0⟩,
  ⟨0x200080, [(0x1000, 16)], 0x0, 0x0, 0x0, 0x0, false, 0⟩,
  ⟨0x200100, [(0x1000, 16), (0x20, 8)], 0x0, 0x0, 0x0, 0x3, false, 0⟩,
  ⟨0x200104, [(0x1000, 16), (0x20, 8)], 0x0, 0x0, 0x0, 0x0, false, 0⟩,
  ⟨0x200108, [(0x1000, 16), (0x20, 8)], 0x0, 0x0, 0x80000000, 0x0, false, 0⟩,
  ⟨0x20010C, [(0x1000, 16), (0x20, 8)], 0x0, 0x0, 0x0, 0x0, false, 0⟩,
  ⟨0x200110, [(0x1000, 16), (0x20, 8)], 0xFFFFFFFF, 0x0, 0x0, 0x0, false, 0⟩]

def regRows4 : List RegRow := [
  ⟨0x200114, [(0x1000, 16), (0x20, 8)], 0x0, 0x0, 0x0, 0x0, false, 0⟩,
  ⟨0x200118, [(0x1000, 16), (0x20, 8)], 0x0, 0x0, 0x0, 0x0, true, 0⟩,
  ⟨0x300000, [], 0xFFFF, 0x0, 0x0, 0x0, false, 0⟩,
  ⟨0x300004, [], 0x0, 0x0, 0x80000000, 0x0, false, 0⟩,
  ⟨0x300008, [], 0x0, 0x0, 0x0, 0x0, false, 0⟩,
  ⟨0x300040, [(0x4, 8)], 0x0, 0x0, 0x0, 0x0, true, 0⟩,
  ⟨0x300100, [], 0x0, 0xFFFEC000, 0x0, 0x0, false, 0⟩,
  ⟨0x300104, [], 0x0, 0xFFFFFFFF, 0x0, 0x0, false, 0⟩,
  ⟨0x300108, [], 0x0, 0xFFFF, 0x0, 0x0, false, 0⟩,
  ⟨0x30010C, [], 0x0, 0x0, 0x0, 0x0, false, 0⟩,
  ⟨0x300110, [], 0x0, 0x0, 0x0, 0x0, true, 0⟩,
  ⟨0x300114, [], 0x0, 0x0, 0x80000000, 0x0, false, 0⟩,
  ⟨0x300118, [], 0xFFFF, 0x0, 0x0, 0x0, false, 0⟩,
  ⟨0x30011C, [], 0x0, 0x0, 0x0, 0x0, false, 0⟩,
  ⟨0x300140, [(0x4, 16)], 0x0, 0x0, 0x0, 0x0, true, 0⟩,
  ⟨0x30000, [(0x40, 4)], 0x0, 0x0, 0x0, 0x0, false, 0⟩,
  ⟨0x30004, [(0x40, 4)], 0x0, 0x0, 0x0, 0x0, false, 0⟩,
  ⟨0x30008, [(0x40, 4)], 0xFFFFFFFF, 0x0, 0x0, 0x0, false, 0⟩,
  ⟨0x3000C, [(0x40, 4)], 0xFF, 0x0, 0x0, 0x0, false, 0⟩,
  ⟨0x30010, [(0x40, 4)], 0xFFFFFFFF, 0x0, 0x0, 0x0, false, 0⟩,
  ⟨0x30014, [(0x40, 4)], 0xFFFFFFFF, 0x0, 0x0, 0x0, false, 0⟩,
  ⟨0x30018, [(0x40, 4)], 0x0, 0x0, 0x0, 0x3, false, 0⟩,
  ⟨0x3001C, [(0x40, 4)], 0xFFFFFFFF, 0x0, 0x0, 0x0, false, 0⟩,
  ⟨0x30020, [(0x40, 4)], 0x0, 0x0, 0x0, 0x0, false, 0⟩,
  ⟨0x30024, [(0x40, 4)], 0x0, 0x0, 0x20000000, 0x0, false, 0⟩,
  ⟨0x30028, [(0x40, 4)], 0x0, 0xFF00FFFF, 0x0, 0x0, false, 0⟩,
  ⟨0x3002C, [(0x40, 4)], 0x0, 0xFFFFFFFF, 0x0, 0x0, false, 0⟩,
  ⟨0x30030, [(0x40, 4)], 0x0, 0xFFFF, 0x0, 0x0, false, 0⟩,
  ⟨0x30100, [], 0xF0, 0xFFFF0001, 0x0, 0x0, false, 0⟩,
  ⟨0x30104, [], 0xFFFFFFFF, 0x0, 0x0, 0x0, false, 0⟩,
  ⟨0x30108, [], 0x0, 0x0, 0x0, 0x0, false, 0⟩,
  ⟨0x30140, [(0x4, 12)], 0x0, 0x0, 0x0, 0x0, true, 0⟩,
  ⟨0x30200, [(0x20, 32)], 0xF80FFFFF, 0x0, 0x0, 0x0, false, 0⟩,
  ⟨0x30204, [(0x20, 32)], 0xFFFFFFFF, 0x0, 0x0, 0x0, false, 0⟩,
  ⟨0x30208, [(0x20, 32)], 0xFFFFFFFF, 0x0, 0x0, 0x0, false, 0⟩,
  ⟨0x3020C, [(0x20, 32)], 0xFFFFFFFF, 0x0, 0x0, 0x0, false, 0⟩,
  ⟨0x30210, [(0x20, 32)], 0x0, 0x0, 0x0, 0x0, true, 0⟩,
  ⟨0x30600, [(0x10, 16)], 0xC0000033, 0x0, 0x0, 0x0, false, 0⟩,
  ⟨0x30604, [(0x10, 16)], 0x0, 0x0, 0x0, 0x0, false, 0⟩,
  ⟨0x30608, [(0x10, 16)], 0x0, 0x0, 0x0, 0x0, false, 0⟩]

def regRows5 : List RegRow := [
  ⟨0x3060C, [(0x10, 16)], 0x0, 0x0, 0x0, 0x0, false, 0⟩,
  ⟨0x30800, [(0x40, 16)], 0x1, 0x0, 0x0, 0x0, false, 0⟩,
  ⟨0x30804, [(0x40, 16)], 0x0, 0x0, 0x0, 0x0, false, 0⟩,
  ⟨0x30810, [(0x40, 16), (0x4, 3)], 0x0, 0x0, 0x0, 0x0, false, 0⟩,
  ⟨0x30820, [(0x40, 16), (0x4, 3)], 0x0, 0x0, 0x0, 0x0, false, 0⟩,
  ⟨0x70000, [], 0xFFFFFFFF, 0x0, 0x0, 0x0, false, 0⟩,
  ⟨0x70004, [], 0x0, 0x0, 0x0, 0x0, false, 0⟩,
  ⟨0x70008, [], 0x0, 0x0, 0x0, 0x0, false, 0⟩,
  ⟨0x7000C, [], 0x0, 0x0, 0xFFFFFFFF, 0x0, false, 0⟩,
  ⟨0x70010, [], 0x0, 0x0, 0x1, 0x0, false, 0⟩,
  ⟨0x70014, [], 0x0, 0x0, 0x80000000, 0x0, false, 0⟩,
  ⟨0x70018, [], 0x0, 0x0, 0x0, 0x0, false, 0⟩,
  ⟨0x70040, [(0x4, 19)], 0x0, 0x0, 0x0, 0x0, true, 0⟩,
  ⟨0x70100, [(0x8, 32)], 0x0, 0x0, 0x0, 0x0, false, 0⟩,
  ⟨0x70104, [(0x8, 32)], 0x0, 0x0, 0x0, 0x0, false, 0⟩,
  ⟨0x70200, [], 0x0, 0x0, 0x0, 0x0, false, 0⟩,
  ⟨0x70204, [], 0x0, 0x0, 0x0, 0x0, false, 0⟩,
  ⟨0x70400, [(0x4, 16)], 0x3, 0x0, 0x0, 0x0, false, 0⟩,
  ⟨0x70800, [(0x10, 16)], 0xC3FFEFFF, 0x0, 0x0, 0x0, false, 0⟩,
  ⟨0x70804, [(0x10, 16)], 0xFF000000, 0x0, 0x0, 0x0, false, 0⟩,
  ⟨0x70808, [(0x10, 16)], 0x0, 0x0, 0x0, 0x0, false, 0⟩,
  ⟨0x7080C, [(0x10, 16)], 0x0, 0x0, 0x0, 0x0, false, 0⟩,
  ⟨0x60000, [], 0x0, 0x0, 0x0, 0x0, false, 0⟩,
  ⟨0x60004, [], 0xEC001FFF, 0x0, 0x0, 0x0, false, 0⟩,
  ⟨0x60008, [], 0x0, 0x0, 0x2, 0x0, false, 0⟩,
  ⟨0x6000C, [], 0x0, 0x0, 0xF, 0x0, false, 0⟩,
  ⟨0x60010, [], 0x0, 0x0, 0x0, 0x0, false, 0⟩,
  ⟨0x60040, [(0x4, 8)], 0x0, 0x0, 0x0, 0x0, false, 0⟩,
  ⟨0x60080, [(0x4, 8)], 0x0, 0x0, 0x0, 0x0, true, 0⟩,
  ⟨0x60100, [(0x4, 16)], 0x0, 0x0, 0x0, 0x0, false, 0⟩,
  ⟨0x60200, [(0x4, 32)], 0x0, 0x0, 0x0, 0x0, false, 0⟩,
  ⟨0x80000, [], 0x0, 0x0, 0x0, 0x0, false, 0⟩,
  ⟨0x80004, [], 0x1FFFFFFF, 0x0, 0x0, 0x0, false, 0⟩,
  ⟨0x80008, [], 0x0, 0x0, 0x2, 0x0, false, 0⟩,
  ⟨0x8000C, [], 0xFF, 0x0, 0x0, 0x0, false, 0⟩,
  ⟨0x80010, [], 0x0, 0x0, 0x0, 0x0, false, 0⟩,
  ⟨0x80014, [], 0x0, 0x0, 0x80000000, 0x0, false, 0⟩,
  ⟨0x80018, [], 0x0, 0x0, 0x0, 0x0, true, 0⟩,
  ⟨0x80040, [(0x4, 4)], 0x0, 0x0, 0x0, 0x0, true, 0⟩,
  ⟨0x10000, [], 0x0, 0x0, 0x0, 0x0, false, 0⟩]

def regRows6 : List RegRow := [
  ⟨0x10004, [], 0x3, 0x0, 0x0, 0x100, false, 0⟩,
  ⟨0x10008, [], 0x7, 0x0, 0x0, 0x0, false, 0⟩,
  ⟨0x1000C, [], 0x0, 0x0, 0x0, 0x0, false, 0⟩,
  ⟨0x10010, [], 0x0, 0x0, 0x0, 0x0, false, 0⟩,
  ⟨0x10014, [], 0x0, 0x0, 0x0, 0x0, false, 0⟩,
  ⟨0x10018, [], 0x0, 0x0, 0x0, 0x0, false, 0⟩,
  ⟨0x1001C, [], 0x0, 0x0, 0x0, 0x0, false, 0⟩,
  ⟨0x10020, [], 0x0, 0x0, 0x0, 0x0, false, 0⟩,
  ⟨0x10024, [], 0x0, 0x0, 0x0, 0x0, false, 0⟩,
  ⟨0x10030, [], 0x0, 0x0, 0x0, 0x1, false, 0⟩,
  ⟨0x10034, [], 0x0, 0x0, 0x0, 0x0, false, 0⟩,
  ⟨0x10040, [], 0x0, 0x0, 0x0, 0x0, false, 0⟩,
  ⟨0x10044, [], 0x0, 0x0, 0x0, 0x0, false, 0⟩,
  ⟨0x10080, [(0x10, 16)], 0x0, 0x0, 0x0, 0x0, false, 0⟩,
  ⟨0x10084, [(0x10, 16)], 0x0, 0x0, 0x0, 0x0, false, 0⟩,
  ⟨0x10088, [(0x10, 16)], 0x0, 0x0, 0x0, 0x0, false, 0⟩,
  ⟨0x1008C, [(0x10, 16)], 0x0, 0x0, 0x0, 0x0, false, 0⟩,
  ⟨0x10200, [(0x4, 8)], 0x0, 0x0, 0x0, 0x0, true, 0⟩,
  ⟨0xC0000, [], 0x0, 0x0, 0x80000000, 0x0, false, 0⟩,
  ⟨0xC0010, [(0x4, 4)], 0x0, 0x0, 0x0, 0x0, false, 0⟩,
  ⟨0xC0020, [], 0x0, 0x0, 0x0, 0x0, false, 0⟩,
  ⟨0xC0040, [(0x4, 8)], 0x0, 0x0, 0x0, 0x0, true, 0⟩,
  ⟨0xC1000, [(0x100, 20)], 0x0, 0xFFFFFFFF, 0x0, 0x0, false, 0⟩,
  ⟨0xC1004, [(0x100, 20)], 0x0, 0xFF00FFFF, 0x0, 0x0, false, 0⟩,
  ⟨0xC1008, [(0x100, 20)], 0xCFFFF, 0x0, 0x0, 0x0, false, 0⟩,
  ⟨0xC100C, [(0x100, 20)], 0x0, 0x3FFFF, 0x0, 0x0, false, 0⟩,
  ⟨0xC1010, [(0x100, 20)], 0x0, 0x0, 0x0, 0x0, false, 0⟩,
  ⟨0xC1014, [(0x100, 20)], 0x0, 0x0, 0x7FF, 0x0, false, 0⟩,
  ⟨0xC1018, [(0x100, 20)], 0x0, 0x0, 0x0, 0x0, false, 0⟩,
  ⟨0xC101C, [(0x100, 20)], 0x0, 0xFFFFFFFF, 0x0, 0x0, false, 0⟩,
  ⟨0xC1020, [(0x100, 20)], 0x9F00001F, 0x0, 0x0, 0x40000000, false, 0⟩,
  ⟨0xC1024, [(0x100, 20)], 0x0, 0x0, 0x0, 0x0, false, 0⟩,
  ⟨0xC4000, [(0x100, 20), (0x8, 32)], 0xFFFFFFFF, 0x0, 0x0, 0x0, false, 0⟩,
  ⟨0xC4004, [(0x100, 20), (0x8, 32)], 0xFFFFC01F, 0x0, 0x0, 0x0, false, 0⟩,
  ⟨0xD0000, [], 0x0, 0xFFFF001F, 0x0, 0x0, false, 0⟩,
  ⟨0xD0004, [], 0x1, 0x0, 0x0, 0x6, false, 0⟩,
  ⟨0xD0008, [], 0x0, 0x0, 0x0, 0x0, false, 0⟩,
  ⟨0xD000C, [], 0xFFFFFFFF, 0x0, 0x0, 0x0, false, 0⟩,
  ⟨0xD0010, [], 0xFFFF00FF, 0x0, 0x0, 0x0, false, 0⟩,
  ⟨0xD0014, [], 0xFFFF, 0x0, 0x0, 0x0, false, 0⟩]

def regRows7 : List RegRow := [
  ⟨0xD0018, [], 0x0, 0x0, 0x0, 0x0, false, 0⟩,
  ⟨0xD001C, [], 0xFFFFFFFF, 0x0, 0x0, 0x0, false, 0⟩,
  ⟨0xD0020, [], 0x0, 0x0, 0xFFFFFFFF, 0x0, false, 0⟩,
  ⟨0xD0024, [], 0x0, 0x0, 0x0, 0x0, false, 0⟩,
  ⟨0xD0028, [], 0x0, 0x0, 0x0, 0x0, false, 0⟩,
  ⟨0xD0040, [(0x4, 16)], 0x0, 0x0, 0x0, 0x0, false, 0⟩,
  ⟨0xD0080, [(0x4, 17)], 0x0, 0x0, 0x0, 0x0, false, 0⟩,
  ⟨0xD0140, [(0x4, 8)], 0x0, 0x0, 0x0, 0x0, true, 0⟩,
  ⟨0xD0200, [(0x40, 8)], 0x0, 0xFF031F7F, 0x0, 0x0, false, 0⟩,
  ⟨0xD0204, [(0x40, 8)], 0x0, 0xFFFFFFFF, 0x0, 0x0, false, 0⟩,
  ⟨0xD0208, [(0x40, 8)], 0x0, 0x3FFFF, 0x0, 0x0, false, 0⟩,
  ⟨0xD020C, [(0x40, 8)], 0x0, 0x0, 0x0, 0x1, false, 0⟩,
  ⟨0xD0210, [(0x40, 8), (0x4, 4)], 0x0, 0x3F3F3F3F, 0x0, 0x0, false, 0⟩,
  ⟨0xD0220, [(0x40, 8), (0x4, 8)], 0x0, 0x0, 0x0, 0x0, false, 0⟩,
  ⟨0xB0800, [(0x4, 64)], 0x0, 0x0, 0x0, 0x0, false, 0⟩,
  ⟨0xB0900, [], 0x0, 0x0, 0x0, 0x0, false, 0⟩,
  ⟨0xB0904, [], 0x0, 0x0, 0xFFFFFFFF, 0x0, false, 0⟩,
  ⟨0xB0908, [], 0x0, 0x0, 0xFFFF, 0x0, false, 0⟩,
  ⟨0xB090C, [], 0x0, 0x0, 0x80000000, 0x0, false, 0⟩,
  ⟨0x50000, [(0x200, 21)], 0xFFFF, 0x0, 0x0, 0x0, false, 0⟩,
  ⟨0x50004, [(0x200, 21)], 0x0, 0x0, 0x0, 0x0, true, 0⟩,
  ⟨0x50008, [(0x200, 21)], 0x0, 0x0, 0x80000000, 0x0, false, 0⟩,
  ⟨0x50020, [(0x200, 21), (0x10, 23)], 0x0, 0x0, 0x0, 0x0, true, 0⟩,
  ⟨0x50024, [(0x200, 21), (0x10, 23)], 0x0, 0x0, 0x0, 0x0, true, 0⟩,
  ⟨0x50028, [(0x200, 21), (0x10, 23)], 0x0, 0x0, 0x0, 0x0, true, 0⟩,
  ⟨0x5002C, [(0x200, 21), (0x10, 23)], 0x0, 0x0, 0x0, 0x0, true, 0⟩,
  ⟨0x20000, [], 0xFFFF0003, 0x0, 0x0, 0x0, false, 0⟩,
  ⟨0x20004, [], 0x0, 0x0, 0x0, 0x0, false, 0⟩,
  ⟨0x20008, [], 0x0, 0x0, 0x0, 0x0, false, 0⟩,
  ⟨0x20010, [], 0x1FFF0003, 0x0, 0x0, 0x0, false, 0⟩,
  ⟨0x20014, [], 0x0, 0x0, 0x0, 0x0, false, 0⟩,
  ⟨0x20018, [], 0x1FFF, 0x0, 0x0, 0x0, false, 0⟩,
  ⟨0x2001C, [], 0x1FFF, 0x0, 0x0, 0x0, false, 0⟩,
  ⟨0x20020, [], 0x0, 0x0, 0x0, 0x0, false, 0⟩,
  ⟨0x20040, [(0x4, 4)], 0x0, 0x0, 0x0, 0x0, true, 0⟩,
  ⟨0x20050, [], 0x0, 0x0, 0x0, 0x0, true, 0⟩,
  ⟨0x20054, [], 0x0, 0x0, 0x0, 0x0, true, 0⟩,
  ⟨0x20100, [(0x4, 48)], 0x0, 0x0, 0xFFFFFFFF, 0x0, false, 0⟩,
  ⟨0x21000, [(0x4, 1536)], 0x9F1F3F00, 0x60000000, 0x0, 0x0, false, 0⟩,
  ⟨0x40000, [], 0x0, 0x0, 0x0, 0x0, false, 0⟩]

def regRows8 : List RegRow := [
  ⟨0x40004, [], 0x0, 0x0, 0x0, 0x0, false, 0⟩,
  ⟨0x40040, [(0x4, 16)], 0x0, 0x0, 0x0, 0x0, true, 0⟩,
  ⟨0x41000, [(0x40, 64)], 0xFFC7C000, 0x0, 0x0, 0x0, false, 0⟩,
  ⟨0x41004, [(0x40, 64)], 0x0, 0x0, 0x0, 0x0, false, 0⟩,
  ⟨0x41008, [(0x40, 64)], 0xFFFFFFFF, 0x0, 0x0, 0x0, false, 0⟩,
  ⟨0x4100C, [(0x40, 64)], 0xFFFFFFFF, 0x0, 0x0, 0x0, false, 0⟩,
  ⟨0x41010, [(0x40, 64)], 0xFFFFFFFF, 0x0, 0x0, 0x0, false, 0⟩,
  ⟨0x41014, [(0x40, 64)], 0xFFFFFFFF, 0x0, 0x0, 0x0, false, 0⟩,
  ⟨0x41018, [(0x40, 64)], 0x7FF, 0x0, 0x0, 0x0, false, 0⟩,
  ⟨0x4101C, [(0x40, 64)], 0x0, 0x0, 0x0, 0x0, false, 0⟩,
  ⟨0x41020, [(0x40, 64)], 0x7FF, 0x0, 0x0, 0x0, false, 0⟩,
  ⟨0x41024, [(0x40, 64)], 0x0, 0x0, 0x0, 0x0, false, 0⟩,
  ⟨0x0, [], 0x0, 0x0, 0x0, 0x0, false, 0⟩,
  ⟨0x4, [], 0x0, 0x0, 0x0, 0x0, false, 0⟩,
  ⟨0x10, [], 0x0, 0x0, 0x0, 0x0, false, 0⟩,
  ⟨0x14, [], 0x0, 0x0, 0x0, 0x0, false, 0⟩,
  ⟨0x18, [], 0x0, 0x0, 0x0, 0x0, false, 0⟩,
  ⟨0x1C, [], 0x0, 0x0, 0x0, 0x0, true, 0⟩,
  ⟨0x20, [], 0x0, 0x0, 0x0, 0x0, false, 0⟩,
  ⟨0x24, [], 0x0, 0x0, 0x0, 0x0, false, 0⟩,
  ⟨0x28, [], 0x0, 0x0, 0x0, 0x0, false, 0⟩,
  ⟨0x2C, [], 0x0, 0x0, 0x0, 0x0, false, 0⟩,
  ⟨0x30, [], 0x0, 0x0, 0x0, 0x0, false, 0⟩,
  ⟨0x34, [], 0x0, 0x0, 0x0, 0x3, false, 0⟩]

/-- Every register word of the register map with its access codes. -/
def regRows : List RegRow :=
  regRows0 ++ regRows1 ++ regRows2 ++ regRows3 ++ regRows4 ++ regRows5 ++ regRows6 ++ regRows7 ++ regRows8

/-- Whether offset `d` from a row's base is one of the row's addresses: the strides of R535 taken in turn. -/
def offsetIn : List (Nat × Nat) → Nat → Bool
  | [], d => d == 0
  | (stride, count) :: rest, d => d / stride < count && offsetIn rest (d % stride)

/-- The register row at an address, if a register is there (R530). `kind` is the Port Plan kind of the lane whose
window holds the address (R116), 0 elsewhere. -/
def regRowAt (kind addr : Nat) : Option RegRow :=
  regRows.find? fun r =>
    decide (r.base ≤ addr) && offsetIn r.dims (addr - r.base) &&
      (match r.kind with
       | 0 => true
       | 1 => kind != 2 && kind != 3
       | 2 => kind == 2 || kind == 3
       | 3 => kind == 2
       | _ => kind == 4)

/-- Event sources whose class is 0 (R498). -/
def isClass0 (src : Nat) : Bool :=
  (576 ≤ src && src < 832 && src % 16 == 13) || (1392 ≤ src && src ≤ 1397) || src == 1404 || src == 1405 ||
  src == 1452 || (1454 ≤ src && src ≤ 1457) || (1460 ≤ src && src ≤ 1462) || src == 1472 || src == 1473

/-- EVC_SRCn after reset (R498, R505 and the table of R507). -/
def evcSrcReset (src : Nat) : Nat :=
  if isClass0 src then 0x9E000000
  else if src == 1480 || src == 1481 then 0xA4000000
  else if src == 1483 then 0xB4000000
  else 0xD0000000

/-- The value of every register after the reset of its power domain (the Reset column of each register table). A
register whose column names the variant, the wake target, MRAM or the image is a view that `State.readReg` computes.
[DESIGN CHOICE, log entry 11] -/
def resetValue (a : Nat) : Word :=
  BitVec.ofNat 32 <|
    match a / 0x10000 with
    | 0x00 => if a = 0x0004 then 0x10 else 0
    | 0x01 => if a = 0x10034 then 1 else 0
    | 0x02 =>
      if a = 0x20000 then 0x00640000
      else if a = 0x20010 then 0x0C000002
      else if 0x21000 ≤ a ∧ a < 0x22800 ∧ a % 4 = 0 then evcSrcReset ((a - 0x21000) / 4)
      else 0
    | 0x03 => if a < 0x30100 ∧ a % 0x40 = 0x0C then 4 else 0
    | 0x04 =>
      if a = 0x40004 then 1
      else if a = 0x4E000 ∨ a = 0x4E100 ∨ a = 0x4E200 then 3
      else 0
    | 0x07 => if a = 0x70000 then 0xC0000000 else if a = 0x70004 then 0x20000000 else 0
    | 0x0D => if a = 0xD001C then 0x00960032 else 0
    | 0x10 =>
      if a = 0x100000 then 1
      else if a = 0x100004 then 3
      else if a = 0x100008 then 0x66666666
      else if a = 0x10000C then 0xF0000000
      else if a = 0x100014 ∨ a = 0x100018 then 0x4000
      else 0
    | 0x11 | 0x12 =>
      match a % 0x10000 with
      | 0x000 => 0xD
      | 0x008 => 0x12C
      | 0x010 | 0x014 => 0xFFFFFFFF
      | 0x018 => 0x3FFFFF
      | 0x020 => 0xFFFF
      | 0x038 => 0x400
      | _ => 0
    | 0x13 =>
      if a = 0x130000 then 0x460
      else if a = 0x130004 then 0x258
      else if a = 0x13001C then 0x400
      else 0
    | 0x14 =>
      match a % 0x1000 with
      | 0x000 => 0x5EE
      | 0x020 => 0xA00
      | 0x044 => 2
      | _ => 0
    | 0x18 | 0x19 =>
      if a < 0x198000 then
        match a % 0x800 with
        | 0x108 => 0x40
        | 0x120 | 0x128 => 1
        | _ => 0
      else 0
    | 0x30 => if a = 0x300000 ∨ a = 0x300118 then 0x400 else if a = 0x300100 then 0x00F40000 else 0
    | _ => 0

end Sys2Proof.Machine
end

