-- ==== Sys2Proof/Machine/State.lean ====
section
/-!
DEFINITION. The state of the block: every register, memory, queue, buffer, counter, mode and pin the specification
gives the KZ-4860, as plain data, and the queue of the commands that wait. Every field's default is its value right
after the always-on power-on reset, so `State.reset` is the structure of the defaults.
-/

namespace Sys2Proof.Machine

/-- How far the start-up sequence has come (R73, R77, R81, R82). -/
inductive Boot where
  /-- VBAT not yet valid, or the device is in Stable -/
  | down
  /-- the always-on domain is up and CORE, LINE and PDIE rise -/
  | aonUp
  /-- the rails are in regulation; the PLLs lock -/
  | railsUp
  /-- boot BIST partition `p` runs (R87) -/
  | bist (p : Nat)
  /-- the slot named by GLB_IMAGE_STATUS.slot is due to be loaded -/
  | load
  /-- the SRAM clear of R81 step 4 runs -/
  | clearing
  /-- settled in state 0 or 3 of GLB_IMAGE_STATUS (R69, R82) -/
  | settled
  /-- cinched; the lanes are not yet enabled -/
  | cinched
  /-- lane controllers enabled -/
  | lanesOn
  /-- routing ready -/
  | routing
deriving DecidableEq, Repr

/-- A slot's record in MRAM (R63, R64) with its retired flag. -/
structure SlotRec where
  valid : Bool := false
  gen : Nat := 0
  retired : Bool := false
  digest : List Byte := []
deriving DecidableEq, Repr

/-- An NVM command that runs: the requester's code (R71), the opcode, the slot, the row and the status it ends with. -/
structure NvmRun where
  requester : Nat
  opcode : Nat
  slot : Nat
  row : Nat
  status : Nat
deriving DecidableEq, Repr

/-- An in-field Team test that runs (R90): 0 draining, 1 testing. -/
structure FarRun where
  team : Nat
  stage : Nat
deriving DecidableEq, Repr

/-- A die link (R19 to R21). -/
structure DieLink where
  down : Bool := false
  /-- consecutive failures of the transfer in progress from the logic die, and of that towards it -/
  failsOut : Nat := 0
  failsIn : Nat := 0
  /-- the retransmission counter of LLK or PLK; that of an ELK is a register -/
  count : Nat := 0
deriving DecidableEq, Repr

/-- One owner (R405, R410). -/
structure Owner where
  /-- 0 absent, 1 active, 2 draining -/
  state : Nat := 0
  persistent : Bool := false
  /-- the bound host function, 0 PF0, n VFn -/
  func : Option Nat := none
  keyFirst : Nat := 0
  keyCount : Nat := 0
  epoch : Nat := 0
  /-- the Saddlecloth key is present (R410, R414) -/
  keyValid : Bool := false
  /-- which key it is: 0 the one that the cinch generated, otherwise the number of its draw -/
  keyDraw : Nat := 0
deriving DecidableEq, Repr

/-- The coalescing window of an event source (R503). -/
structure Window where
  isOpen : Bool := false
  hidden : Nat := 0
  firstTime : Nat := 0
  lastTime : Nat := 0
  lastUptime : Nat := 0
deriving DecidableEq, Repr

/-- A journal or black-box record (R506): a full record carries `payload`, a count record `lastTime` and `count`. -/
structure Record where
  isCount : Bool := false
  cls : Nat := 0
  owner : Nat := 0
  event : Nat := 0
  seq : Nat := 0
  time : Nat := 0
  uptime : Nat := 0
  payload : List Byte := []
  lastTime : Nat := 0
  count : Nat := 0
deriving DecidableEq, Repr

/-- What the block drives out: messages, frames, memory writes and pins, in the order of `State.out`.
[DESIGN CHOICE, log entry 7; DEDUCED, log entry 125] -/
inductive Output where
  /-- an MSI-X message of a function's vector (R500, R519) -/
  | msix (func vec : Nat)
  /-- a frame sent on lane Ln -/
  | laneFrame (lane : Nat) (frame : LaneFrame)
  /-- a frame sent on port En, without FCS; `bad` marks an inverted FCS (R167, R241) -/
  | portFrame (port : Nat) (bytes : List Byte) (bad : Bool)
  /-- a DMA write to host memory -/
  | hostWrite (addr : Nat) (bytes : List Byte)
  /-- words that the service port drives (R521) -/
  | service (words : List Word)
  /-- data that a bulk job writes to Ostler SRAM (R368) -/
  | ostlerWrite (addr : Nat) (bytes : List Byte)
  /-- words handed to Ostler firmware (R523) -/
  | mailbox (words : List Word)
  /-- a frame delivered to Ostler's endpoint queue (R168) -/
  | ostlerFrame (queue : Nat) (bytes : List Byte)
  /-- a GPIO pin driven (R347) -/
  | gpio (pin : Nat) (high : Bool)
  /-- a PCIe completion with the given status, 0 success, 1 unsupported request, 2 retry, and the word that it returns -/
  | pcieCompletion (func status : Nat) (data : Option Word)
  /-- a consent-ring message sent (R434) -/
  | ring (bytes : List Byte)
  /-- the data that a read returns to its requester -/
  | read (req : Requester) (value : Word)
  /-- the acknowledgement of a correct CAN frame on lane Ln (R123) -/
  | ack (lane : Nat)
  /-- an error frame on lane Ln: with an active or a passive error flag (R122, R124) -/
  | errorFrame (lane : Nat) (active : Bool)
  /-- the PLCA beacon of the coordinator on lane Ln (R99, R146) -/
  | beacon (lane : Nat)
deriving DecidableEq, Repr

/-- The non-register state of one Tack lane: its transceiver, its always-on detector and its controller. -/
structure Lane where
  /-- the fault conditions present now, as bits of LANE_PHY_FAULT (R104) -/
  cond : Nat := 0
  /-- termination (or the commander's pull-up) opened under R102 -/
  termOpen : Bool := false
  /-- the 1 kΩ pull-up opened for a short (R104) -/
  pullupOpen : Bool := false
  /-- the bus has been dominant beyond the Hobble maximum and has not been seen to recover (R104) -/
  busDominant : Bool := false
  /-- an XL frame of a fast-mode lane is on the bus: the driver is in fast mode between its ADS and DAS fields and in SIC mode
  outside them (R96, R97) -/
  fastNow : Bool := false
  /-- always-on copies of term, lin_pullup and the kind that sets the over-voltage window and the detector's
  thresholds (R101, R107) -/
  aonTerm : Nat := 0
  aonPullup : Bool := false
  aonKind : Nat := 0
  /-- always-on copies of the five LANE_PN registers and of the wake code (R106, R108) -/
  aonPn : List Nat := []
  aonWake : Nat := 0
  /-- the detector kind that is armed and watching: 0 none, 1 dominant edge, 2 selective wake (R106) -/
  watching : Nat := 0
  pnErrors : Nat := 0
  pnOscillator : Bool := false
  /-- the always-on bias of the bus pins is at 2.5 V (R548) -/
  biasOn : Bool := false
  /-- waiting for 11 recessive bits after an exception or error (R121 to R123) -/
  waiting : Bool := false
  /-- the transmit buffer whose frame is on the bus -/
  onBus : Option Nat := none
  /-- uptime at which the transmitter's attempt in progress began (R484) -/
  started : Nat := 0
  /-- rate_nominal of the Port Plan, in b/s (R144) -/
  rate : Nat := 0
  /-- the chosen buffer held for the Hobble budget (R140) -/
  budgetHold : Option Nat := none
  /-- offset after the newest entry's payload, and (offset, size) of the owned entries, oldest first (R130, R132) -/
  next0 : Nat := 0
  next1 : Nat := 0
  owned0 : List (Nat × Nat) := []
  owned1 : List (Nat × Nat) := []
  seq0 : Nat := 0
  seq1 : Nat := 0
  seqHp : Nat := 0
  /-- the queue's event has been raised and has not re-armed (R134) -/
  disarmed0 : Bool := false
  disarmed1 : Bool := false
  /-- copies waiting for the aggregator, with their receive timestamps (R135) -/
  staging : List (LaneFrame × Nat) := []
  /-- their receive times in time domain 0 (R210) -/
  stagedAt : List Nat := []
  /-- the LIN frame in progress: frame ID, the entry's dir, and the publish bytes taken at the PID (R142) -/
  linId : Option Nat := none
  linDir : Nat := 0
  linPublish : List Byte := []
  /-- word 0 of its ID table entry as the header found it (R142) -/
  linEntry : Nat := 0
  /-- the schedule slot that begins next (R143) -/
  linNext : Nat := 0
deriving DecidableEq, Repr

/-- A transmit buffer of a lane beside its control, descriptor and payload (R136 to R139). -/
structure TxBuf where
  cls : Nat := 0
  owner : Nat := 0
  src : Nat := 0
  /-- arrival order among the lane's frames -/
  order : Nat := 0
  /-- buffers that the frame occupies, from this one on -/
  span : Nat := 1
  /-- this buffer continues the frame of an earlier one -/
  cont : Bool := false
  /-- the trigger has fired since pending was set (R139) -/
  fired : Bool := false
deriving DecidableEq, Repr

/-- What the inline unit loads when it begins to protect a frame (R364, R389): the SA's index, its key, AN, conf and SCI, and the
initialisation vector and PN of the frame. -/
structure TxSec where
  sa : Nat
  key : List Byte
  an : Nat
  conf : Bool
  sci : List Byte
  iv : List Byte
  pn : Nat
deriving DecidableEq, Repr

/-- What the inline unit loads from the SecTAG of a received frame (R362, R389): the SA's index, the recovered PN, the key and the
initialisation vector. -/
structure RxSec where
  sa : Nat
  pn : Nat
  key : List Byte
  iv : List Byte
deriving DecidableEq, Repr

/-- A frame on its way through the fabric: its bytes (for a lane frame, the 16-byte lane header of R320 and the data;
for an Ethernet frame, destination address onwards without FCS) and its descriptor (R30, R33). -/
structure Frame where
  bytes : List Byte := []
  lane : Bool := false
  src : Nat := 0
  owner : Nat := 0
  cls : Nat := 0
  stream : Option Nat := none
  ts : Nat := 0
  /-- the resolved output set, as logical ports, of a frame that takes no lookup (R31, R186) -/
  resolved : Option (List Nat) := none
  /-- the pipeline a recirculated frame enters, which does not learn from it (R29) -/
  recirc : Option Nat := none
  /-- the number of times the frame has recirculated -/
  hops : Nat := 0
  /-- the frame came secured by MACsec and passed its check (R362) -/
  secured : Bool := false
  /-- an Ethernet frame still arriving under cut-through (R166) -/
  cut : Bool := false
  colour : Nat := 0
  /-- the packet-buffer frame that an egress-store copy came from, while its cells still cross (R230, R241) -/
  sid : Option Nat := none
  /-- the copy ends with an inverted FCS (R167, R241) -/
  bad : Bool := false
  /-- the logical output of a copy (R30) -/
  out : Nat := 0
  /-- a mirror copy's session, the header that its sink prepends, and the bytes that it keeps (R209, R210, R242) -/
  mirror : Option Nat := none
  head : List Byte := []
  keep : Option Nat := none
  /-- receive time in time domain 0 (R210) -/
  rx0 : Nat := 0
  /-- a Team's receive queue has taken it (R278) -/
  arrived : Bool := false
  /-- on the line under cut-through and protected as it goes (R364) -/
  sec : Option TxSec := none
deriving DecidableEq, Repr

/-- Hidden levels of a Martingale policer (R251), in units of 8 × 10^-6 byte; a fresh bucket pair is full. -/
structure Bucket where
  fresh : Bool := true
  tc : Nat := 0
  te : Nat := 0
  last : Nat := 0
deriving DecidableEq, Repr

/-- Hidden state of a Schooling record (R262, R264). Tokens are kept in 1/(3.2 × 10^10) of a frame. -/
structure School where
  rate : Nat := 0
  count : Nat := 0
  /-- tick of the previous frame -/
  last : Option Nat := none
  /-- an interval has been measured in this learning period -/
  measured : Bool := false
  tokens : Nat := 0
  tokTick : Nat := 0
deriving DecidableEq, Repr

/-- A frame held in the packet buffer (R225, R237). -/
structure Stored where
  frame : Frame := {}
  input : Nat := 0
  cls : Nat := 0
  /-- fabric outputs that have not read it, each with its logical ports -/
  outs : List (Nat × List Nat) := []
  cells : Nat := 0
  guar : Nat := 0
  lane : Nat := 0
  shared : Nat := 0
  /-- `keyDraw` of the owner when the cells were written (R410, R412) -/
  epoch : Nat := 0
  /-- HOL_STALL has been raised for it (R245) -/
  stalled : Bool := false
  /-- it is still arriving under cut-through (R166, R230) -/
  arriving : Bool := false
  /-- the fabric input whose guaranteed cells it uses: f26 for a mirror copy (R242) -/
  guarOf : Nat := 0
deriving DecidableEq, Repr

/-- A matched pair that moves the cells of a frame (R230), by its output. -/
structure Held where
  input : Nat
  id : Nat
  cls : Nat
  left : Nat
deriving DecidableEq, Repr

/-- A key of the FDB: address as a 48-bit number, and VID (R195). -/
structure FdbKey where
  mac : Nat
  vid : Nat
deriving DecidableEq, Repr

/-- A learn request (R197). -/
structure LearnReq where
  key : FdbKey
  dest : Nat
  owner : Nat
deriving DecidableEq, Repr

/-- An answer of the other pipeline (R200): on a hit, dest, group and owner. -/
structure PeerAnswer where
  key : FdbKey
  hit : Option (Nat × Bool × Nat) := none
deriving DecidableEq, Repr

/-- The hidden queues of one forwarding pipeline (R197, R200, R201). -/
structure Pipe where
  learn : List LearnReq := []
  /-- keys asked of the other pipeline and not yet answered -/
  asked : List FdbKey := []
  /-- queries received from the other pipeline and not yet answered -/
  queries : List FdbKey := []
  answers : List PeerAnswer := []
  /-- keys with their dest that the other pipeline has learned (R201) -/
  moves : List (FdbKey × Nat) := []
  /-- the table command that runs, with its final status (R218) -/
  command : Option Nat := none
  /-- the next entry of the scrubber, counted over the tables in the order of R213 -/
  scrub : Nat := 0
deriving DecidableEq, Repr

/-- A copy in the mirror sink queue (R209). -/
structure MirrorCopy where
  session : Nat
  dest : Nat
  owner : Nat
  bytes : List Byte
deriving DecidableEq, Repr

/-- A Tack Room key slot that holds a key (R384). -/
structure KeySlot where
  key : List Byte
  /-- 0 encrypt-only, 1 decrypt-only, 2 wrap-only, 3 derive-only -/
  usage : Nat
  len256 : Bool
  exportable : Bool := false
  persist : Bool := false
deriving DecidableEq, Repr

/-- An Ethernet port beside its registers: its receive and transmit MACs. -/
structure Eth where
  /-- it has been link-up since the cinch (R176) -/
  linked : Bool := false
  /-- preemption verification runs, and its failed attempts (R171) -/
  verifying : Bool := false
  attempts : Nat := 0
  /-- the express frame on the line, with its class -/
  tx : Option (Frame × Nat) := none
  /-- the preemptable frame on the line or cut, with its class -/
  pre : Option (Frame × Nat) := none
  /-- bytes of `pre` that whole fragments have carried, and whether it is cut now (R172) -/
  preSent : Nat := 0
  preCut : Bool := false
  fragments : Nat := 0
  /-- the classes whose head frame the Hobble budget holds (R174) -/
  budgetCls : List Nat := []
  /-- plaintext bytes presented of a frame that arrives under cut-through (R166) -/
  cutPrefix : Option Nat := none
  /-- what the inline unit has loaded for a protected frame whose verdict is due (R366, R389) -/
  late : Option RxSec := none
  /-- a tamper has discarded the frame that arrives (R377) -/
  lateGone : Bool := false
  /-- the whole of that frame has arrived, with its protected bytes -/
  lateBytes : List Byte := []
  /-- what pipeline A will learn from that frame once it has ended well (R197) -/
  cutLearn : Option LearnReq := none
  /-- the PHY has shut down on temperature (R179) -/
  hot : Bool := false
deriving DecidableEq, Repr

/-- One load output (R446 to R459). -/
structure Out where
  /-- the power stage conducts, or a half-bridge leaves high impedance -/
  on : Bool := false
  /-- the minimum off-time runs (R452) -/
  minOff : Bool := false
  /-- tripped and awaiting a retry (R453) -/
  tripped : Bool := false
  latched : Bool := false
  /-- retries used, and the tick of the last retry (R453) -/
  used : Nat := 0
  retryTick : Option Nat := none
  /-- energy accumulator in 10^-11 A²s (R450) -/
  energy : Nat := 0
  /-- the duty and direction that the profile or the slot gives (R448) -/
  srcDuty : Nat := 0
  srcDir : Nat := 0
  /-- the duty of the present PWM period after the slew limit, and the direction a slot gives it (R447, R452) -/
  cmdDuty : Nat := 0
  cmdDir : Nat := 0
  /-- the direction in force; a reversal passes through coast (R449) -/
  dirNow : Nat := 0
  /-- duty produced in this PWM period, 65,536 fully on (R447) -/
  drive : Nat := 0
  /-- the off-state check's pull-up is applied (R455) -/
  pullup : Bool := false
  /-- profile samples that are due, and a run request not yet taken (R458) -/
  due : Nat := 0
  starting : Bool := false
deriving DecidableEq, Repr

/-- A source that asks for power (R421, R426). -/
structure OnReq where
  code : Nat
  lane : Nat := 0
  ide : Bool := false
  id : Nat := 0
deriving DecidableEq, Repr

/-- A consent-ring message without its seq (R433). -/
structure RingMsg where
  state : Nat := 0
  initiator : Nat := 0
  sender : Nat := 0
  next : Nat := 0
  round : Nat := 0
  dismount : Nat := 0
  consent : Nat := 0
  present : Nat := 0
deriving DecidableEq, Repr

/-- Power states, wake and the consent ring beside their registers (R418 to R438). -/
structure Pwk where
  /-- steps of R425 done: 1 D, 2 detectors watching, 3 lanes released, 4 Ethernet silent, 5 CORE and LINE off -/
  downStep : Nat := 0
  /-- the power-down follows an undervoltage (R424) -/
  undervolt : Bool := false
  /-- a target written during a move (R419) -/
  laterTarget : Option Nat := none
  /-- an off request came during a move (R427) -/
  offLater : Bool := false
  /-- an on request latched after the release, with its ACLK count (R426) -/
  pendingOn : Option (OnReq × Nat) := none
  /-- PENDING_ON is due once routing is ready -/
  pendingRaise : Bool := false
  /-- between W and the rails in regulation: sources are recorded (R423) -/
  wakeOpen : Bool := false
  wakeTarget : Nat := 3
  /-- sources asserted in Stable and not yet taken by a wake, with their ACLK counts -/
  wakeReqs : List (OnReq × Nat) := []
  /-- (code, lane) of the sources that this wake has recorded (R423) -/
  wakeSeen : List (Nat × Nat) := []
  /-- a wake's propagate bit asks for a WAKE assertion, and a held request waits (R423, R430) -/
  propagate : Bool := false
  wakeNo : Nat := 0
  /-- lanes whose WAKE and PN error events are due once CORE runs (R108, R423) -/
  wakeLanes : List Nat := []
  pnLanes : List Nat := []
  /-- the last wake had source TIMER, and its wake_guard has not ended (R344) -/
  guardWait : Bool := false
  /-- ACLK counts of the last WAKE assertions, newest first (R430) -/
  asserts : List Nat := []
  /-- the WAKE request held by the rate limit or the pending digest -/
  held : Bool := false
  /-- conditions of R431: quiet lanes, minimum awake time, quiet WAKE line -/
  quietLanes : Bool := false
  minAwake : Bool := false
  quietWake : Bool := true
  /-- the WAKE line has been low for 100 ms and has not gone high since (R430) -/
  stuck : Bool := false
  /-- this member was the last to send AWAKE (R435) -/
  lastAwake : Bool := false
  /-- no ring message for the search time of R435 -/
  silent : Bool := false
  /-- own message count (R433) -/
  seq : Nat := 0
  /-- last (seq, tick) of each sender (R434) -/
  heard : List (Nat × (Nat × Nat)) := []
  /-- the message last received and answered, and the answer (R437) -/
  answered : Option (RingMsg × RingMsg) := none
  /-- the message sent and not yet answered, and whether it was resent (R437) -/
  waiting : Option (RingMsg × Bool) := none
  /-- members skipped that have sent nothing since (R435) -/
  skipped : Nat := 0
  /-- this member has set its consent bit in the current round -/
  consented : Bool := false
  /-- a confirm round has completed since consent began (R436, R438) -/
  confirmed : Bool := false
  /-- SLEEP-CONFIRM has been forwarded and nothing heard since, with its dismount time (R438) -/
  forwarded : Option Nat := none
  /-- the tick at which the dismount timer started (R438) -/
  dismount : Option Nat := none
deriving DecidableEq, Repr

/-- The gate list of one Ethernet port beside its registers (R256 to R259). -/
structure PortGate where
  /-- class gates open now, bit c for class c -/
  gates : Nat := 255
  /-- a cycle start of the oper list and of the fallback list, in the port's domain -/
  operBase : Nat := 0
  fbBase : Nat := 0
  /-- the instant of a pending change (R258) -/
  changeAt : Nat := 0
  /-- a hold operation is in force (R173) -/
  hold : Bool := false
  /-- the last tick at which the shapers' credits were brought up to date (R255) -/
  credTick : Nat := 0
  /-- longest open time of each class when the list came into force; none where the gate never closes (R257) -/
  longest : List (Option Nat) := []
deriving DecidableEq, Repr

/-- A gPTP timestamp (R358). -/
structure PtpStamp where
  nomap : Bool
  domain : Nat
  msgType : Nat
  domainNumber : Nat
  sequenceId : Nat
  time : Nat
deriving DecidableEq, Repr

/-- An entry of a Team's work queue, with the owner of whoever added it (R275). -/
structure WqEntry where
  w0 : Nat
  w1 : Nat
  w2 : Nat
  w3 : Nat
  owner : Nat
deriving DecidableEq, Repr

/-- What a Courser does (R299). -/
inductive CrsRun where
  | idle
  | running
  | waiting
  | halted
deriving DecidableEq, Repr

/-- One Courser beside its registers and memories (R271, R272, R286, R287). -/
structure Courser where
  /-- a program block of the running image names it -/
  named : Bool := false
  owner : Nat := 0
  entry : Nat := 0
  pc : Nat := 0
  run : CrsRun := .idle
  /-- the wait in progress: its mask, its rd, and for WAITT its domain and target (R286) -/
  mask : Nat := 0
  waitRd : Nat := 0
  target : Option (Nat × Nat) := none
  /-- causes CIP and TRIG noted since the last resumption with them -/
  cip : Bool := false
  trig : Bool := false
  /-- work-queue entries taken since the last wait or yield and so not finished (R277) -/
  taken : Nat := 0
  /-- slots stored to and not yet published, oldest first (R293) -/
  dirty : List Nat := []
  /-- the slot whose line it waits for (R291), and whether its instruction has been counted as a miss (R301) -/
  miss : Option Nat := none
  missed : Bool := false
  /-- listed lines that the yield in progress has published already (R281, R293) -/
  published : Nat := 0
  /-- halted because its owner was torn down: no restart (R288) -/
  gone : Bool := false
  /-- stopped behind a yield while its Team drains or is tested (R90, R420) -/
  parked : Bool := false
deriving DecidableEq, Repr

/-- A valid line of a Team cache, or an entry of an eviction buffer (R289, R292). -/
structure Line where
  slot : Nat
  owner : Nat
  value : Nat
  version : Nat
  /-- in state M; otherwise S -/
  modified : Bool
deriving DecidableEq, Repr

/-- The requests that reach a home bank (R290). -/
inductive SigKind where
  | getS
  | getM
  | putM
  | putS
  | hWr
  | hRd
deriving DecidableEq, Repr

/-- A request on its way to a home bank: of Team `team` for the first four kinds, of a Hitch unit, an aggregator or
the aperture for the others. -/
structure SigReq where
  kind : SigKind
  slot : Nat
  team : Nat := 0
  courser : Nat := 0
  owner : Nat := 0
  value : Nat := 0
  version : Nat := 0
  /-- a publish: the line stays in S (R293) -/
  keep : Bool := false
  /-- the batch that a write belongs to (R319) -/
  batch : Nat := 0
  /-- the meta bits that an aperture write sets: emit_first, emit_count, stale_action, timeout (R316) -/
  meta_ : Option Nat := none
  /-- a substitute value of the staleness sweep (R317) -/
  subst : Bool := false
  /-- who reads, and which word of the slot (HRd); or the output that takes its duty from the slot (R448) -/
  reader : Option (Requester × Nat) := none
  /-- the word of the service port's read buffer that takes the answer (R521) -/
  svcAt : Option Nat := none
  output : Option Nat := none
deriving DecidableEq, Repr

/-- The transaction in progress on a slot (R291, R294): the Teams whose snoop answers are outstanding, and those of them
whose data has been written at home. -/
structure SigTrans where
  req : SigReq
  waits : List Nat
  got : List Nat := []
deriving DecidableEq, Repr

/-- The snoops of R290. -/
inductive SnoopKind where
  | fetch
  | fetchInv
  | inv
deriving DecidableEq, Repr

/-- A snoop on its way to a Team. -/
structure Snoop where
  kind : SnoopKind
  team : Nat
  slot : Nat
deriving DecidableEq, Repr

/-- A Team's answer on its way home: Data with value and version, Ack, or Absent; `keeps` says that the Team still
holds the line in S (R292). -/
structure SnoopAnswer where
  team : Nat
  slot : Nat
  data : Option (Nat × Nat) := none
  absent : Bool := false
  keeps : Bool := false
deriving DecidableEq, Repr

/-- A line on its way to the Team that asked, or the exception that home found instead (R284, R291). -/
structure Fill where
  team : Nat
  courser : Nat
  line : Line
  cause : Nat := 0
deriving DecidableEq, Repr

/-- A definition beside its entry (R316 to R325): what is pending, its sequence numbers and its tunnel's messages. -/
structure DefState where
  pending : Bool := false
  elems : List Nat := []
  /-- the batch that made it pending (R319) -/
  batch : Nat := 0
  /-- the entry's bytes at the last write to a slot that emits into it (R318) -/
  entry : List Byte := []
  seq : Nat := 0
  kcSeq : Nat := 0
  msgs : List (List Byte) := []
deriving DecidableEq, Repr

/-- Where a bulk job stands (R376). -/
inductive JobRun where
  | waiting
  | running
  | suspended
deriving DecidableEq, Repr

/-- A job of the bulk cipher engines (R368 to R380): function f is requester f, Ostler 32, Courser k 33 + k. A frame job
carries its frame and the entry that it matched. -/
structure Job where
  requester : Nat
  owner : Nat
  seq : Nat
  desc : List Byte
  run : JobRun := .waiting
  /-- the engine it runs on: 0 to 3, or 4 for the ECDSA unit -/
  engine : Nat := 0
  /-- the order in which it last started -/
  started : Nat := 0
  wasSuspended : Bool := false
  key : List Byte := []
  iv : List Byte := []
  source : List Byte := []
  /-- source bytes done at its last suspension (R376) -/
  progress : Nat := 0
  /-- its slot held another key when it resumed (R389) -/
  rekeyed : Bool := false
  frame : Option (Frame × Nat) := none
deriving DecidableEq, Repr

/-- A key command that runs (R387): its requester, opcode and final status. -/
structure KeyRun where
  requester : Requester
  opcode : Nat
  slot : Nat
  status : Nat
deriving DecidableEq, Repr

/-- The Teams (R271 to R293). -/
structure Teams where
  coursers : List (Nat × Courser) := []
  /-- Teams whose dispatch is stopped, one bit each (R90, R420) -/
  stopped : Nat := 0
  /-- general registers, 32 × Courser + register -/
  gregs : List (Nat × Word) := []
  /-- instruction memories, 4,096 × Courser + word address -/
  imem : List (Nat × Word) := []
  /-- data memories, 32,768 × Courser + byte address -/
  dmem : List Host.Cell := []
  workQs : List (Nat × List WqEntry) := []
  /-- transmit queues, 2 × Team + queue -/
  fqTx : List (Nat × List Frame) := []
  /-- cache sets, 1,024 × Team + set, most recently used line first -/
  caches : List (Nat × List Line) := []
  /-- eviction buffers -/
  evict : List (Nat × List Line) := []
  /-- Teams whose duplicate tags are rebuilt (R296) -/
  rebuilding : List (Nat × Bool) := []
deriving DecidableEq, Repr

/-- The Signal Store beside its slots, which stand in the table aperture (R289 to R297). -/
structure SigStore where
  /-- the directory: the Teams that hold a slot, and whether in M (R290) -/
  directory : List (Nat × List (Nat × Bool)) := []
  reqs : List SigReq := []
  trans : List (Nat × Option SigTrans) := []
  snoops : List Snoop := []
  answers : List SnoopAnswer := []
  putAcks : List (Nat × Nat) := []
  fills : List Fill := []
  scrub : Nat := 0
  /-- hidden old flags of the slots (R324), their line generations (R413), and `keyDraw` of their owners
  when they were written (R410, R412) -/
  old : List (Nat × Bool) := []
  gen : List (Nat × Nat) := []
  epoch : List (Nat × Nat) := []
deriving DecidableEq, Repr

/-- An element of a container's shadow: the emit route that wrote it, its slot, whether it holds 8 bytes, and its value
(R318, R323). -/
structure Elem where
  route : Nat
  slot : Nat
  wide : Bool
  value : Nat
deriving DecidableEq, Repr

/-- The signal gateway (R303 to R332). -/
structure Gateway where
  /-- uptime at which routing became ready (R315) -/
  routingTick : Nat := 0
  batchNext : Nat := 1
  /-- deferral buffers of the Hitch units: Team and entry, oldest first (R314) -/
  deferred : List (Nat × List (Nat × WqEntry)) := []
  /-- shadows of the PDU definitions, and elements of the containers at 64 × definition + index; an element's stale and
  subst flags always equal its slot's (R318) -/
  shadows : List (Nat × List Byte) := []
  elements : List (Nat × Option Elem) := []
  defs : List (Nat × DefState) := []
  scrub : Nat := 0
deriving DecidableEq, Repr

/-- The bulk cipher engines (R368 to R383). -/
structure Cip where
  jobs : List Job := []
  jobNext : Nat := 0
  startNext : Nat := 0
  /-- the job counter of the nonces (R372) -/
  jobCounter : Nat := 0
  /-- held CIP_SUBMIT_LO words: function f at f, Ostler at 32 (R383) -/
  submitLo : List (Nat × Word) := []
deriving DecidableEq, Repr

/-- The Tack Room beside its slots (R384 to R404). -/
structure Tack where
  /-- KEY_ARG, KEY_DATA and KEY_OUT of each requester: 64 × requester index + 0, 1 + i, 17 + i (R387) -/
  regs : List (Nat × Word) := []
  run : Option KeyRun := none
  /-- slots whose persistent record is not yet loaded (R386) -/
  await : List Nat := []
  /-- the persistent load runs (R386, R396) -/
  loading : Bool := false
  /-- erasing every persistent record runs (R401) -/
  erasing : Bool := false
  /-- an assertion in Stable that the next CORE power-up acts on (R401) -/
  stable : Bool := false
deriving DecidableEq, Repr

/-- The host port and the service port beside their registers (R510 to R525, R550). -/
structure HostPort where
  /-- NumVFs of the SR-IOV capability (R511) -/
  numVfs : Nat := 0
  /-- the words of configuration space that requests have written, at 1,024 × function + word (R26, R85) -/
  config : List (Nat × Word) := []
  /-- the device has cinched, or settled in state 0 or 3, since CORE power-up (R85) -/
  configOpen : Bool := false
  /-- the TAP controller has enabled scan (R26, R88) -/
  scan : Bool := false
  /-- VIO is below 1.6 V (R550) -/
  vioLow : Bool := false
  /-- SVC_STATUS.ready, crc_err and status, and SVC_WINDOW.base (R522, R524) -/
  ready : Bool := false
  crcErr : Bool := false
  status : Nat := 0
  window : Nat := 0
  /-- the service-port command that runs: its opcode, and its status once that stands (R521, R523) -/
  run : Option (Nat × Option Nat) := none
  /-- the read buffer (R521) -/
  readBuf : List Word := []
  /-- the nine words of the mailbox command that Ostler firmware holds (R523) -/
  mbox : List Word := []
deriving DecidableEq, Repr

/-- Ostler's restarts and the arbiters beside their registers (R478, R490). -/
structure Super where
  /-- the tick of Ostler's last restart -/
  restartTick : Option Nat := none
  /-- halted a second time within 1 s of a restart: only a write restarts it -/
  stays : Bool := false
  /-- requesters of arbiter a, the highest rank first: the normal class at 2a, the pre-emptor class at 2a + 1 -/
  ranks : List (Nat × List Nat) := []
  /-- Ostler's SRAM as the device has read or written it; an unlisted byte reads as 0, as after a clear (R35, R476, R478) -/
  ram : List Host.Cell := []
deriving DecidableEq, Repr

/-- The battery monitor and the converter beside their registers (R461 to R465). -/
structure Conv where
  /-- the sequence that converts, and those pending in ascending order (R461) -/
  run : Option Nat := none
  pend : List Nat := []
  /-- a cell measurement runs, or waits for the open-wire test (R463, R465) -/
  measuring : Bool := false
  measDue : Bool := false
  /-- cells marked by automatic balancing (R464) -/
  marked : Nat := 0
  /-- the open-wire test: its wire, its phase, and the first measurement of the wire (R465) -/
  test : Option (Nat × Nat) := none
  before : List Nat := []
deriving DecidableEq, Repr

/-- The state of the block. -/
structure State where
  /-- commands waiting, first in first out (the model's own field) -/
  pending : List Instr := []
  /-- what the block has driven out, newest first (the model's own field) -/
  out : List Output := []
  /-- the free values drawn so far (the model's own field) -/
  freeNext : Nat := 0
  /-- which part the fuses make (R1, R2) -/
  variant : Variant := .kz4860
  /-- the register map, sparse over `resetValue` -/
  regs : List (Nat × Word) := []
  /-- the table aperture but for the journal and the black box -/
  aper : List Host.Cell := []
  /-- image slots and Ostler firmware in MRAM (R36) -/
  mram : List Host.Cell := []
  /-- MRAM rows that are programmed (R63) -/
  rowProgrammed : List (Nat × Bool) := []
  slotA : SlotRec := {}
  slotB : SlotRec := {}
  genLast : Nat := 0
  nvmRun : Option NvmRun := none
  /-- NVM_WBUF of each requester, at 64 × requester code + i (R66) -/
  nvmBuf : List (Nat × Word) := []
  farRun : Option FarRun := none
  boot : Boot := .down
  /-- boot BIST is allowed: no CORE start since the always-on power-on reset (R78) -/
  coldStart : Bool := true
  coreOn : Bool := false
  lineOn : Bool := false
  pdieOn : Bool := false
  cinched : Bool := false
  /-- lanes, ports and Teams that Paddock or a power-down leaves unpowered, one bit each (R420, R425) -/
  lanesOff : Nat := 0
  portsOff : Nat := 0
  teamsOff : Nat := 0
  /-- die links: 0 to 15 ELKn, 16 LLK, 17 PLK (R19) -/
  links : List (Nat × DieLink) := []
  /-- ACLK has been calibrated against REFCLK and holds the result (R24) -/
  aclkCalibrated : Bool := false
  owners : List (Nat × Owner) := []
  /-- TBCLK ticks since CORE power-up (R506) -/
  uptime : Nat := 0
  /-- free-running counter of each domain in 2^-32 ns; domain 0's alone in Coherent mode (R333, R334) -/
  tmbCount : List (Nat × Nat) := []
  /-- offset of each domain in ns, modulo 2^64 (R333, R334) -/
  tmbOffset : List (Nat × Nat) := []
  /-- PERST_N is low -/
  perstLow : Bool := true
  /-- MSI-X table words of each function, at 256 × function + word (R519) -/
  msix : List (Nat × Word) := []
  /-- MSI-X pending bits, at 64 × function + vector (R519) -/
  msixPending : List (Nat × Bool) := []
  -- events and journal
  windows : List (Nat × Window) := []
  journal : List (Nat × Record) := []
  /-- records written since CORE power-up, at most 4,096 (R502) -/
  journalHeld : Nat := 0
  journalSeq : Nat := 0
  class0Coalescing : Bool := false
  bbStaged : List Record := []
  /-- the next black-box sequence number; until the start-up scan ends it counts from 0 (R507) -/
  bbSeq : Nat := 0
  blackBox : List (Nat × Record) := []
  -- lanes
  lanes : List (Nat × Lane) := []
  txBufs : List (Nat × TxBuf) := []
  orderNext : Nat := 0
  /-- frames in the egress stores, oldest first: queue 8 × logical port + class, lanes 8 × logical port (R227) -/
  egress : List (Nat × List Frame) := []
  /-- the owner of each logical port, from the Port Plan (R407) -/
  portOwner : List (Nat × Nat) := []
  /-- the two copies of the Hobble block (R47, R486) -/
  hobA : List Host.Cell := []
  hobB : List Host.Cell := []
  /-- frames presented to the pipeline of each fabric port, oldest first (R28, R31) -/
  offered : List (Nat × List Frame) := []
  /-- time since the always-on domain started, in 4 ns; ACLK and every interval are counted on it -/
  ticks : Nat := 0
  /-- the Wake Plan in force, section 0x000D of the running image; empty without one (R421, R439) -/
  wakePlan : List Byte := []
  pwk : Pwk := {}
  /-- the always-on copies of the Hobble WAKE limit and tamper codes, sensor n in bits 2n + 1..2n (R400, R482) -/
  aonWakeLimit : Nat := 4
  aonTamper : Nat := 0x55
  outs : List (Nat × Out) := []
  conv : Conv := {}
  /-- energy of VLOAD groups 0 to 3 and of the package (4), in 10^-11 A²s (R454) -/
  groupEnergy : List (Nat × Nat) := []
  -- time bases (R333 to R358)
  /-- Time Plan thresholds, restored by TMB_STEP_CTRL.restore (R339) -/
  planThresh : List (Nat × Nat) := []
  /-- captures of TMB_TIME_LO, at 4 × requester index + domain (R340) -/
  timeCapture : List (Nat × Nat) := []
  /-- committed increment of each domain in 2^-32 ns (R337) -/
  tmbInc : List (Nat × Nat) := []
  /-- tick of each domain's last accepted report (R342) -/
  lastReport : List (Nat × Nat) := []
  /-- committed targets of the trigger comparators (R346) -/
  trigTarget : List (Nat × Nat) := []
  /-- comparators set with a target already reached, whose firing is late (R346) -/
  trigLate : List (Nat × Bool) := []
  /-- comparators whose GPIO pulse runs (R347) -/
  pulses : List (Nat × Bool) := []
  /-- capture FIFOs, oldest first (R348) -/
  captures : List (Nat × List Nat) := []
  /-- gPTP timestamp FIFOs of En, oldest first (R350) -/
  ptpRx : List (Nat × List PtpStamp) := []
  ptpTx : List (Nat × List PtpStamp) := []
  portGates : List (Nat × PortGate) := []
  /-- table entries found or made bad in parity and not yet repaired, by aperture address (R212, R266, R329) -/
  badEntries : List (Nat × Bool) := []
  /-- owner tags of table entries that the image or the cinch fixes, by aperture address (R52, R60) -/
  tags : List (Nat × Nat) := []
  /-- sealed entries: aperture address of the first byte, and length (R52, R60) -/
  sealedAt : List (Nat × Nat) := []
  /-- the tables as the running image placed them: the contents a repair restores (R212, R266, R329) -/
  aperImage : List Host.Cell := []
  /-- entries queued for repair, oldest first (R212) -/
  repairs : List Nat := []
  /-- auto stream IDs: 1 in use, 2 waiting for its return to the pool (R188) -/
  autoIds : List (Nat × Nat) := []
  /-- entries whose first overflow frame has raised STREAM_OVERFLOW (R188) -/
  ovfRaised : List (Nat × Bool) := []
  /-- fdb_evict of the Fabric Plan: bit p set, FWDp evicts the oldest (R45, R198) -/
  fdbEvict : Nat := 0
  pipes : List (Nat × Pipe) := []
  mirrorSink : List MirrorCopy := []
  -- traffic control (R248 to R264)
  buckets : List (Nat × Bucket) := []
  schools : List (Nat × School) := []
  /-- 10 ms windows counted in the current second of the learning period (R263) -/
  schoolWindows : Nat := 0
  /-- an unknown lane frame has raised SCHOOL_DEVIATION in this window (R264) -/
  unknownRaised : Bool := false
  /-- stream-gate entry in force plus 1; 0 before the first cycle (R253) -/
  sgateEntry : List (Nat × Nat) := []
  /-- domain time at which a stream gate's first cycle starts (R253) -/
  sgateStart : List (Nat × Nat) := []
  stmScrub : Nat := 0
  -- switch core (R223 to R247)
  stored : List (Nat × Option Stored) := []
  storedNext : Nat := 0
  /-- frames in each VOQ (256 × input + 8 × output + class), oldest first -/
  voqs : List (Nat × List Nat) := []
  /-- general shared cells of each VOQ (R237) -/
  voqShared : List (Nat × Nat) := []
  pairs : List (Nat × Option Held) := []
  grantPtr : List (Nat × Nat) := []
  acceptPtr : List (Nat × Nat) := []
  round : Nat := 0
  poolUsed : Nat := 0
  sharedLow : Bool := false
  laneLow : Bool := false
  -- Ethernet ports (R157 to R183) and MACsec (R360 to R367)
  eths : List (Nat × Eth) := []
  /-- receive queues, 8 × port + queue: each frame, and whether it uses shared FIFO space (R165) -/
  rxQueues : List (Nat × List (Frame × Bool)) := []
  /-- held steering words, by register address (R163) -/
  steerHeld : List (Nat × Word) := []
  /-- shaper credits, 8 × port + class, in 4 × 10^-6 bit (R255) -/
  cbs : List (Nat × Int) := []
  /-- the PCP-to-class maps of the Fabric Plan, 8 × pipeline + PCP (R45, R162) -/
  defaultClass : List (Nat × Nat) := []
  /-- transmit SAs that have raised PN_WARN (R365) -/
  pnWarned : List (Nat × Bool) := []
  /-- transmit SAs whose next PN is the last of its space and has been used (R365) -/
  pnSpent : List (Nat × Bool) := []
  keySlots : List (Nat × Option KeySlot) := []
  teams : Teams := {}
  sig : SigStore := {}
  gw : Gateway := {}
  cip : Cip := {}
  tack : Tack := {}
  /-- an owner command that runs: opcode, owner, final status (R410) -/
  sclRun : Option (Nat × Nat × Nat) := none
  host : HostPort := {}
  super : Super := {}
  /-- Hobble credit of logical port n at a tick, in 1/256 ns for a lane and in 1/2,000 byte for a port (R484, R485) -/
  credit : List (Nat × (Int × Nat)) := []
deriving DecidableEq, Repr

/-- Why a command stops the model: nothing does. Every behaviour the specification gives a command is a next state. -/
inductive Fault where
  /-- Raised by no meaning; the block has no state from which it cannot go on. Safe. -/
  | impossible
deriving DecidableEq, Repr

/-- Why a command has no next state in this model. -/
inductive Refusal where
  /-- Raised only by the arms of `exec` that have no meaning yet. Safe. -/
  | notModelled (mnemonic : String)
deriving DecidableEq, Repr

/-- The machine right after the always-on power-on reset: every field at its default, and the wake-record entry with code 8
that this reset itself writes (R429).
[DESIGN CHOICE, log entry 10; DESIGN CHOICE, log entry 11; DEDUCED, log entry 13; DESIGN CHOICE, log entry 14] -/
def State.reset : State := { regs := [(PWK_WREC_IDX, 0x00010001), (PWK_WREC 0, 0xC0000000)] }

end Sys2Proof.Machine
end

