-- ==== Sys2Proof/Machine/Ops.lean ====
section
/-!
DEFINITION. The shared operations of the block: registers and their fields, memories, counters, free values, which
units the part has, owners and requesters, and the raising of an event with its journal and black-box records.
-/

namespace Sys2Proof.Machine

/-! ### Registers -/

/-- The value held at a register address. -/
def State.reg (s : State) (a : Nat) : Word := look resetValue s.regs a

/-- The state with a register word replaced. -/
def State.setReg (s : State) (a : Nat) (v : Word) : State := { s with regs := put resetValue s.regs a v }

/-- A register field, as a number. -/
def State.fget (s : State) (f : Fld) : Nat := getField (s.reg f.addr) f.hi f.lo

/-- A one-bit field is 1. -/
def State.isSet (s : State) (f : Fld) : Bool := s.fget f == 1

/-- The state with a register field replaced. -/
def State.fset (s : State) (f : Fld) (n : Nat) : State := s.setReg f.addr (setField (s.reg f.addr) f.hi f.lo n)

/-- A sequence of register fields replaced, the first first. -/
def State.fsets (s : State) (l : List (Fld × Nat)) : State := l.foldl (fun t e => t.fset e.1 e.2) s

/-- Registers from `lo` to `hi` back at their reset values. -/
def State.resetRegs (s : State) (lo hi : Nat) : State := { s with regs := dropRange s.regs lo hi }

/-- A register raised by `n`, saturating at 0xFFFF_FFFF. -/
def State.addSat (s : State) (a n : Nat) : State :=
  s.setReg a (word (min ((s.reg a).toNat + n) 0xFFFFFFFF))

/-- A saturating counter register counts one. -/
def State.countSat (s : State) (a : Nat) : State := s.addSat a 1

/-- A field counts one and saturates at its width. -/
def State.fcount (s : State) (f : Fld) : State :=
  s.fset f (min (s.fget f + 1) (2 ^ (f.hi + 1 - f.lo) - 1))

/-! ### Free values -/

/-- The next free value. [DESIGN CHOICE, log entry 6] -/
def State.free (s : State) : Nat := (Config.freeValue s.freeNext).toNat

/-- The state after `n` free values have been drawn. -/
def State.drew (s : State) (n : Nat) : State := { s with freeNext := s.freeNext + n }

/-- The next `n` free bytes. -/
def State.freeBytes (s : State) (n : Nat) : List Byte :=
  (List.range n).map fun i => BitVec.ofNat 8 (Config.freeValue (s.freeNext + i)).toNat

/-! ### Units present (R1, R6, R7, R11) -/

/-- GLB_CAP_UNITS of the part (R7). -/
def capUnits : Variant → Nat
  | .kz4860 => 0x07FFFFFF
  | .kz4840 => 0x060FFFF0
  | .kz4820 => 0x0000FF30

/-- The number of lanes of the part; lanes are present from L0 on (R1). -/
def laneCount : Variant → Nat
  | .kz4860 => 48
  | .kz4840 => 32
  | .kz4820 => 24

def lanePresent (v : Variant) (n : Nat) : Bool := n < laneCount v
def portPresent (v : Variant) (n : Nat) : Bool := n < 16 && (4 ≤ n || bitOf (capUnits v) n)
def teamPresent (v : Variant) (t : Nat) : Bool := t < 16 && bitOf (capUnits v) (8 + t)
def enginePresent (v : Variant) (c : Nat) : Bool := c < 4 && bitOf (capUnits v) (4 + c)
def batPresent (v : Variant) : Bool := bitOf (capUnits v) 24

/-- Output j: HS0 to HS15 are 0 to 15, HB0 to HB3 are 16 to 19 (R47). -/
def outputPresent (v : Variant) (j : Nat) : Bool :=
  if j < 16 then bitOf (capUnits v) 25 else j < 20 && bitOf (capUnits v) 26

/-- A logical port has an endpoint on this part (R11, R28). -/
def logicalPresent (v : Variant) (p : Nat) : Bool :=
  if p < 16 then portPresent v p
  else if p < 64 then lanePresent v (p - 16)
  else if p < 80 then teamPresent v (p - 64)
  else p < 86

/-- A fabric port has a unit behind it on this part (R11). -/
def fabricPresent (v : Variant) (f : Nat) : Bool :=
  if f < 4 then portPresent v f
  else if f = 13 then lanePresent v 24
  else if 14 ≤ f ∧ f < 22 then teamPresent v (2 * (f - 14))
  else f < 32

/-- The fabric port of a logical port (R28, R29). -/
def fabricOf (p : Nat) : Nat :=
  if p < 8 then p
  else if p < 16 then 8 + (p - 8) / 2
  else if p < 40 then 12
  else if p < 64 then 13
  else if p < 80 then 14 + (p - 64) / 2
  else p - 58

/-- The unit that owns an event source is present (R10, R496). -/
def sourcePresent (v : Variant) (src : Nat) : Bool :=
  if src < 576 then lanePresent v (src / 12)
  else if src < 832 then portPresent v ((src - 576) / 16)
  else if src < 960 then teamPresent v ((src - 832) / 8)
  else if 992 ≤ src ∧ src < 1024 then fabricPresent v (src - 992)
  else if 1216 ≤ src ∧ src < 1248 then batPresent v
  else if 1280 ≤ src ∧ src < 1360 then outputPresent v ((src - 1280) / 4)
  else src < 1536

/-! ### Time -/

/-- The time of domain `d` in nanoseconds (R333, R334): the common counter and the domain's offset in Coherent mode,
the domain's own counter in Independent mode. [DEDUCED, log entry 163] -/
def State.timeNs (s : State) (d : Nat) : Nat :=
  let c := if s.isSet TMB_MODE_mode then d else 0
  if !s.cinched then 0
  else (look (fun _ => 0) s.tmbCount c / 2 ^ 32 + look (fun _ => 0) s.tmbOffset d) % 2 ^ 64

/-! ### Owners and requesters -/

def noOwner (_ : Nat) : Owner := {}

/-- The record of an owner. -/
def State.owner (s : State) (o : Nat) : Owner := look noOwner s.owners o

/-- The state with an owner's record replaced. -/
def State.setOwner (s : State) (o : Nat) (r : Owner) : State := { s with owners := put noOwner s.owners o r }

/-- The owner bound to a PCIe function (R406, R511). In states 0 and 3 of GLB_IMAGE_STATUS, PF0 is bound to owner 1. -/
def State.boundOwner (s : State) (f : Nat) : Option Nat :=
  let st := s.fget GLB_IMAGE_STATUS_state
  if st = 0 ∨ st = 3 then (if f = 0 then some 1 else none)
  else (s.owners.find? fun e => e.2.func == some f && e.2.state == 1).map (·.1)

/-- The owner of a requester (R406); none for an unbound function, which is not exposed, and none while CORE is off, where no
requester reaches anything (R536). -/
def State.ownerOf (s : State) (r : Requester) : Option Nat :=
  if !s.coreOn then none
  else
    match r with
    | .svc => some 0
    | .ostler => some 0
    | .func f => s.boundOwner f

/-- The requester is of owner 0 or of the owner bound to PF0. -/
def State.privileged (s : State) (r : Requester) : Bool :=
  let o := s.ownerOf r
  o == some 0 || (o.isSome && o == s.boundOwner 0)

/-- The requester is of owner 0 or of owner `o` (R408). -/
def State.mayUse (s : State) (r : Requester) (o : Nat) : Bool :=
  let q := s.ownerOf r
  q == some 0 || q == some o

/-- The requester code of NVM_STATUS (R71): 1 PF0, 2 the service port, 3 Ostler; 0 for any other. -/
def requesterCode : Requester → Nat
  | .func 0 => 1
  | .svc => 2
  | .ostler => 3
  | .func _ => 0

/-! ### Units -/

def noLane (_ : Nat) : Lane := {}
def State.lane (s : State) (n : Nat) : Lane := look noLane s.lanes n
def State.setLane (s : State) (n : Nat) (l : Lane) : State := { s with lanes := put noLane s.lanes n l }

def noTx (_ : Nat) : TxBuf := {}
/-- Transmit buffer TBk of lane n. -/
def State.tx (s : State) (n k : Nat) : TxBuf := look noTx s.txBufs (8 * n + k)
def State.setTx (s : State) (n k : Nat) (b : TxBuf) : State := { s with txBufs := put noTx s.txBufs (8 * n + k) b }

def noEth (_ : Nat) : Eth := {}
def State.eth (s : State) (n : Nat) : Eth := look noEth s.eths n
def State.setEth (s : State) (n : Nat) (e : Eth) : State := { s with eths := put noEth s.eths n e }

def noLink (_ : Nat) : DieLink := {}
def State.link (s : State) (k : Nat) : DieLink := look noLink s.links k
def State.setLink (s : State) (k : Nat) (l : DieLink) : State := { s with links := put noLink s.links k l }

def noFrames (_ : Nat) : List Frame := []
/-- The frames of an egress-store queue, oldest first. -/
def State.egressQ (s : State) (k : Nat) : List Frame := look noFrames s.egress k
def State.setEgressQ (s : State) (k : Nat) (l : List Frame) : State := { s with egress := put noFrames s.egress k l }

/-- Lane n's transceiver and controller are powered (R25, R420). -/
def State.lanePowered (s : State) (n : Nat) : Bool := s.lineOn && !bitOf s.lanesOff n

/-- Port En is powered (R25, R420). -/
def State.portPowered (s : State) (n : Nat) : Bool := s.lineOn && !bitOf s.portsOff n

/-- Team Tt is powered (R25, R420). -/
def State.teamPowered (s : State) (t : Nat) : Bool := s.coreOn && !bitOf s.teamsOff t

/-- The block drives something out. [DESIGN CHOICE, log entry 7] -/
def State.emit (s : State) (o : Output) : State := { s with out := o :: s.out }

/-- Ostler firmware runs (R481). -/
def State.ostlerRuns (s : State) : Bool := s.fget GLB_OSTLER_STATUS_state == 2

/-- Routing is ready and not stopped (R74, R81). -/
def State.routingReady (s : State) : Bool := s.boot == .routing

/-! ### Table-aperture bytes -/

def State.aperWord (s : State) (a : Nat) : Word := word (leNat (memRead s.aper a 4))
def State.setAper (s : State) (a : Nat) (bs : List Byte) : State := { s with aper := memWrite s.aper a bs }
def State.setAperWord (s : State) (a : Nat) (w : Word) : State := s.setAper a (leBytes 4 w.toNat)

/-- A field of the table entry at aperture address `a`. -/
def State.eget (s : State) (a : Nat) (f : EFld) : Nat := getField (s.aperWord (a + 4 * f.word)) f.hi f.lo
def State.eIs (s : State) (a : Nat) (f : EFld) : Bool := s.eget a f == 1
def State.eset (s : State) (a : Nat) (f : EFld) (n : Nat) : State :=
  let w := a + 4 * f.word
  s.setAperWord w (setField (s.aperWord w) f.hi f.lo n)

/-! ### Raising an event (R499, R500) -/

/-- The pending bit of a source. -/
def pendFld (src : Nat) : Fld := ⟨EVC_PEND (src / 32), src % 32, src % 32⟩

/-- An MSI-X message of vector `v` of function `f` falls due (R500, R519). A masked vector sets its pending bit; with
the link neither in L0 nor in L1, or with PERST_N low, the message is dropped and counted. [DEDUCED, log entry 131] -/
def State.sendMsix (s : State) (f v : Nat) : State :=
  let st := s.fget HST_LINK_STATUS_state
  if s.perstLow || s.host.vioLow || (st != 2 && st != 3) then s.countSat (HST_CNT 14)
  else if getField (look (fun _ => 0) s.msix (256 * f + 4 * v + 3)) 0 0 = 1 then
    { s with msixPending := put (fun _ => false) s.msixPending (64 * f + v) true }
  else (s.fset HST_LINK_STATUS_state 2).emit (.msix f v)

/-- The pending bit and the interrupt routes of a raise (R499, R500). A source already pending offers itself to no
interrupt route again; the hrb and ost routes are levels that `State.hrbLow` and the pending bits show. -/
def State.pend (s : State) (src : Nat) : State :=
  let was := s.isSet (pendFld src)
  let s := s.fset (pendFld src) 1
  if s.isSet (EVC_SRC_enable src) && !was && s.isSet (EVC_SRC_host src) then
    s.sendMsix (s.fget (EVC_SRC_func src)) (s.fget (EVC_SRC_vec src))
  else s

/-! ### The journal ring (R502 to R506) -/

/-- Read indices of the enabled readers; Ostler's counts only while Ostler runs (R502). -/
def State.readers (s : State) : List Nat :=
  (if s.isSet EVC_JRNL_CTRL_host_en then [s.fget EVC_JRNL_RD_HOST_rd] else []) ++
  (if s.isSet EVC_JRNL_CTRL_ost_en && s.ostlerRuns then [s.fget EVC_JRNL_RD_OST_rd] else [])

/-- wr minus the lowest enabled rd, modulo 8,192 (R502). -/
def State.occupied (s : State) : Nat :=
  s.readers.foldl (fun m rd => max m ((s.fget EVC_JRNL_WR_wr + 8192 - rd) % 8192)) 0

def noRecord (_ : Nat) : Record := {}

/-- The records at or after the lowest enabled rd, oldest first. -/
def State.unread (s : State) : List Record :=
  let n := s.occupied
  (List.range n).map fun i => look noRecord s.journal ((s.fget EVC_JRNL_WR_wr + 8192 - n + i) % 4096)

/-- Unread class 0 records (R504, R508). -/
def State.class0Unread (s : State) : Nat := (s.unread.filter fun r => r.cls == 0).length

/-- A record stands at the write index, which moves on (R502, R505). -/
def State.ringWrite (s : State) (r : Record) : State :=
  let wr := s.fget EVC_JRNL_WR_wr
  { s.fset EVC_JRNL_WR_wr ((wr + 1) % 8192) with
    journal := put noRecord s.journal (wr % 4096) r
    journalHeld := min (s.journalHeld + 1) 4096 }

/-- A copy offered to the black box (R507): it takes the next black-box sequence number, staged or lost. -/
def State.boxOffer (s : State) (r : Record) : State :=
  let r := { r with seq := s.bbSeq % 2 ^ 32 }
  let s := { s with bbSeq := s.bbSeq + 1 }
  if s.bbStaged.length < 64 then { s with bbStaged := s.bbStaged ++ [r] }
  else (s.countSat EVC_BB_LOST).pend 1481

/-- A record formed by a source's occurrences is sent on to the ring and the black box (R500, R505, R507). The flag
says that ring occupancy has risen to EVC_JRNL_CTRL.high. -/
def State.sendRecord (s : State) (r : Record) : State × Bool :=
  let toRing := s.isSet (EVC_SRC_jrnl r.event)
  let toBox := r.cls == 0 || s.isSet (EVC_SRC_bb r.event)
  let before := s.occupied
  let s1 :=
    if !toRing then s
    else
      let r := { r with seq := s.journalSeq % 2 ^ 32 }
      let s := { s with journalSeq := s.journalSeq + 1 }
      let lost := !s.readers.isEmpty &&
        (decide (4096 ≤ before) || (r.cls != 0 && decide (3072 ≤ (s.unread.filter fun q => q.cls != 0).length)))
      if lost then (s.countSat (EVC_LOST r.cls)).pend 1480 else s.ringWrite r
  let high := s.fget EVC_JRNL_CTRL_high
  let rose := decide (before < high) && decide (high ≤ s1.occupied)
  (if toBox then s1.boxOffer r else s1, rose)

def noWindow (_ : Nat) : Window := {}
def State.window (s : State) (src : Nat) : Window := look noWindow s.windows src
def State.setWindow (s : State) (src : Nat) (w : Window) : State := { s with windows := put noWindow s.windows src w }

/-- The full record of an occurrence now (R506). -/
def State.fullRecord (s : State) (src : Nat) (payload : List Byte) : Record where
  cls := s.fget (EVC_SRC_class src)
  owner := s.fget (EVC_SRC_owner src)
  event := src
  time := s.timeNs (s.fget EVC_CFG_ts_domain)
  uptime := 4 * s.uptime
  payload := payload

/-- Class 0 sources coalesce (R504): from the moment that 1,024 class 0 records are unread, until fewer are and no class 0
window is open. -/
def State.class0Coalesce (s : State) : Bool :=
  let windowed := s.windows.any fun e => e.2.isOpen && s.fget (EVC_SRC_class e.1) == 0
  decide (1024 ≤ s.class0Unread) || (s.class0Coalescing && windowed)

/-- Raising an event source. `depth` bounds the events that a raise itself raises: CLASS0_COALESCE and JOURNAL_HIGH
form records in turn, JOURNAL_LOST and BB_LOST never do (R505). [DEDUCED, log entry 128] -/
def State.raiseTo : Nat → State → Nat → List Byte → State
  | 0, s, src, _ => s.pend src
  | depth + 1, s, src, payload =>
    if !sourcePresent s.variant src then s else
    let forms := s.isSet (EVC_SRC_jrnl src) || s.isSet (EVC_SRC_bb src)
    let s := s.pend src
    if !(s.isSet (EVC_SRC_enable src) && forms) then s else
    let w := s.window src
    if w.isOpen then
      let now := s.timeNs (s.fget EVC_CFG_ts_domain)
      s.setWindow src { w with
        hidden := w.hidden + 1, firstTime := if w.hidden = 0 then now else w.firstTime,
        lastTime := now, lastUptime := 4 * s.uptime }
    else
      let cls := s.fget (EVC_SRC_class src)
      let coalesce := s.class0Coalesce
      let begins := cls == 0 && coalesce && !s.class0Coalescing
      let r := s.sendRecord (s.fullRecord src payload)
      let s := { r.1 with class0Coalescing := if cls == 0 then coalesce else s.class0Coalescing }
      let s := if cls == 0 && !coalesce then s else s.setWindow src { isOpen := true }
      let s := if begins then s.raiseTo depth 1483 [] else s
      if r.2 then s.raiseTo depth 1482 [] else s

/-- Raising an event source with the payload its chapter states (R499, R506). -/
def State.raiseWith (s : State) (src : Nat) (payload : List Byte) : State := s.raiseTo 3 src payload

/-- Raising an event source without payload. [DEDUCED, log entry 93] -/
def State.raise (s : State) (src : Nat) : State := s.raiseWith src []

/-! ### Counters with a half bit (R178) -/

/-- A counter register counts `n`, wrapping at 2^32. When its bit 31 becomes set, its half bit is set and the block's
CNT_HALF event is raised. -/
def State.countHalf (s : State) (cnt : Nat) (half : Fld) (event n : Nat) : State :=
  let old := (s.reg cnt).toNat
  let new := (old + n) % 2 ^ 32
  let s := s.setReg cnt (word new)
  if old < 2 ^ 31 ∧ 2 ^ 31 ≤ new then (s.fset half 1).raise event else s

/-- An ignored register or table write is counted and logged (R409). `space` is 0 for the register map and 1 for the
table aperture; `index` is as R416 states. [DEDUCED, log entry 108] -/
def State.rejectWrite (s : State) (r : Requester) (space index : Nat) : State :=
  match s.ownerOf r with
  | none => s
  | some o =>
    let s := s.countSat SCL_REJECT_COUNT
    if s.isSet SCL_REJECT_LOG_valid then s
    else
      (s.fsets [(SCL_REJECT_LOG_valid, 1), (SCL_REJECT_LOG_owner, o), (SCL_REJECT_LOG_space, space),
        (SCL_REJECT_LOG_index, index)]).raise 1447

/-! ### Register writes under owner rules -/

/-- A write to a register of an absent unit: ignored and counted (R8, R9). [DEDUCED, log entry 110] -/
def State.absentWrite (s : State) : State := s.fcount ⟨GLB_ABSENT_WRITES, 15, 0⟩

/-- The owner of a logical port (R407). -/
def State.portOwnerOf (s : State) (p : Nat) : Nat := look (fun _ => 0) s.portOwner p

/-- A register write accepted from owner 0 and owner `o`, otherwise ignored and counted (R408, R409).
[DEDUCED, log entry 108] -/
def State.ownedWrite (s : State) (r : Requester) (o addr : Nat) (f : State → State) : State :=
  if s.mayUse r o then f s else s.rejectWrite r 0 (addr / 4)

/-- A register write accepted from owner 0 and the owner bound to PF0. [DEDUCED, log entry 109] -/
def State.privWrite (s : State) (r : Requester) (addr : Nat) (f : State → State) : State :=
  if s.privileged r then f s else s.rejectWrite r 0 (addr / 4)

/-- A write to a register of lane n: R9 for an absent lane, R408 for the owner. -/
def State.laneWrite (s : State) (r : Requester) (n addr : Nat) (f : State → State) : State :=
  if !lanePresent s.variant n then s.absentWrite
  else s.ownedWrite r (s.portOwnerOf (16 + n)) addr f

/-! ### Hobble limits (R483, R486) -/

/-- A Hobble field of `n` bytes at `off` in one copy; 0 takes the least restrictive value `z`. -/
def hobCopy (m : List (Nat × Byte)) (off n z : Nat) : Nat :=
  let v := leNat (memRead m off n)
  if v = 0 then z else v

/-- A limit whose lower value is the stricter. -/
def State.hobLow (s : State) (off n z : Nat) : Nat := min (hobCopy s.hobA off n z) (hobCopy s.hobB off n z)

/-- A limit whose higher value is the stricter. -/
def State.hobHigh (s : State) (off n z : Nat) : Nat := max (hobCopy s.hobA off n z) (hobCopy s.hobB off n z)

/-- The Port Plan speed of port n in Mb/s, 10,000 for a disabled port (R43, R483). -/
def State.portSpeed (s : State) (n : Nat) : Nat :=
  match s.fget (EMAC_CFG_speed n) with
  | 1 => 100
  | 2 => 1000
  | 3 => 2500
  | 4 => 5000
  | _ => 10000

/-- What a logical port's credit gains in one tick and its full value (R484, R485). -/
def State.creditRate (s : State) (p : Nat) : Nat × Nat :=
  if p < 16 then
    (s.hobLow (0x300 + 16 * p) 2 (s.portSpeed p), s.hobLow (0x302 + 16 * p) 2 1024 * 1024 * 2000)
  else
    (s.hobLow (16 * (p - 16)) 2 1024, s.hobLow (16 * (p - 16) + 2) 2 10000 * 100000 * 256)

/-- The credit of a logical port now: refilled since it was last noted and capped at full. -/
def State.creditNow (s : State) (p : Nat) : Int :=
  let c := look (fun _ => ((0 : Int), 0)) s.credit p
  let r := s.creditRate p
  min (r.2 : Int) (c.1 + ((s.uptime - c.2) * r.1 : Nat))

/-- The budget of a logical port is exhausted (R484, R485). -/
def State.budgetOut (s : State) (p : Nat) : Bool := decide (s.creditNow p ≤ 0)

/-- A logical port's credit is charged: nanoseconds of bus time for a lane, bytes on the wire for a port. -/
def State.charge (s : State) (p amount : Nat) : State :=
  let unit := if p < 16 then 2000 else 256
  { s with credit := put (fun _ => ((0 : Int), 0)) s.credit p (s.creditNow p - (amount * unit : Nat), s.uptime) }

/-- A logical port's credit is full, as at the cinch. -/
def State.fillCredit (s : State) (p : Nat) : State :=
  { s with credit := put (fun _ => ((0 : Int), 0)) s.credit p (((s.creditRate p).2 : Int), s.uptime) }

end Sys2Proof.Machine
end

