-- ==== Sys2Proof/Machine/Outputs.lean ====
section
/-!
DEFINITION. The power stage of the load outputs (R446 to R457): what an output is commanded to do, what holds it off,
and how it turns on and off. Every command that moves one of those causes ends in `State.outRefresh`.
-/

namespace Sys2Proof.Machine

/-- A field of the Wake Plan in force (R439). -/
def State.plan (s : State) (off n : Nat) : Nat := leAt s.wakePlan off n

def noOut (_ : Nat) : Out := {}
def State.outp (s : State) (j : Nat) : Out := look noOut s.outs j
def State.setOut (s : State) (j : Nat) (o : Out) : State := { s with outs := put noOut s.outs j o }

/-- The output whose record carries the commands: the even one of an H-bridge pair (R446). -/
def State.outLead (s : State) (j : Nat) : Nat := if s.fget (PWR_OUT_CFG_mode j) = 4 then j / 2 * 2 else j

/-- The duty that output j is commanded to take (R448). -/
def State.outDuty (s : State) (j : Nat) : Nat :=
  let e := s.outLead j
  if s.fget (PWR_OUT_CFG_source e) = 0 then s.fget (PWR_OUT_CMD_duty e) else (s.outp e).srcDuty

/-- The commanded direction: a slot gives an H-bridge its own from the next PWM period on (R448, R449, R462). -/
def State.outDir (s : State) (j : Nat) : Nat :=
  let e := s.outLead j
  if s.fget (PWR_OUT_CFG_source e) = 2 && s.fget (PWR_OUT_CFG_mode e) = 4 then (s.outp e).cmdDir
  else s.fget (PWR_OUT_CMD_dir e)

/-- The commanded state of output j is on: a Trace channel with a duty, which a PWM output takes at the start of a period
(R447), and a half-bridge that leaves high impedance. -/
def State.outWants (s : State) (j : Nat) : Bool :=
  match s.fget (PWR_OUT_CFG_mode j) with
  | 1 => s.outDuty j != 0
  | 2 => (s.outp j).cmdDuty != 0
  | 3 => s.outDir j == 1 || s.outDir j == 2
  | 4 => s.outDir j != 0
  | _ => false

/-- A cause of R456 holds output j off, beside trips and off-times. -/
def State.outHeld (s : State) (_j : Nat) : Bool :=
  !s.pdieOn || !s.cinched || s.fget GLB_IMAGE_STATUS_hash != 1 || s.pwk.downStep != 0 ||
  (s.fget PWK_STATE_state == 1 && !bitOf (s.plan 0x0C 1) 0) || s.isSet PWR_STATUS_plk_lost

/-- A shed is recorded: the output stays latched off (R454). -/
def State.outShed (s : State) (j : Nat) : Bool := s.isSet (PWR_OUT_FAULT_shed_group j) || s.isSet (PWR_OUT_FAULT_shed_pkg j)

/-- The output turns off, and its minimum off-time begins (R452). -/
def State.outOff (s : State) (j : Nat) : State :=
  let o := s.outp j
  if o.on then s.setOut j { o with on := false, minOff := true, dirNow := 0, drive := 0, pullup := false } else s

/-- duty_now and state of PWR_OUT_STATUS (R471). -/
def State.outShow (s : State) (j : Nat) : State :=
  let o := s.outp j
  let st :=
    if o.on then 1
    else if o.latched then 4
    else if o.tripped then 3
    else if s.outHeld j then 5
    else if o.minOff then 2
    else 0
  s.fsets [(PWR_OUT_STATUS_state j, st),
    (PWR_OUT_STATUS_duty_now j, if o.on then s.fget (PWR_OUT_STATUS_duty_now j) else 0)]

/-- A minimum off-time holds output j off: its own, or in an H-bridge that of either half (R449, R452). -/
def State.offTime (s : State) (j : Nat) : Bool :=
  if s.fget (PWR_OUT_CFG_mode j) = 4 then (s.outp (j / 2 * 2)).minOff || (s.outp (j / 2 * 2 + 1)).minOff else (s.outp j).minOff

/-- Output j follows its commanded state as far as nothing holds it off (R456). While PLK is down the power die takes no
commands (R21). -/
def State.outRefresh (s : State) (j : Nat) : State :=
  let blocked := s.outHeld j || (s.outp j).tripped || (s.outp j).latched
  if !outputPresent s.variant j || ((s.link 17).down && !blocked) then s else
  let want := s.outWants j && !blocked
  let dir := if s.fget (PWR_OUT_CFG_mode j) = 3 || s.fget (PWR_OUT_CFG_mode j) = 4 then s.outDir j else 0
  let s := if (s.outp j).on && !want then s.outOff j else s
  let o := s.outp j
  let s :=
    if want && !o.on && !s.offTime j then s.setOut j { o with on := true, dirNow := dir } else s
  let o := s.outp j
  -- a change between forward and reverse passes through coast for the minimum off-time (R449)
  let reversal := o.on && s.fget (PWR_OUT_CFG_mode j) == 4 &&
    ((o.dirNow == 1 && dir == 2) || (o.dirNow == 2 && dir == 1))
  let s :=
    if reversal then s.outOff j
    else if o.on then s.setOut j { o with dirNow := dir }
    else s
  -- a switch takes its duty at once, a PWM output at its next period (R446, R447)
  let s :=
    if (s.outp j).on && s.fget (PWR_OUT_CFG_mode j) = 1 then
      (s.setOut j { s.outp j with drive := 65536 }).fset (PWR_OUT_STATUS_duty_now j) (s.outDuty j)
    else s
  s.outShow j

/-- Every output follows its commanded state. -/
def State.outsRefresh (s : State) : State := (List.range 20).foldl (fun t j => t.outRefresh j) s

/-- The value of the slot that output j reads (R448): clamped, and for an H-bridge its sign the direction. A stale slot
gives safe_duty, and an H-bridge coasts. -/
def State.slotDuty (s : State) (j value : Nat) (stale : Bool) : State :=
  let v := signed 64 value
  let o := s.outp j
  let safe := s.fget (PWR_OUT_DIAG_safe_duty j)
  let s :=
    if s.fget (PWR_OUT_CFG_mode j) = 4 then
      s.setOut j { o with
        srcDuty := if stale then safe else min v.natAbs 65535
        srcDir := if stale || v == 0 then 0 else if 0 < v then 1 else 2 }
    else s.setOut j { o with srcDuty := if stale then safe else (min (max v 0) 65535).toNat }
  if s.fget (PWR_OUT_CFG_mode j) = 1 then s.outRefresh j else s

/-- The effective energy limit in 10^-11 A²s: the class's, or the Hobble limit where that is lower (R450). -/
def State.outLimit (s : State) (j : Nat) : Nat × Bool :=
  let cls := 4 ^ (s.fget (PWR_OUT_CFG_fuse_class j) + 1) * 100000000000
  let hob := s.hobLow (0x410 + 32 * j) 2 (if j < 16 then 6400 else 1600) * 1000000000
  (min cls hob, decide (hob < cls))

/-- A trip (R453): the cause bit is set, the output turns off, and it awaits a retry or latches.
[DEDUCED, log entry 119] -/
def State.outTrip (s : State) (j : Nat) (cause : Fld) : State :=
  let s := ((s.fset cause 1).outOff j).countSat (PWR_CNT 0)
  let o := s.outp j
  let retries := s.fget (PWR_OUT_CFG_retry j)
  let recent := match o.retryTick with
    | some t => decide (s.ticks - t ≤ 250000000)
    | none => false
  let used := if recent then o.used + 1 else o.used
  let latch := retries = 0 || retries ≤ used
  let s := s.setOut j { o with used := used, tripped := !latch, latched := o.latched || latch }
  (s.outShow j).raise (1280 + 4 * j)

end Sys2Proof.Machine
end

