-- ==== Sys2Proof/Machine/Fabric.lean ====
section
/-!
DEFINITION. Frames on their way into the fabric: the lane header (R129, R320), the fields of an Ethernet frame, and
the frames that wait at each fabric port for its forwarding pipeline (R28, R31).
-/

namespace Sys2Proof.Machine

/-- Words 0 to 2 of a receive descriptor (R129). -/
def descWord0 (f : LaneFrame) : Nat := b2n f.rtr * 2 ^ 30 + b2n f.ide * 2 ^ 29 + f.id % 2 ^ 29
def descWord1 (f : LaneFrame) : Nat :=
  f.vcid % 256 * 2 ^ 24 + f.sdt % 256 * 2 ^ 16 + b2n f.esi * 2 ^ 15 + b2n f.brs * 2 ^ 14 + f.format % 4 * 2 ^ 12 +
    f.data.length % 4096

/-- The frame that three descriptor words and a payload spell. -/
def frameOfWords (w0 w1 w2 : Nat) (payload : List Byte) : LaneFrame where
  rtr := bitOf w0 30
  ide := bitOf w0 29
  id := bitsOf w0 28 0
  vcid := bitsOf w1 31 24
  sdt := bitsOf w1 23 16
  esi := bitOf w1 15
  brs := bitOf w1 14
  format := bitsOf w1 13 12
  af := w2 % 2 ^ 32
  data := slice payload 0 (bitsOf w1 11 0)

/-- A lane frame as the fabric carries it: the 16-byte lane header, whose word 3 is the low half of the receive
timestamp or 0, and the data bytes (R320). -/
def laneBytes (f : LaneFrame) (ts : Nat) : List Byte :=
  leBytes 4 (descWord0 f) ++ leBytes 4 (descWord1 f) ++ leBytes 4 f.af ++ leBytes 4 ts ++ f.data

/-- The lane frame that the fabric's bytes spell. -/
def laneOfBytes (bs : List Byte) : LaneFrame := frameOfWords (leAt bs 0 4) (leAt bs 4 4) (leAt bs 8 4) (bs.drop 16)

/-- Data lengths that a format allows on a bus (R129, R136). -/
def fdLength (n : Nat) : Bool := n ≤ 8 || n == 12 || n == 16 || n == 20 || n == 24 || n == 32 || n == 48 || n == 64

/-- The offset of the EtherType after any C-tag, and whether one is there (R186, R349). -/
def ctagged (bs : List Byte) : Bool := beAt bs 12 2 == 0x8100
def etherOffset (bs : List Byte) : Nat := if ctagged bs then 16 else 12
/-- The offset of the EtherType after the tags of `tags`, each with its length, that stand from `o` on: at most as many as given. -/
def tagsEnd (tags : List (Nat × Nat)) (bs : List Byte) : Nat → Nat → Nat
  | 0, o => o
  | k + 1, o =>
    match tags.find? fun t => t.1 == beAt bs o 2 with
    | some t => tagsEnd tags bs k (o + t.2)
    | none => o

/-- The EtherType after any VLAN tag, an S-tag or a C-tag (R125). -/
def vlanType (bs : List Byte) : Nat := beAt bs (tagsEnd [(0x8100, 4), (0x88A8, 4)] bs 8 12) 2
def etherType (bs : List Byte) : Nat := beAt bs (etherOffset bs) 2

def State.offeredTo (s : State) (f : Nat) : List Frame := look noFrames s.offered f
def State.setOffered (s : State) (f : Nat) (l : List Frame) : State := { s with offered := put noFrames s.offered f l }

/-- A frame is presented to the pipeline of fabric port f. -/
def State.offer (s : State) (f : Nat) (fr : Frame) : State := s.setOffered f (s.offeredTo f ++ [fr])

/-! ### Endpoints (R168 to R170) -/

/-- An endpoint's perfect-match table holds an address; the queue of its lowest entry (R168). Endpoint 0 is H0, 1 H1, 2 the
Ostler's. [DEDUCED, log entry 134] -/
def State.epMatch (s : State) (e mac : Nat) : Option Nat :=
  ((List.range 16).find? fun i =>
    s.isSet (HST_EP_ADDR_en e i) && s.fget (HST_EP_ADDR_mac_hi e i) * 2 ^ 32 + s.fget (HST_EP_ADDR_mac_lo e i) == mac).map
    fun i => s.fget (HST_EP_ADDR_queue e i)

/-- A frame that an endpoint sends passes R169. -/
def State.epMaySend (s : State) (e : Nat) (bs : List Byte) : Bool :=
  !s.isSet (HST_EP_CTRL_sa_check e) || (s.epMatch e (beAt bs 6 6)).isSome

/-- A frame that privileged endpoint e sends enters the fabric, or is dropped there and counted (R169). -/
def State.epOffer (s : State) (e : Nat) (f : Frame) : State :=
  if s.epMaySend e f.bytes then s.offer (if e = 2 then 25 else 22 + e) f else s.countSat (HST_EP_REJECT e)

/-! ### What the gateway counts (R308, R330) -/

/-- A gateway counter with its half bit (R330). -/
def State.gwCount (s : State) (i n : Nat) : State := s.countHalf (SIG_GW_CNT i) ⟨SIG_GW_CNT_HALF, i, i⟩ 1446 n

/-- A discard for format (R308, R326). [DEDUCED, log entry 38] -/
def State.fmtDiscard (s : State) : State := (s.gwCount 13 1).raise 1442

/-- SIG_GW_MAC as six octets (R332). -/
def State.gwMac (s : State) : List Byte := beBytes 2 (s.fget SIG_GW_MAC_HI_mac_hi) ++ beBytes 4 (s.fget SIG_GW_MAC_LO_mac_lo)

end Sys2Proof.Machine
end

