-- ==== Sys2Proof/Machine/Lane.lean ====
section
/-!
DEFINITION. Tack lanes (R93 to R115): faults and their recovery, the termination switch, the transceiver's status and
its enable, loopback and fault-clear writes.
-/

namespace Sys2Proof.Machine

/-- Bits of LANE_PHY_FAULT that hold the transmitter off (R104): ovp_a, ovp_b, cm_range, dom_timeout, thermal. -/
def holdsTx (cond : Nat) : Bool := bitOf cond 0 || bitOf cond 1 || bitOf cond 2 || bitOf cond 3 || bitOf cond 4

/-- The event k of a fault bit (R104, R115). -/
def faultEvent (bit : Nat) : Nat := if bit = 4 then 1 else if bit = 3 then 2 else 0

/-- The number with bit `i` set or cleared. -/
def withBit (v i : Nat) (b : Bool) : Nat := if bitOf v i == b then v else if b then v + 2 ^ i else v - 2 ^ i

def State.laneKind (s : State) (n : Nat) : Nat := s.fget (LANE_PHY_CFG_kind n)
def State.laneEnabled (s : State) (n : Nat) : Bool := s.isSet (LANE_PHY_CTRL_enable n)

/-- The lane is powered, of a kind other than 0, and enabled, and LLK carries its bits (R20). -/
def State.laneLive (s : State) (n : Nat) : Bool :=
  lanePresent s.variant n && s.lanePowered n && s.laneKind n != 0 && s.laneEnabled n && !(s.link 16).down

/-- The transmitter of lane n is held off by a fault (R104, R105). -/
def State.laneHeld (s : State) (n : Nat) : Bool := holdsTx (s.lane n).cond

/-- Lane n's transceiver is powered and reached over LLK; while LLK is down, the lane behaves as if disabled (R20).
[DEDUCED, log entry 152] -/
def State.laneReached (s : State) (n : Nat) : Bool := s.lanePowered n && !(s.link 16).down

/-- tx_mode of LANE_PHY_STATUS outside a fast phase (R20, R96, R112). -/
def State.laneTxMode (s : State) (n : Nat) : Nat :=
  if !s.laneEnabled n || !s.laneReached n || s.laneKind n == 0 || s.laneHeld n then 0
  else if s.laneKind n != 1 then 1
  else if s.isSet (LANE_PHY_CFG_sic n) || s.isSet (LANE_PHY_CFG_fast n) then 2
  else 1

/-- LANE_PHY_STATUS follows the lane's faults, termination and mode (R112). -/
def State.laneRefresh (s : State) (n : Nat) : State :=
  s.fsets [(LANE_PHY_STATUS_tx_inhibit n, b2n (s.laneHeld n)),
    (LANE_PHY_STATUS_term_open_ovp n, b2n (s.lane n).termOpen),
    (LANE_PHY_STATUS_tx_mode n, s.laneTxMode n),
    (LANE_PHY_STATUS_bus_dominant n, b2n (s.lane n).busDominant)]

/-- A detection: the fault bit sets, the event is raised and the count rises (R104). [DESIGN CHOICE, log entry 39] -/
def State.laneDetect (s : State) (n bit : Nat) : State :=
  ((s.fset ⟨LANE_PHY_FAULT n, bit, bit⟩ 1).fcount (LANE_PHY_FAULT_CNT_count n)).raise (12 * n + faultEvent bit)

/-- A fault condition begins on a powered lane: it is detected and its action taken. -/
def State.laneFault (s : State) (n bit : Nat) : State :=
  let l := s.lane n
  let s := s.setLane n { l with cond := withBit l.cond bit true }
  (s.laneDetect n bit).laneRefresh n

/-- LANE_PHY_CFG is in force on lane n (R101): it is powered, and the cinch has written the register.
[DESIGN CHOICE, log entry 144] -/
def State.cfgInForce (s : State) (n : Nat) : Bool := s.lanePowered n && s.cinched

/-- The kind whose over-voltage window is in force (R101, R102): LANE_PHY_CFG's, else the always-on copy's. Between a verdict
that fails and the fallback's cinch, that is the copy made at the last release. [DESIGN CHOICE, log entry 144] -/
def State.windowKind (s : State) (n : Nat) : Nat := if s.cfgInForce n then s.laneKind n else (s.lane n).aonKind

/-- The termination code that the switch of lane n has now (R100 to R102): open for an over-voltage, else LANE_PHY_CFG's or the
always-on copy's. -/
def State.termNow (s : State) (n : Nat) : Nat :=
  if (s.lane n).termOpen then 0
  else if s.cfgInForce n then s.fget (LANE_PHY_CFG_term n)
  else (s.lane n).aonTerm

/-- The commander's 1 kΩ pull-up of lane n is connected (R98, R101, R102, R104): never on an unpowered lane; from power-up until
LANE_PHY_CFG is in force it follows the always-on copy. -/
def State.pullupNow (s : State) (n : Nat) : Bool :=
  s.lanePowered n && s.windowKind n == 2 && !(s.lane n).termOpen && !(s.lane n).pullupOpen &&
    (if s.cfgInForce n then s.isSet (LANE_PHY_CFG_lin_pullup n) else (s.lane n).aonPullup)

/-- OVER_VOLTAGE (R102): pin A or B outside the window for 1 µs. The termination opens in every power state; the fault is
detected where the lane is powered. One that began before the lane was powered holds the transmitter off from power-up and is no
new detection. [DESIGN CHOICE, log entry 145] -/
def execOverVoltage (n : Nat) (pinB : Bool) (s : State) : Host.Outcome State Fault Refusal :=
  if !lanePresent s.variant n || s.windowKind n == 0 then .next s
  else
    let s := s.setLane n { s.lane n with termOpen := true }
    if s.lanePowered n then .next (s.laneFault n (if pinB then 1 else 0))
    else
      let l := s.lane n
      .next (s.setLane n { l with cond := withBit l.cond (if pinB then 1 else 0) true })

/-- TERMINATION_RECLOSE (R102): both pins inside the window for 1.0 ms. -/
def execTerminationReclose (n : Nat) (s : State) : Host.Outcome State Fault Refusal :=
  let l := s.lane n
  let s := s.setLane n { l with termOpen := false, cond := withBit (withBit l.cond 0 false) 1 false }
  .next (if s.lanePowered n then s.laneRefresh n else s)

/-- CM_RANGE (R104): a CAN or T1S lane's common mode leaves ±12 V for 4 µs. -/
def execCmRange (n : Nat) (s : State) : Host.Outcome State Fault Refusal :=
  if lanePresent s.variant n && s.lanePowered n && (s.laneKind n == 1 || s.laneKind n == 4) then .next (s.laneFault n 2)
  else .next s

/-- STUCK_DOMINANT (R104): the bus stays dominant too long while the lane's own transmitter is recessive. -/
def execStuckDominant (n : Nat) (s : State) : Host.Outcome State Fault Refusal :=
  if lanePresent s.variant n && s.lanePowered n && s.laneKind n != 0 then
    .next ((s.setLane n { s.lane n with busDominant := true }).laneFault n 5)
  else .next s

/-- LIN_PULLUP_SHORT (R104): the commander's 1 kΩ pull-up opens, the 30 kΩ one stays. -/
def execLinPullupShort (n : Nat) (s : State) : Host.Outcome State Fault Refusal :=
  if lanePresent s.variant n && s.pullupNow n then
    .next ((s.setLane n { s.lane n with pullupOpen := true }).laneFault n 6)
  else .next s

/-- LANE_THERMAL (R104): the lane junction reaches 170 °C. -/
def execLaneThermal (n : Nat) (s : State) : Host.Outcome State Fault Refusal :=
  if lanePresent s.variant n && s.lanePowered n && s.laneKind n != 0 then .next (s.laneFault n 4) else .next s

/-- DOM_TIMEOUT (R104): the transmitter stays dominant beyond the Hobble maximum and is forced recessive. -/
def execDomTimeout (n : Nat) (s : State) : Host.Outcome State Fault Refusal :=
  if s.laneLive n && !s.laneHeld n then .next (s.laneFault n 3) else .next s

/-- LANE_FAULT_RECOVERY (R104, R105): the recovery condition of fault bit `bit` is met. Over-voltage recovers with
TERMINATION_RECLOSE; the transmitter is released once no fault holds it. [DESIGN CHOICE, log entry 39] -/
def execLaneFaultRecovery (n bit : Nat) (s : State) : Host.Outcome State Fault Refusal :=
  if bit < 2 || 6 < bit || !lanePresent s.variant n then .next s
  else
    let l := s.lane n
    let s := s.setLane n { l with
      cond := withBit l.cond bit false
      pullupOpen := if bit = 6 then false else l.pullupOpen
      busDominant := if bit = 5 then false else l.busDominant }
    .next (if s.lanePowered n then s.laneRefresh n else s)

/-- Fault bits written 1: a bit whose condition persists clears and sets again as a detection (R113). -/
def State.clearFaults (s : State) (n : Nat) (v : Word) : State :=
  (List.range 7).foldl (fun t bit =>
    if !bitOf v.toNat bit || getField (t.reg (LANE_PHY_FAULT n)) bit bit = 0 then t
    else
      let t := t.fset ⟨LANE_PHY_FAULT n, bit, bit⟩ 0
      if bitOf (t.lane n).cond bit then t.laneDetect n bit else t) s

/-- LANE_PHY_FAULT_CLEAR (R113): a W1C write. -/
def execLanePhyFaultClear (r : Requester) (n : Nat) (v : Word) (s : State) : Host.Outcome State Fault Refusal :=
  if !s.coreOn then .next s else .next (s.laneWrite r n (LANE_PHY_FAULT n) fun s => s.clearFaults n v)

/-! ### Transmit buffers of a lane (R128, R136, R138) -/

def laneBuf (n : Nat) : Nat := 0x10600000 + 0x4000 * n
def txDataAt (n k : Nat) : Nat := laneBuf n + 0x2800 + 0x200 * k

/-- Now in the lane's timestamp domain, less the age of the named instant. -/
def State.laneTime (s : State) (n age : Nat) : Nat := s.timeNs (s.fget (LANE_CTRL_ts_domain n)) - age

/-- Descriptor word i of a buffer. -/
def State.tbDesc (s : State) (n k i : Nat) : Nat := (s.reg (LANE_TB_DESC n k + 4 * i)).toNat
def State.tbLength (s : State) (n k : Nat) : Nat := bitsOf (s.tbDesc n k 1) 11 0
/-- The frame that buffer TBk holds. -/
def State.tbFrame (s : State) (n k : Nat) : LaneFrame :=
  frameOfWords (s.tbDesc n k 0) (s.tbDesc n k 1) (s.tbDesc n k 2) (memRead s.aper (txDataAt n k) (s.tbLength n k))

/-- The buffers of the frame at k are released; a software buffer takes a result (R136, R138). -/
def State.tbRelease (s : State) (n k result : Nat) : State :=
  let span := min (s.tx n k).span (8 - k)
  let s := (List.range span).foldl
    (fun t i => (t.fset (LANE_TB_CTRL_pending n (k + i)) 0).setTx n (k + i) {}) s
  let s := s.fset (LANE_TB_CTRL_abort n k) 0
  let l := s.lane n
  let s := s.setLane n { l with
    onBus := if l.onBus = some k then none else l.onBus
    budgetHold := if l.budgetHold = some k then none else l.budgetHold }
  if k < 4 then s
  else
    let s := s.fset (LANE_TB_CTRL_result n k) result
    if s.isSet (LANE_TB_CTRL_irq n k) then s.raise (12 * n + 10) else s

/-- The transmit timestamp is written into words 4 and 5 of the descriptor (R138, R151). -/
def State.txStamp (s : State) (n k ts : Nat) : State :=
  (s.setReg (LANE_TB_DESC n k + 16) (word ts)).setReg (LANE_TB_DESC n k + 20) (word (ts / 2 ^ 32))

/-- The loop delay measured in an attempt with a data phase, at most 16 LANECLK cycles and otherwise open (R97, R120). An attempt
that did not end `whole` may have ended before the measurement. [DEDUCED, log entry 34; DEDUCED, log entry 153] -/
def State.loopDelay (s : State) (n : Nat) (f : LaneFrame) (whole : Bool) : State :=
  if s.isSet (LANE_TDC_tdc_en n) && (f.format == 2 || (f.format == 1 && f.brs)) then
    let v := s.free % (if whole then 17 else 18)
    (if v = 17 then s else s.fset (LANE_TDC_tdc_meas n) v).drew 1
  else s

/-- The pending frames of the fabric group are discarded, each counted in tx_discard (R141). -/
def State.discardFabric (s : State) (n : Nat) : State :=
  (List.range 4).foldl (fun t k =>
    if t.isSet (LANE_TB_CTRL_pending n k) then
      let counts := !(t.tx n k).cont
      let t := (t.fset (LANE_TB_CTRL_pending n k) 0).setTx n k {}
      if counts then t.countSat (LANE_CNT n 9) else t
    else t) s

/-- An attempt of the transmitter of lane n is cut without an error (R111): the credit is charged the bus time that it had (R484),
and an abort requested meanwhile takes effect (R138). [DEDUCED, log entry 153] -/
def State.laneCut (s : State) (n : Nat) : State :=
  let l := s.lane n
  let ns := 4 * (s.uptime - l.started)
  let busy := l.onBus.isSome || (l.linId.isSome && l.linDir == 2)
  let s := if busy then s.charge (16 + n) ns else s
  let s := s.setLane n { l with onBus := none, budgetHold := none, linId := none, linDir := 0, fastNow := false }
  match l.onBus with
  | some k =>
    let s := s.loopDelay n (s.tbFrame n k) false
    if 4 ≤ k && k < 8 && s.isSet (LANE_TB_CTRL_abort n k) then (s.txStamp n k (s.laneTime n ns)).tbRelease n k 2 else s
  | none => s

/-- Lane n has become disabled, or behaves as if (R20, R111, R141): the frame on the bus is cut without an error, a software buffer
stays pending and fabric-group frames are discarded. [DEDUCED, log entry 152] -/
def State.laneDark (s : State) (n : Nat) : State := ((s.laneCut n).discardFabric n).laneRefresh n

/-- LANE_PHY_CTRL.enable cleared (R111). -/
def State.laneDisable (s : State) (n : Nat) : State := (s.fset (LANE_PHY_CTRL_enable n) 0).laneDark n

/-- LANE_DISABLE (R111). -/
def execLaneDisable (r : Requester) (n : Nat) (s : State) : Host.Outcome State Fault Refusal :=
  if !s.coreOn then .next s else .next (s.laneWrite r n (LANE_PHY_CTRL n) fun s => if s.laneEnabled n then s.laneDisable n else s)

/-- LANE_ERR.state takes a value; a change raises ERR_STATE (R124). -/
def State.setErrState (s : State) (n st : Nat) : State :=
  if s.fget (LANE_ERR_state n) = st then s else (s.fset (LANE_ERR_state n) st).raise (12 * n + 11)

/-- The lane becomes integrated (R75): INTEGRATED is raised, the wake detector stops watching (R106), and the
controller leaves state 0 for the state its error counters give. -/
def State.integrate (s : State) (n : Nat) : State :=
  let s := s.setLane n { s.lane n with watching := 0, waiting := false }
  let s := (s.fset (LANE_PHY_STATUS_integrated n) 1).raise (12 * n + 3)
  if s.fget (LANE_ERR_state n) = 3 then s
  else
    let passive := s.laneKind n == 1 &&
      (decide (128 ≤ s.fget (LANE_ERR_tec n)) || decide (128 ≤ s.fget (LANE_ERR_rec n)))
    s.setErrState n (if passive then 2 else 1)

/-- LANE_PHY_CTRL.enable set (R75, R111): integration starts, on a lane unpowered in Paddock or cut off with LLK once it is
reached. The T1S coordinator integrates at once. The bus-off state persists (R124). -/
def State.laneEnable (s : State) (n : Nat) : State :=
  let s := (s.fset (LANE_PHY_CTRL_enable n) 1).fset (LANE_PHY_STATUS_integrated n) 0
  if !s.laneReached n then s else
  let s := s.setLane n { s.lane n with waiting := false, linId := none }
  let s := if s.fget (LANE_ERR_state n) = 3 then s else s.setErrState n 0
  let s := s.laneRefresh n
  if s.laneKind n == 4 && s.fget (LANE_T1S_PLCA_node_id n) == 0 then s.integrate n else s

/-- LANE_REENABLE (R111). A lane of kind 0 stays disabled. [DESIGN CHOICE, log entry 142] -/
def execLaneReenable (r : Requester) (n : Nat) (s : State) : Host.Outcome State Fault Refusal :=
  if !s.coreOn then .next s else .next (s.laneWrite r n (LANE_PHY_CTRL n) fun s =>
    if s.laneEnabled n || s.laneKind n == 0 then s else s.laneEnable n)

/-- LANE_LOOPBACK (R111): int_loopback set; the pins are held as for a disabled lane. -/
def execLaneLoopback (r : Requester) (n : Nat) (s : State) : Host.Outcome State Fault Refusal :=
  if !s.coreOn then .next s
  else .next (s.laneWrite r n (LANE_PHY_CTRL n) fun s => s.fset (LANE_PHY_CTRL_int_loopback n) 1)

/-- LANE_INTEGRATED (R75). -/
def execLaneIntegrated (n : Nat) (s : State) : Host.Outcome State Fault Refusal :=
  if s.laneLive n && !s.isSet (LANE_PHY_STATUS_integrated n) then .next (s.integrate n) else .next s

/-- LOW_POWER_BIAS_ACTIVE (R548): bus activity on an unpowered CAN lane with an armed detector. -/
def execLowPowerBiasActive (n : Nat) (s : State) : Host.Outcome State Fault Refusal :=
  let l := s.lane n
  if lanePresent s.variant n && l.watching != 0 && l.aonKind == 1 then .next (s.setLane n { l with biasOn := true })
  else .next s

/-- LOW_POWER_BIAS_IDLE (R548): 1 s of bus idle. -/
def execLowPowerBiasIdle (n : Nat) (s : State) : Host.Outcome State Fault Refusal :=
  let l := s.lane n
  if lanePresent s.variant n && l.watching != 0 && l.aonKind == 1 then .next (s.setLane n { l with biasOn := false })
  else .next s

/-- PN_OSCILLATOR_IDLE (R108): after 1 ms of bus idle the selective-wake decoder's oscillator stops. -/
def execPnOscillatorIdle (n : Nat) (s : State) : Host.Outcome State Fault Refusal :=
  .next (s.setLane n { s.lane n with pnOscillator := false })

end Sys2Proof.Machine
end

