-- ==== Sys2Proof/Machine/Ring.lean ====
section
/-!
DEFINITION. Requests for power and the consent ring (R421 to R439): the wake record, the WAKE line's assertion, on
requests and the abort of a power-down, readiness, and the messages of the ring.
-/

namespace Sys2Proof.Machine

/-! ### The Wake Plan (R439) -/

def State.wakeLineEn (s : State) : Bool := s.wakePlan.isEmpty || bitOf (s.plan 0x0D 1) 0
def State.ringEn (s : State) : Bool := bitOf (s.plan 0x0D 1) 1
def State.memberCount (s : State) : Nat := s.plan 0x24 1
def State.selfIndex (s : State) : Nat := s.plan 0x25 1
/-- The lane of ring member i, if it is a CAN member. -/
def State.memberLane (s : State) (i : Nat) : Option Nat :=
  let l := s.plan (0x40 + 24 * s.plan 0x23 1 + 4 * i + 1) 1
  if l = 0xFF then none else some l

/-- The wake target of a source (R421): from targets for codes 1 to 7, Gallop for code 8 and without a Wake Plan. -/
def State.targetOf (s : State) (code : Nat) : Nat :=
  if s.wakePlan.isEmpty then 3
  else
    match code with
    | 1 | 2 | 3 => bitsOf (s.plan 0x0E 2) 1 0
    | 4 => bitsOf (s.plan 0x0E 2) 3 2
    | 5 => bitsOf (s.plan 0x0E 2) 5 4
    | 6 => bitsOf (s.plan 0x0E 2) 7 6
    | 7 => bitsOf (s.plan 0x0E 2) 9 8
    | _ => 3

/-- ACLK ticks since the always-on power-on reset: 32,768 in 1 s, hence 2^15 in 250,000,000 of 4 ns (R24, R429). -/
def State.aclk (s : State) : Nat := s.ticks * 32768 / 250000000

/-! ### The wake record (R429) -/

/-- A wake-record entry for a source, `pending` for code 9. -/
def State.wakeEntry (s : State) (q : OnReq) (pending : Bool) (stamp : Nat) : State :=
  let i := s.fget PWK_WREC_IDX_next
  let lane := if q.code ≤ 3 then q.lane else 0
  let code := if pending then 9 else q.code
  let cause := if pending then q.code else 0
  let s := s.setReg (PWK_WREC i) (word (2 ^ 31 + code * 2 ^ 27 + cause * 2 ^ 23 + lane * 2 ^ 17))
  let s := s.setReg (PWK_WREC i + 4) (word (if q.code = 2 then b2n q.ide * 2 ^ 29 + q.id % 2 ^ 29 else 0))
  let s := s.setReg (PWK_WREC i + 8) (word stamp)
  let s := s.setReg (PWK_WREC i + 12) (word (s.pwk.wakeNo % 65536))
  (s.fset PWK_WREC_IDX_next ((i + 1) % 16)).fcount PWK_WREC_IDX_wakes

/-! ### The WAKE line (R430) -/

/-- The rate limit allows an assertion: fewer than per_s in the last 1 s of ACLK. -/
def State.wakeRateOk (s : State) : Bool :=
  let lim := if s.coreOn && s.cinched then s.hobLow 0x400 1 4 else s.aonWakeLimit
  decide ((s.pwk.asserts.filter fun t => s.aclk < t + 32768).length < lim)

/-- An assertion is made: the line is pulled low. -/
def State.wakeDrive (s : State) : State :=
  let s := { s with pwk := { s.pwk with held := false, propagate := false, asserts := (s.aclk :: s.pwk.asserts).take 4 } }
  let s := s.fsets [(PWK_WAKE_STATUS_driving, 1), (PWK_WAKE_STATUS_level, 0), (PWK_WAKE_STATUS_held, 0)]
  (s.countSat (PWK_CNT 6)).raise 1165

/-- A request stands beyond the rate limit. -/
def State.wakeLimited (s : State) : State := ((s.fset PWK_WAKE_STATUS_held 1).countSat (PWK_CNT 7)).raise 1166

/-- A request for an assertion (R430): held while the digest is pending (R79) and beyond the rate limit.
[DEDUCED, log entry 114] -/
def State.wakeRequest (s : State) : State :=
  let hold : State := { s with pwk := { s.pwk with held := true } }
  if s.fget GLB_IMAGE_STATUS_hash != 1 then hold
  else if !s.wakeRateOk then hold.wakeLimited
  else if s.isSet PWK_WAKE_STATUS_driving then hold
  else s.wakeDrive

/-- A held request is made once the digest and the rate limit allow; one held for another reason may now be beyond the
limit. -/
def State.wakeHeldTry (s : State) : State :=
  if !s.pwk.held || s.fget GLB_IMAGE_STATUS_hash != 1 || s.isSet PWK_WAKE_STATUS_driving then s
  else if s.wakeRateOk then s.wakeDrive
  else if s.isSet PWK_WAKE_STATUS_held then s
  else s.wakeLimited

/-! ### Ring messages (R432, R433) -/

/-- The 32-byte payload of a message (R433). -/
def ringPayload (ringId : Nat) (m : RingMsg) (seq : Nat) : List Byte :=
  [BitVec.ofNat 8 (16 + m.state), BitVec.ofNat 8 ringId, BitVec.ofNat 8 m.initiator, BitVec.ofNat 8 m.sender,
    BitVec.ofNat 8 m.next, 0] ++ beBytes 2 seq ++ beBytes 2 m.round ++ beBytes 2 m.dismount ++ beBytes 8 m.consent ++
    beBytes 8 m.present ++ [0, 0, 0, 0]

/-- The message that a 32-byte payload spells. -/
def ringParse (bs : List Byte) : RingMsg where
  state := beAt bs 0 1 % 16
  initiator := beAt bs 2 1 % 64
  sender := beAt bs 3 1 % 64
  next := beAt bs 4 1 % 64
  round := beAt bs 8 2
  dismount := beAt bs 10 2
  consent := beAt bs 12 8
  present := beAt bs 20 8

/-- Logical ports set in a bit mask. -/
def portsOf (mask n : Nat) : List Nat := (List.range n).filter fun i => bitOf mask i

def noHeard (_ : Nat) : Nat × Nat := (65536, 0)

/-- A message goes out on every ring port and on every lane that carries a member, and counts in seq (R432). -/
def State.ringSend (s : State) (m : RingMsg) : State :=
  let payload := ringPayload (s.plan 0x26 1) m s.pwk.seq
  let s := { s with pwk := { s.pwk with
    seq := (s.pwk.seq + 1) % 65536, silent := false, heard := put noHeard s.pwk.heard m.sender (s.pwk.seq, s.ticks) } }
  let s := s.emit (.ring payload)
  let eth := slice s.wakePlan 0x30 6 ++ s.gwMac ++ beBytes 2 (s.plan 0x28 2) ++ payload
  let ports := portsOf (s.plan 0x2E 2) 16
  let s :=
    if ports.isEmpty then s
    else s.epOffer 2 { bytes := slice eth 0 60, src := 83, cls := 7, resolved := some ports, rx0 := s.timeNs 0 }
  let lanes := ((List.range s.memberCount).filterMap s.memberLane).eraseDups
  let id := s.plan 0x38 4
  let can : LaneFrame := { format := 1, ide := bitOf id 29, id := bitsOf id 28 0, data := payload }
  if lanes.isEmpty then s
  else s.offer 25 { bytes := laneBytes can 0, lane := true, src := 83, cls := 7, resolved := some (lanes.map (16 + ·)),
                        rx0 := s.timeNs 0 }

/-- The consent and presence bitmaps that the ring registers show. -/
def State.ringShow (s : State) (m : RingMsg) (phase : Nat) : State :=
  let s := s.fsets [(PWK_RING_STATUS_phase, phase), (PWK_RING_STATUS_initiator, m.initiator),
    (PWK_RING_STATUS_round, m.round)]
  let s := (s.setReg PWK_RING_CONSENT_LO (word m.consent)).setReg PWK_RING_CONSENT_HI (word (m.consent / 2 ^ 32))
  (s.setReg PWK_RING_PRESENT_LO (word m.present)).setReg PWK_RING_PRESENT_HI (word (m.present / 2 ^ 32))

/-- Every member's bit, except those skipped and silent since (R435). -/
def State.presentNow (s : State) : Nat :=
  (List.range s.memberCount).foldl (fun v i => if bitOf s.pwk.skipped i then v else v + 2 ^ i) 0

/-- The next present member after `i` in ascending order, wrapping (R435). -/
def nextMember (present i : Nat) : Nat :=
  ((List.range 64).map fun d => (i + 1 + d) % 64).find? (bitOf present) |>.getD i

/-- The member sends AWAKE (R436): round + 1, an empty consent bitmap, addressed to itself. A dismount in progress ends.
After a completed confirm round it also asserts the WAKE line. -/
def State.sendAwake (s : State) : State :=
  let me := s.selfIndex
  let m : RingMsg := {
    state := 0, initiator := me, sender := me, next := me, round := (s.fget PWK_RING_STATUS_round + 1) % 65536
    dismount := s.plan 0x2A 2, consent := 0, present := s.presentNow }
  let confirmed := s.pwk.confirmed
  let s := (s.ringShow m 0).fset PWK_DISMOUNT_LEFT_ms 0
  let s := if s.fget PWK_STATE_phase = 3 then s.fset PWK_STATE_phase 0 else s
  let s := { s with pwk := { s.pwk with
    consented := false, confirmed := false, forwarded := none, waiting := none, answered := none, lastAwake := true
    dismount := none } }
  let s := s.ringSend m
  if confirmed then s.wakeRequest else s

/-! ### The start and the end of a round (R435, R438) -/

/-- A confirm round is complete for this member: the dismount timer starts. -/
def State.confirmDone (s : State) (ms : Nat) : State :=
  if s.pwk.dismount.isSome then s
  else
    let s := { s with pwk := { s.pwk with
      confirmed := true, forwarded := none, waiting := none, answered := none, dismount := some s.ticks } }
    let s := s.fsets [(PWK_DISMOUNT_LEFT_ms, ms), (PWK_RING_STATUS_phase, 3)]
    let s := if s.fget PWK_STATE_phase = 0 then s.fset PWK_STATE_phase 3 else s
    s.raise 1160

/-- A SLEEP-CONFIRM goes out. Addressed to the initiator, it completes the round for this member too. -/
def State.sendConfirm (s : State) (m : RingMsg) (forwarded : Bool) : State :=
  let s := (s.ringShow m 2).ringSend m
  if m.next = m.initiator then s.confirmDone m.dismount
  else { s with pwk := { s.pwk with waiting := some (m, false), forwarded := if forwarded then some m.dismount else none } }

/-- The message of the initiator's round is back (R435 step 3): with every present member's consent it sends
SLEEP-CONFIRM for the same round. -/
def State.ringReturned (s : State) (m : RingMsg) : State :=
  let me := s.selfIndex
  if m.consent = m.present then
    s.sendConfirm { m with state := 2, initiator := me, sender := me, next := nextMember m.present me } false
  else s

/-- A READY-SLEEP goes out; a member left alone in the ring completes the round by itself (R437). -/
def State.sendReady (s : State) (m : RingMsg) : State :=
  let s := (s.ringShow m 1).ringSend m
  if m.next = s.selfIndex then s.ringReturned { m with initiator := s.selfIndex }
  else { s with pwk := { s.pwk with waiting := some (m, false) } }

/-- The member initiates a round (R435 step 1). -/
def State.roundStart (s : State) : State :=
  let me := s.selfIndex
  let present := if bitOf s.presentNow me then s.presentNow else s.presentNow + 2 ^ me
  let m : RingMsg := {
    state := 1, initiator := me, sender := me, next := nextMember present me
    round := (s.fget PWK_RING_STATUS_round + 1) % 65536, dismount := s.plan 0x2A 2, consent := 2 ^ me, present := present }
  let s := { s with pwk := { s.pwk with consented := true, confirmed := false, forwarded := none, answered := none } }
  ((s.countSat (PWK_CNT 3)).raise 1159).sendReady m

/-- A ready member initiates when it was the last to send AWAKE or has searched long enough, not before wake_guard has
passed (R344, R435). -/
def State.roundTry (s : State) : State :=
  if s.ringEn && s.isSet PWK_READY_ready && !s.pwk.guardWait && (s.pwk.lastAwake || s.pwk.silent) &&
      s.pwk.dismount.isNone then s.roundStart
  else s

/-! ### Readiness (R431) -/

/-- Condition j + 1 of R431. -/
def State.readyCond (s : State) (j : Nat) : Bool :=
  match j with
  | 0 =>
    let need := s.plan 0x22 1
    (List.range 3).all fun b => !bitOf need b || bitOf (s.reg PWK_CONSENT).toNat b
  | 1 => s.pwk.quietLanes
  | 2 => s.pwk.minAwake
  | 3 => s.pwk.pendingOn.isNone && s.pwk.quietWake
  | _ => s.fget GLB_IMAGE_STATUS_hash == 1

/-- PWK_READY follows the conditions. READY is raised as readiness becomes true; a member that has consented and stops
being ready sends AWAKE (R431, R436). Without Ostler firmware the device is never ready (R479). -/
def State.evalReady (s : State) : State :=
  if !s.coreOn then s else
  let cond := (List.range 5).foldl (fun v j => if s.readyCond j then v + 2 ^ j else v) 0
  let now := cond == 31 && s.ostlerRuns
  let was := s.isSet PWK_READY_ready
  let s := s.fsets [(PWK_READY_cond, cond), (PWK_READY_ready, b2n now)]
  if now && !was then (s.raise 1158).roundTry
  else if was && !now && s.pwk.consented && s.ringEn then s.sendAwake
  else s

/-! ### On requests (R421 to R427) -/

/-- A power-down is aborted before the release (R426): the detectors of the lanes that are integrated stop again (R106). -/
def State.powerAbort (s : State) : State :=
  let s := { s with pwk := { s.pwk with downStep := 0, minAwake := false } }
  let s := (s.fset PWK_STATE_phase 0).countSat (PWK_CNT 1)
  let s := (List.range 48).foldl (fun t n =>
    if t.isSet (LANE_PHY_STATUS_integrated n) then t.setLane n { t.lane n with watching := 0 } else t) s
  ((s.raise 1155).outsRefresh).evalReady

/-- An on request (R426, R427). `aon` says that the source is one of the always-on sources of R421.
[DEDUCED, log entry 112] -/
def State.onRequest (s : State) (q : OnReq) (aon : Bool) : State :=
  if s.pwk.downStep = 0 then s.fset PWK_STATE_off_latched 0
  else if s.pwk.downStep < 3 then (if s.pwk.undervolt then s else s.powerAbort)
  else if aon && s.pwk.pendingOn.isNone then { s with pwk := { s.pwk with pendingOn := some (q, s.aclk) } }
  else s

/-- A source of a wake is recorded and raises the wake target (R423). -/
def State.wakeSource (s : State) (q : OnReq) (pending : Bool) (stamp : Nat) : State :=
  let s := s.wakeEntry q pending stamp
  { s with pwk := { s.pwk with
    wakeSeen := s.pwk.wakeSeen ++ [(q.code, q.lane)]
    wakeTarget := max s.pwk.wakeTarget (s.targetOf q.code)
    propagate := s.pwk.propagate || bitOf (s.plan 0x20 2) (if pending then 9 else q.code)
    wakeLanes := if 1 ≤ q.code && q.code ≤ 3 then s.pwk.wakeLanes ++ [q.lane] else s.pwk.wakeLanes
    pnLanes := if q.code = 3 then s.pwk.pnLanes ++ [q.lane] else s.pwk.pnLanes } }

/-- The device is in Stable: only the always-on domain is powered and no wake has begun. -/
def State.inStable (s : State) : Bool := s.boot == .down && !s.coreOn && s.pwk.downStep == 0 && !s.coldStart

/-- An always-on source asserts (R421, R423): a wake request in Stable, a recorded source while the rails rise, an on
request otherwise. Each source is recorded once in a wake. -/
def State.powerSource (s : State) (q : OnReq) : State :=
  if s.inStable then
    if s.pwk.wakeReqs.any fun e => e.1.code == q.code && e.1.lane == q.lane then s
    else { s with pwk := { s.pwk with wakeReqs := s.pwk.wakeReqs ++ [(q, s.aclk)] } }
  else if s.pwk.wakeOpen then
    if s.pwk.wakeSeen.contains (q.code, q.lane) then s else s.wakeSource q false s.aclk
  else s.onRequest q true

end Sys2Proof.Machine
end

