-- ==== Sys2Proof/Machine/FieldBus.lean ====
section
/-!
DEFINITION. CAN, LIN and 10BASE-T1S controllers (R116 to R156): reception and its filters, the software-owned queues,
the transmit buffers, bus errors and bus-off, the LIN engine and PLCA.
-/

namespace Sys2Proof.Machine

/-! ### The lane buffer (R128) -/

def rxDescAt (n q i : Nat) : Nat := laneBuf n + 0x800 * q + 32 * (i % 64)
def rxDataAt (n q off : Nat) : Nat := laneBuf n + 0x1000 + 0xC00 * q + off

/-- Bytes rounded up to a multiple of 16. -/
def up16 (n : Nat) : Nat := (n + 15) / 16 * 16

/-! ### Frames on a bus -/

/-- The lane has the frame's format enabled (R121). -/
def State.formatOn (s : State) (n fmt : Nat) : Bool :=
  match s.laneKind n with
  | 1 => fmt == 0 || (fmt == 1 && s.isSet (LANE_PHY_CFG_fd n)) || (fmt == 2 && s.isSet (LANE_PHY_CFG_xl n))
  | 4 => fmt == 3
  | _ => false

/-- The frame's length and identifier are ones its format carries (R129, R136). -/
def canFrameOk (f : LaneFrame) : Bool :=
  let len := f.data.length
  match f.format with
  | 0 => len ≤ 8 && f.id < (if f.ide then 2 ^ 29 else 2 ^ 11)
  | 1 => fdLength len && !f.rtr && f.id < (if f.ide then 2 ^ 29 else 2 ^ 11)
  | 2 => 1 ≤ len && len ≤ 2048 && !f.ide && !f.rtr && f.id < 2 ^ 11
  | _ => false

/-! ### Receive queues (R130 to R134) -/

def rxCtrl (n q : Nat) : Fld := if q = 0 then LANE_RXQ0_CTRL_watermark n else LANE_RXQ1_CTRL_watermark n
def rxAck (n q : Nat) : Fld := if q = 0 then LANE_RXQ0_IDX_ack_idx n else LANE_RXQ1_IDX_ack_idx n
def rxWr (n q : Nat) : Fld := if q = 0 then LANE_RXQ0_IDX_wr_idx n else LANE_RXQ1_IDX_wr_idx n
def Lane.owned (l : Lane) (q : Nat) : List (Nat × Nat) := if q = 0 then l.owned0 else l.owned1
def Lane.nextOff (l : Lane) (q : Nat) : Nat := if q = 0 then l.next0 else l.next1
def Lane.seqOf (l : Lane) (q : Nat) : Nat := if q = 0 then l.seq0 else l.seq1
def Lane.disarmed (l : Lane) (q : Nat) : Bool := if q = 0 then l.disarmed0 else l.disarmed1
def Lane.setQueue (l : Lane) (q : Nat) (owned : List (Nat × Nat)) (next : Nat) : Lane :=
  if q = 0 then { l with owned0 := owned, next0 := next } else { l with owned1 := owned, next1 := next }
def Lane.setSeq (l : Lane) (q n : Nat) : Lane := if q = 0 then { l with seq0 := n } else { l with seq1 := n }
def Lane.setDisarmed (l : Lane) (q : Nat) (b : Bool) : Lane :=
  if q = 0 then { l with disarmed0 := b } else { l with disarmed1 := b }

/-- The owned count of a receive queue (R130). [DEDUCED, log entry 44] -/
def State.rxOwned (s : State) (n q : Nat) : Nat := (s.fget (rxWr n q) + 128 - s.fget (rxAck n q)) % 128

/-- Where a payload of `size` bytes goes, given the owned entries (offset, size) oldest first and the byte after the
newest: one contiguous piece, or offset 0 when the tail is too small (R132). -/
def placePayload (owned : List (Nat × Nat)) (next size : Nat) : Option Nat :=
  if size = 0 then some (if next = 3072 then 0 else next)
  else
    match owned.find? fun e => e.2 != 0 with
    | none => some (if next + size ≤ 3072 then next else 0)
    | some (tail, _) =>
      if tail < next then
        if next + size ≤ 3072 then some next else if size ≤ tail then some 0 else none
      else if next + size ≤ tail then some next
      else none

/-- The queue's event (R134): raised and disarmed at the watermark, re-armed below it. -/
def State.rxEvent (s : State) (n q : Nat) : State :=
  let at_ := decide (s.fget (rxCtrl n q) ≤ s.rxOwned n q)
  let l := s.lane n
  if at_ && !l.disarmed q then (s.setLane n (l.setDisarmed q true)).raise (12 * n + 6 + q)
  else if !at_ && l.disarmed q then s.setLane n (l.setDisarmed q false)
  else s

/-- The 32 bytes of a receive descriptor (R129). -/
def rxDescriptor (f : LaneFrame) (truncated dflt : Bool) (filter off ts seq : Nat) : List Byte :=
  leBytes 4 (descWord0 f) ++ leBytes 4 (descWord1 f) ++ leBytes 4 f.af ++
    leBytes 4 (b2n truncated * 2 ^ 18 + b2n dflt * 2 ^ 17 + filter * 2 ^ 12 + off) ++ leBytes 8 ts ++ leBytes 4 seq ++
    leBytes 4 0

/-- A copy is offered to receive queue q (R131, R132). -/
def State.rxStore (s : State) (n q : Nat) (f : LaneFrame) (dflt : Bool) (filter ts : Nat) : State :=
  let l := s.lane n
  let seq := l.seqOf q
  let s := s.setLane n (l.setSeq q ((seq + 1) % 65536))
  let l := s.lane n
  let size := up16 f.data.length
  match (if s.rxOwned n q < 64 then placePayload (l.owned q) (l.nextOff q) size else none) with
  | none => (s.countSat (LANE_CNT n (1 + q))).raise (12 * n + 9)
  | some off =>
    let wr := s.fget (rxWr n q)
    let s := s.setAper (rxDataAt n q off) f.data
    let s := s.setAper (rxDescAt n q wr) (rxDescriptor f false dflt filter off ts seq)
    let s := s.setLane n (l.setQueue q (l.owned q ++ [(off, size)]) (off + size))
    (s.fset (rxWr n q) ((wr + 1) % 128)).rxEvent n q

/-- A match is sent to the high-priority buffer (R127). -/
def State.hpStore (s : State) (n : Nat) (f : LaneFrame) (dflt : Bool) (filter ts : Nat) : State :=
  let l := s.lane n
  let seq := l.seqHp
  let s := s.setLane n { l with seqHp := (seq + 1) % 65536 }
  if s.isSet (LANE_HP_CTRL_full n) then (s.countSat (LANE_CNT n 3)).raise (12 * n + 9)
  else
    let d := rxDescriptor f (decide (64 < f.data.length)) dflt filter 0 ts seq
    let s := (List.range 8).foldl (fun t i => t.setReg (LANE_HP_DESC n i) (word (leAt d (4 * i) 4))) s
    let s := (List.range 16).foldl (fun t i => t.setReg (LANE_HP_DATA n i) (word (leAt f.data (4 * i) 4))) s
    (s.fset (LANE_HP_CTRL_full n) 1).raise (12 * n + 8)

/-- Bytes of aggregator staging that the waiting copies take (R135). [DEDUCED, log entry 43] -/
def stagingUse (l : List (LaneFrame × Nat)) : Nat := l.foldl (fun v e => v + 16 + up16 e.1.data.length) 0

/-- A copy for the aggregator waits in staging, or is dropped (R135). [DEDUCED, log entry 43] -/
def State.stage (s : State) (n : Nat) (f : LaneFrame) (ts : Nat) : State :=
  let l := s.lane n
  if stagingUse l.staging + 16 + up16 f.data.length ≤ 2048 then
    let at_ := s.timeNs 0 - (s.laneTime n 0 - ts)
    s.setLane n { l with staging := l.staging ++ [(f, ts)], stagedAt := l.stagedAt ++ [at_] }
  else s.countSat (LANE_CNT n 4)

/-- The steering of a frame by action bits (R126, R127). -/
def State.steer (s : State) (n : Nat) (f : LaneFrame) (hp agg q1 q0 dflt : Bool) (filter ts : Nat) : State :=
  if hp then s.hpStore n f dflt filter ts
  else if !(agg || q1 || q0) then s.countSat (LANE_CNT n 5)
  else
    let s := if q0 then s.rxStore n 0 f dflt filter ts else s
    let s := if q1 then s.rxStore n 1 f dflt filter ts else s
    if agg then s.stage n f ts else s

/-- Filter i matches (R125). -/
def State.filterHit (s : State) (n i : Nat) (f : LaneFrame) : Bool :=
  s.isSet (LANE_FLT_en n i) && s.isSet (LANE_FLT_ide n i) == f.ide &&
  ((f.id ^^^ s.fget (LANE_FLT_id n i)) &&& s.fget (LANE_FLT_mask n i)) == 0 &&
  (match f.format with
   | 0 => s.isSet (LANE_FLT_classical n i)
   | 1 => s.isSet (LANE_FLT_fd n i)
   | 2 => s.isSet (LANE_FLT_xl n i)
   | _ => true)

/-- The first enabled filter that matches decides, else LANE_RX_DEFAULT (R125, R126). -/
def State.filterFrame (s : State) (n : Nat) (f : LaneFrame) (ts : Nat) : State :=
  match (List.range 32).find? fun i => s.filterHit n i f with
  | some i =>
    s.steer n f (s.isSet (LANE_FLT_hp n i)) (s.isSet (LANE_FLT_agg n i)) (s.isSet (LANE_FLT_rxq1 n i))
      (s.isSet (LANE_FLT_rxq0 n i)) false i ts
  | none =>
    s.steer n f (s.isSet (LANE_RX_DEFAULT_hp n)) (s.isSet (LANE_RX_DEFAULT_agg n)) (s.isSet (LANE_RX_DEFAULT_rxq1 n))
      (s.isSet (LANE_RX_DEFAULT_rxq0 n)) true 0 ts

/-! ### A correct frame and the power states (R426, R431) -/

/-- A Classical frame meets a selective-wake pattern (R108): words id, mask, control and the two data masks. -/
def pnMatch (id mask ctrl dlo dhi : Nat) (f : LaneFrame) : Bool :=
  f.format == 0 && f.ide == bitOf id 29 && ((f.id ^^^ bitsOf id 28 0) &&& mask) == 0 &&
  (!bitOf ctrl 4 || (f.data.length == bitsOf ctrl 3 0 && ((leAt f.data 0 8) &&& (dlo + dhi * 2 ^ 32)) != 0))

/-- The lane's armed wake condition, judged by its controller (R426). -/
def State.meetsWake (s : State) (n : Nat) (f : LaneFrame) : Bool :=
  match s.fget (LANE_PHY_CFG_wake n) with
  | 1 => true
  | 2 => pnMatch (s.reg (LANE_PN_ID n)).toNat (s.reg (LANE_PN_ID_MASK n)).toNat (s.reg (LANE_PN_CTRL n)).toNat
      (s.reg (LANE_PN_DMASK_LO n)).toNat (s.reg (LANE_PN_DMASK_HI n)).toNat f
  | _ => false

/-- A correct frame restarts the quiet time of a quiet lane and may be an on request (R426, R431).
[DEDUCED, log entry 115] -/
def State.quietFrame (s : State) (n : Nat) (f : LaneFrame) : State :=
  let s :=
    if bitOf (s.plan 0x18 8) n then { s with pwk := { s.pwk with quietLanes := false } }.evalReady else s
  if (s.pwk.downStep != 0 || s.isSet PWK_STATE_off_latched) && s.meetsWake n f then
    s.onRequest { code := s.fget (LANE_PHY_CFG_wake n), lane := n, ide := f.ide, id := f.id } false
  else s

/-- A received ring message on a lane that carries a member (R432). -/
def State.isRingFrame (s : State) (n : Nat) (f : LaneFrame) : Bool :=
  s.ringEn && f.format == 1 && f.data.length == 32 && f.ide == bitOf (s.plan 0x38 4) 29 &&
  f.id == bitsOf (s.plan 0x38 4) 28 0 && (List.range s.memberCount).any fun i => s.memberLane i == some n

/-- A frame reaches Ostler firmware; while Ostler is not running it is discarded and counted (R479). -/
def State.toOstler (s : State) (queue : Nat) (bytes : List Byte) : State :=
  if s.ostlerRuns then s.emit (.ostlerFrame queue bytes) else s.fcount GLB_OSTLER_STATUS_drops

/-! ### CAN error counters (R124) -/

/-- Error-active or error-passive as the counters say. -/
def State.errRefresh (s : State) (n : Nat) : State :=
  let st := s.fget (LANE_ERR_state n)
  if st = 1 ∨ st = 2 then
    s.setErrState n (if 128 ≤ s.fget (LANE_ERR_tec n) ∨ 128 ≤ s.fget (LANE_ERR_rec n) then 2 else 1)
  else s

/-- REC after a correct reception: one less, or, from above 127, a value from 119 to 127 that the standard leaves open.
[PRESUMED, log entry 33] -/
def State.recGood (s : State) (n : Nat) : State :=
  let rec_ := s.fget (LANE_ERR_rec n)
  if rec_ = 0 then s
  else if rec_ < 128 then (s.fset (LANE_ERR_rec n) (rec_ - 1)).errRefresh n
  else ((s.fset (LANE_ERR_rec n) (119 + s.free % 9)).drew 1).errRefresh n

/-- TEC raised by 8: above 255 the controller enters bus-off (R124). -/
def State.tecError (s : State) (n : Nat) : State :=
  let tec := s.fget (LANE_ERR_tec n) + 8
  let s := s.fset (LANE_ERR_tec n) (min tec 255)
  if 256 ≤ tec then
    ((s.fset (LANE_ERR_busoff_seq n) 0).setErrState n 3).countSat (LANE_CNT n 12)
  else s.errRefresh n

/-! ### Reception -/

/-- The controller of a live lane takes part in reception of the bus (R75, R104, R111, R121, R124). -/
def State.canListens (s : State) (n : Nat) : Bool :=
  s.laneLive n && s.isSet (LANE_PHY_STATUS_integrated n) && !(s.lane n).waiting && !bitOf (s.lane n).cond 2 &&
  !s.isSet (LANE_PHY_CTRL_int_loopback n) && s.fget (LANE_ERR_state n) != 3 && s.fget (LANE_ERR_state n) != 0

/-- CAN_FRAME_RECEIVED (R123, R125 to R135): `age` ns have passed since the sample point of SOF. -/
def execCanFrameReceived (n : Nat) (f : LaneFrame) (age : Nat) (s : State) : Host.Outcome State Fault Refusal :=
  if !(s.canListens n && s.laneKind n == 1 && canFrameOk f && s.formatOn n f.format) then .next s
  else
    let s := s.countSat (LANE_CNT n 0)
    let s := if s.isSet (LANE_CTRL_listen_only n) then s else s.recGood n
    let s := if s.isSet (LANE_CTRL_listen_only n) || s.laneHeld n then s else s.emit (.ack n)
    if s.isRingFrame n f then .next (s.toOstler 0 f.data)
    else .next ((s.filterFrame n f (s.laneTime n age)).quietFrame n f)

/-- PROTOCOL_EXCEPTION (R121): a frame in a format the lane has not enabled. -/
def execProtocolException (n fmt : Nat) (s : State) : Host.Outcome State Fault Refusal :=
  if s.canListens n && s.laneKind n == 1 && fmt ≤ 2 && !s.formatOn n fmt then
    .next ((s.countSat (LANE_CNT n 11)).setLane n { s.lane n with waiting := true })
  else .next s

/-- CAN_REINTEGRATE (R121, R124): 11 recessive bits. In bus-off they count towards recovery. -/
def execCanReintegrate (n : Nat) (s : State) : Host.Outcome State Fault Refusal :=
  if !s.laneLive n || s.laneKind n != 1 then .next s
  else
    let s := s.setLane n { s.lane n with waiting := false }
    if s.fget (LANE_ERR_state n) = 3 ∧ s.fget (LANE_ERR_busoff_seq n) < 127 then .next (s.fcount (LANE_ERR_busoff_seq n))
    else .next s

/-- BUS_OFF_RECOVERY (R124): the 128th sequence; error-active with both counters 0. [DEDUCED, log entry 36] -/
def execBusOffRecovery (n : Nat) (s : State) : Host.Outcome State Fault Refusal :=
  if s.laneLive n && s.laneKind n == 1 && s.fget (LANE_ERR_state n) == 3 && s.fget (LANE_ERR_busoff_seq n) == 127 then
    .next ((s.fsets [(LANE_ERR_busoff_seq n, 128), (LANE_ERR_tec n, 0), (LANE_ERR_rec n, 0)]).setErrState n 1)
  else .next s

/-! ### Transmit buffers (R136 to R141) -/

/-- Buffers that a frame of `len` bytes occupies: ⌈len / 512⌉, at least one. -/
def tbSpan (len : Nat) : Nat := max 1 ((len + 511) / 512)

/-- The length is one its format allows on the lane (R136). -/
def tbLengthOk (fmt len : Nat) : Bool :=
  match fmt with
  | 0 => len ≤ 8
  | 1 => fdLength len
  | 2 => 1 ≤ len && len ≤ 2048
  | _ => 14 ≤ len && len ≤ 1518

/-- A buffer becomes pending with the buffers that its frame continues in. -/
def State.tbClaim (s : State) (n k cls owner : Nat) : State :=
  let span := tbSpan (s.tbLength n k)
  let order := s.orderNext
  let s := { s with orderNext := order + 1 }
  let s := (List.range (span - 1)).foldl (fun t i =>
    (t.fsets [(LANE_TB_CTRL_pending n (k + 1 + i), 1), (LANE_TB_CTRL_result n (k + 1 + i), 0)]).setTx n (k + 1 + i)
      { cont := true }) s
  (s.fsets [(LANE_TB_CTRL_pending n k, 1), (LANE_TB_CTRL_result n k, 0), (LANE_TB_CTRL_lost_arb n k, 0)]).setTx n k
    { cls := cls, owner := owner, order := order, span := span }

/-- Setting pending on a software buffer: transmission requested, or refused under R136. [DEDUCED, log entry 35] -/
def State.txRequest (s : State) (n k : Nat) : State :=
  let len := s.tbLength n k
  let fmt := bitsOf (s.tbDesc n k 1) 13 12
  let span := tbSpan len
  let free := decide (k + span ≤ 8) && (List.range span).all fun i => !s.isSet (LANE_TB_CTRL_pending n (k + i))
  if s.formatOn n fmt && tbLengthOk fmt len && free then s.tbClaim n k 0 0
  else
    let s := s.fset (LANE_TB_CTRL_result n k) 4
    if s.isSet (LANE_TB_CTRL_irq n k) then s.raise (12 * n + 10) else s

/-- A write of LANE_TB_CTRLk (R152): ignored for TB0 to TB3, for a continuation, and on a lane of another kind. -/
def State.tbCtrlWrite (s : State) (n k : Nat) (v : Word) : State :=
  if !(s.laneKind n == 1 || s.laneKind n == 4) || k < 4 || 8 ≤ k || (s.tx n k).cont then s
  else
    let was := s.isSet (LANE_TB_CTRL_pending n k)
    let s := s.fsets [(LANE_TB_CTRL_trig_en n k, getField v 13 13), (LANE_TB_CTRL_trig n k, getField v 12 8),
      (LANE_TB_CTRL_one_shot n k, getField v 3 3), (LANE_TB_CTRL_irq n k, getField v 2 2)]
    let s :=
      if was && getField v 1 1 = 1 then
        if (s.lane n).onBus = some k then s.fset (LANE_TB_CTRL_abort n k) 1 else s.tbRelease n k 2
      else s
    if !was && getField v 0 0 = 1 then s.txRequest n k else s

/-- TX_REQUEST (R136): a write of LANE_TB_CTRLk with pending set. -/
def execTxRequest (r : Requester) (n k : Nat) (v : Word) (s : State) : Host.Outcome State Fault Refusal :=
  .next (s.laneWrite r n (LANE_TB_CTRL n k) fun s => s.tbCtrlWrite n k (setField v 0 0 1))

/-- TX_ABORT (R138): a write of LANE_TB_CTRLk with abort set. [DEDUCED, log entry 35] -/
def execTxAbort (r : Requester) (n k : Nat) (v : Word) (s : State) : Host.Outcome State Fault Refusal :=
  .next (s.laneWrite r n (LANE_TB_CTRL n k) fun s => s.tbCtrlWrite n k (setField (setField v 1 1 1) 0 0 0))

/-- An identifier's place in bus arbitration order: the base identifier, then a standard before an extended one, then the
extension. The frame type takes no part (R137). -/
def arbKey (f : LaneFrame) : Nat :=
  if f.format = 3 then f.id
  else if f.ide then (f.id / 2 ^ 18) * 2 ^ 19 + 2 ^ 18 + f.id % 2 ^ 18
  else f.id * 2 ^ 19

/-- Buffer k is a candidate (R137, R139). [DEDUCED, log entry 42] -/
def State.tbCandidate (s : State) (n k : Nat) : Bool :=
  let b := s.tx n k
  s.isSet (LANE_TB_CTRL_pending n k) && !b.cont &&
  (if k < 4 then
    (List.range 4).all fun j =>
      !(s.isSet (LANE_TB_CTRL_pending n j) && !(s.tx n j).cont && (s.tx n j).cls == b.cls && (s.tx n j).order < b.order)
   else !s.isSet (LANE_TB_CTRL_trig_en n k) || b.fired)

/-- The buffer that the controller chooses: the lowest identifier, then the lowest number (R137).
[DEDUCED, log entry 42] -/
def State.tbChoice (s : State) (n : Nat) : Option Nat :=
  ((List.range 8).filter (s.tbCandidate n)).foldl (fun best k =>
    match best with
    | none => some k
    | some j => if arbKey (s.tbFrame n k) < arbKey (s.tbFrame n j) then some k else some j) none

/-- The lane's transmitter may start a frame. -/
def State.laneMayTx (s : State) (n : Nat) : Bool :=
  s.laneLive n && s.isSet (LANE_PHY_STATUS_integrated n) && !(s.lane n).waiting &&
  s.fget (LANE_ERR_state n) != 0 && s.fget (LANE_ERR_state n) != 3 &&
  !(s.laneKind n == 1 && s.isSet (LANE_CTRL_listen_only n)) && s.pwk.downStep == 0 && (s.lane n).onBus.isNone

/-- A deferral for want of budget (R140, R484): counted once per hold; the first on a lane sets its bit. -/
def State.budgetDefer (s : State) (n : Nat) : State :=
  let s := s.countSat (LANE_CNT n 8)
  let bit : Fld := ⟨if n < 32 then HOB_LANE_HOLD_LO else HOB_LANE_HOLD_HI, n % 32, n % 32⟩
  if s.isSet bit then s else (s.fset bit 1).raise 1453

/-- LANE_TX_START (R137, R140). -/
def execLaneTxStart (n : Nat) (s : State) : Host.Outcome State Fault Refusal :=
  if !(s.laneMayTx n && (s.laneKind n == 1 || s.laneKind n == 4)) then .next s
  else
    match s.tbChoice n with
    | none => .next (s.setLane n { s.lane n with budgetHold := none })
    | some k =>
      if s.budgetOut (16 + n) then
        if (s.lane n).budgetHold = some k then .next s
        else .next ((s.setLane n { s.lane n with budgetHold := some k }).budgetDefer n)
      else
        let fast := (s.tbFrame n k).format == 2 && s.isSet (LANE_PHY_CFG_fast n)
        .next ((s.setLane n { s.lane n with
          onBus := some k, started := s.uptime, budgetHold := none, fastNow := fast }).laneRefresh n)

/-- An attempt of the transmitter ends: the credit is charged its bus time and fast mode ends (R97, R484). -/
def State.txAttemptEnds (s : State) (n busNs : Nat) : State :=
  ((s.charge (16 + n) busNs).setLane n { s.lane n with onBus := none, fastNow := false }).laneRefresh n

/-- An attempt of `busNs` that did not succeed: a one-shot or aborted software buffer completes, any other competes again
(R137, R138). -/
def State.txAttemptLost (s : State) (n k busNs : Nat) : State :=
  if k < 4 then s
  else if s.isSet (LANE_TB_CTRL_one_shot n k) then (s.txStamp n k (s.laneTime n busNs)).tbRelease n k 3
  else if s.isSet (LANE_TB_CTRL_abort n k) then (s.txStamp n k (s.laneTime n busNs)).tbRelease n k 2
  else s

/-- LOST_ARBITRATION (R137): after `busNs` of the attempt. -/
def execLostArbitration (n busNs : Nat) (s : State) : Host.Outcome State Fault Refusal :=
  match (s.lane n).onBus with
  | none => .next s
  | some k =>
    let s := (s.txAttemptEnds n busNs).countSat (LANE_CNT n 7)
    .next ((s.fcount (LANE_TB_CTRL_lost_arb n k)).txAttemptLost n k busNs)

/-- LANE_TX_COMPLETE (R138): the frame whose SOF lay `age` ns back has been transmitted without error.
[DEDUCED, log entry 34] -/
def execLaneTxComplete (n age busNs : Nat) (s : State) : Host.Outcome State Fault Refusal :=
  match (s.lane n).onBus with
  | none => .next s
  | some k =>
    if s.laneKind n == 1 && s.laneHeld n then .next s
    else
    let f := s.tbFrame n k
    let f := if f.format = 3 then { f with data := slice f.data 0 (max 60 f.data.length) } else f
    let s := if s.isSet (LANE_PHY_CTRL_int_loopback n) || s.laneHeld n then s else s.emit (.laneFrame n f)
    let s := (s.txAttemptEnds n busNs).countSat (LANE_CNT n 6)
    let s :=
      if s.laneKind n != 1 then s
      else if s.isSet (LANE_CTRL_listen_only n) then s.loopDelay n f true
      else ((s.fset (LANE_ERR_tec n) (s.fget (LANE_ERR_tec n) - 1)).errRefresh n).loopDelay n f true
    let s := if k < 4 then s else s.txStamp n k (s.laneTime n age)
    .next (s.tbRelease n k 1)

/-- A detected error is signalled by an error frame, with the flag of the lane's error state; not in fast mode, with listen_only set,
in loopback or while the transmitter is held off (R105, R122, R123). -/
def State.errorSignal (s : State) (n : Nat) : State :=
  if s.isSet (LANE_PHY_CFG_fast n) || s.isSet (LANE_CTRL_listen_only n) || s.isSet (LANE_PHY_CTRL_int_loopback n) || s.laneHeld n
  then s
  else s.emit (.errorFrame n (s.fget (LANE_ERR_state n) == 1))

/-- BUS_ERROR (R122 to R124). `busNs` is the bus time of the lane's own attempt, if one was on the bus.
[PRESUMED, log entry 33] -/
def execBusError (n : Nat) (kind : BusErrKind) (busNs : Nat) (s : State) : Host.Outcome State Fault Refusal :=
  if !((s.canListens n || (s.laneLive n && (s.lane n).onBus.isSome)) && s.laneKind n == 1) then .next s
  else
    let s := s.countSat (LANE_CNT n 10)
    let own := (s.lane n).onBus
    let s := match own with
      | some k => ((s.txAttemptEnds n busNs).loopDelay n (s.tbFrame n k) false).txAttemptLost n k busNs
      | none => s
    let s := s.errorSignal n
    if s.isSet (LANE_CTRL_listen_only n) then .next (s.setLane n { s.lane n with waiting := true })
    else
      let s := match kind with
        | .receiver => (s.fset (LANE_ERR_rec n) (min (s.fget (LANE_ERR_rec n) + 1) 255)).errRefresh n
        | .receiverPrimary => (s.fset (LANE_ERR_rec n) (min (s.fget (LANE_ERR_rec n) + 8) 255)).errRefresh n
        | .transmitter => s.tecError n
        | .transmitterExempt => s
      if s.isSet (LANE_PHY_CFG_fast n) then .next (s.setLane n { s.lane n with waiting := true }) else .next s

/-- HP_RELEASE (R127): 1 written to LANE_HP_CTRL.full. -/
def execHpRelease (r : Requester) (n : Nat) (s : State) : Host.Outcome State Fault Refusal :=
  .next (s.laneWrite r n (LANE_HP_CTRL n) fun s => s.fset (LANE_HP_CTRL_full n) 0)

/-- A new ack_idx (R133). [DEDUCED, log entry 44] -/
def State.ackWrite (s : State) (n q ack : Nat) : State :=
  if s.laneKind n = 0 then s
  else
    let frees := (ack % 128 + 128 - s.fget (rxAck n q)) % 128
    if s.rxOwned n q < frees then s.countSat (LANE_CNT n 13)
    else
      let l := s.lane n
      let s := (s.fset (rxAck n q) ack).setLane n (l.setQueue q ((l.owned q).drop frees) (l.nextOff q))
      s.rxEvent n q

/-- ACK_IDX_WRITE (R133). -/
def execAckIdxWrite (r : Requester) (n q ack : Nat) (s : State) : Host.Outcome State Fault Refusal :=
  if 2 ≤ q then .next s
  else .next (s.laneWrite r n (rxAck n q).addr fun s => s.ackWrite n q ack)

/-- A watermark write of 0 or of more than 64 is ignored (R134, R150). -/
def State.watermarkWrite (s : State) (n q w : Nat) : State :=
  if s.laneKind n = 0 || w = 0 || 64 < w then s else (s.fset (rxCtrl n q) w).rxEvent n q

/-- WATERMARK_WRITE (R134). -/
def execWatermarkWrite (r : Requester) (n q w : Nat) (s : State) : Host.Outcome State Fault Refusal :=
  if 2 ≤ q then .next s
  else .next (s.laneWrite r n (rxCtrl n q).addr fun s => s.watermarkWrite n q w)

/-! ### The fabric group (R136, R141, R308) -/

/-- The frame of an Ethernet frame for a T1S lane (R145). -/
def t1sFrame (bs : List Byte) : LaneFrame := { format := 3, id := vlanType bs, data := bs }

/-- The first of TB0 to TB3 from which `span` buffers are free. [DEDUCED, log entry 38] -/
def State.fabricSlot (s : State) (n span : Nat) : Option Nat :=
  (List.range 4).find? fun k =>
    decide (k + span ≤ 4) && (List.range span).all fun i => !s.isSet (LANE_TB_CTRL_pending n (k + i))

/-- A frame is put into buffer k of the fabric group. -/
def State.fabricFill (s : State) (n k : Nat) (f : LaneFrame) (cls owner : Nat) : State :=
  let s := s.setReg (LANE_TB_DESC n k) (word (descWord0 f))
  let s := s.setReg (LANE_TB_DESC n k + 4) (word (descWord1 f))
  let s := s.setReg (LANE_TB_DESC n k + 8) (word f.af)
  (s.setAper (txDataAt n k) f.data).tbClaim n k cls owner

/-- An Ethernet frame that a lane aggregator decodes (R326): EtherType 0x22F0 with subtype NTSCF or TSCF. -/
def isAcf (bs : List Byte) : Bool :=
  etherType bs == 0x22F0 && (beAt bs (etherOffset bs + 2) 1 == 0x82 || beAt bs (etherOffset bs + 2) 1 == 0x05)

/-- FABRIC_FRAME_TO_LANE (R20, R136, R141, R308, R326): the oldest frame of the lane's egress store. A lane of kind 0, whose
counters stay at reset (R116), discards it for its format. -/
def execFabricFrameToLane (n : Nat) (s : State) : Host.Outcome State Fault Refusal :=
  let key := 8 * (16 + n)
  if !lanePresent s.variant n then .next s else
  match s.egressQ key with
  | [] => .next s
  | fr :: rest =>
    let popped := s.setEgressQ key rest
    if s.laneKind n = 0 then .next popped.fmtDiscard
    else if !s.laneEnabled n || (s.link 16).down then .next (popped.countSat (LANE_CNT n 9))
    else
      let f := if fr.lane then laneOfBytes fr.bytes else t1sFrame fr.bytes
      let fits := fr.lane == (s.laneKind n == 1) && s.formatOn n f.format && tbLengthOk f.format f.data.length
      if !fr.lane && s.laneKind n != 4 && isAcf fr.bytes then .next s
      else if !fits then .next popped.fmtDiscard
      else
        match s.fabricSlot n (tbSpan f.data.length) with
        | none => .next s
        | some k => .next (popped.fabricFill n k f fr.cls fr.owner)

/-! ### LIN (R142 to R144) -/

/-- The protected identifier of a LIN frame ID. -/
def linPid (id : Nat) : Nat :=
  let b := fun i => b2n (bitOf id i)
  let p0 := (b 0 + b 1 + b 2 + b 4) % 2
  let p1 := (1 + b 1 + b 3 + b 4 + b 5) % 2
  id % 64 + p0 * 64 + p1 * 128

/-- The inverted sum with carry of LIN. -/
def linSum (bs : List Byte) : Nat :=
  255 - bs.foldl (fun v b => let t := v + b.toNat; if 256 ≤ t then t - 255 else t) 0

/-- The checksum over the data, or over PID and data for an enhanced one; IDs 60 and 61 are always classic. -/
def linChecksum (id : Nat) (enh : Bool) (data : List Byte) : Nat :=
  if enh && id != 60 && id != 61 then linSum (BitVec.ofNat 8 (linPid id) :: data) else linSum data

def State.isLin (s : State) (n : Nat) : Bool := s.laneLive n && (s.laneKind n == 2 || s.laneKind n == 3)

/-- The ID table entry's publish data (R154). -/
def State.linData (s : State) (n id len : Nat) : List Byte :=
  slice (leBytes 4 (s.reg (LANE_LIN_ID n id + 8)).toNat ++ leBytes 4 (s.reg (LANE_LIN_ID n id + 12)).toNat) 0 len

/-- A responder accepts a header: its break lasted at least 11 bit times, and the measured rate of its sync byte lies within 15 % of
rate_nominal (R144). -/
def State.headerAccepted (s : State) (n : Nat) (h : LinHead) : Bool :=
  let r := (s.lane n).rate
  s.laneKind n != 3 || (decide (11 ≤ h.breakBits) && decide (85 * r ≤ 100 * h.rate) && decide (100 * h.rate ≤ 115 * r))

/-- LIN_HEADER (R142, R144): the PID of a header has ended. [DEDUCED, log entry 37] -/
def execLinHeader (n : Nat) (h : LinHead) (s : State) : Host.Outcome State Fault Refusal :=
  let id := h.id
  if !(s.isLin n && s.isSet (LANE_PHY_STATUS_integrated n)) || 64 ≤ id || !s.headerAccepted n h then .next s
  else
    let dir := s.fget (LANE_LIN_ID_dir n id)
    let len := s.fget (LANE_LIN_ID_length n id)
    let valid := 1 ≤ len && len ≤ 8 && (dir == 1 || dir == 2)
    if !valid then .next (s.setLane n { s.lane n with linId := none, linDir := 0 })
    else if dir = 2 then
      if s.pwk.downStep != 0 then .next (s.setLane n { s.lane n with linId := none, linDir := 0 })
      else if s.budgetOut (16 + n) then
        .next ((s.setLane n { s.lane n with linId := none, linDir := 0 }).budgetDefer n)
      else
        .next (s.setLane n { s.lane n with
          linId := some id, started := s.uptime, linDir := 2, linPublish := s.linData n id len
          linEntry := (s.reg (LANE_LIN_ID n id)).toNat })
    else
      .next (s.setLane n { s.lane n with
        linId := some id, linDir := 1, linPublish := [], linEntry := (s.reg (LANE_LIN_ID n id)).toNat })

/-- LIN_RESPONSE_END (R142): the response of the header in progress ends. `break_` is the ns since the break began and
`busNs` the bus time of a published response. A subscribed response of another length than the entry's is faulty.
[DESIGN CHOICE, log entry 146] -/
def execLinResponseEnd (n : Nat) (data : List Byte) (checksum : Nat) (framingErr : Bool) (break_ busNs : Nat) (s : State) :
    Host.Outcome State Fault Refusal :=
  match s.isLin n, (s.lane n).linId with
  | true, some id =>
    let l := s.lane n
    let enh := bitOf l.linEntry 3
    let done := s.setLane n { l with linId := none, linDir := 0 }
    if l.linDir = 2 then
      let t := done.charge (16 + n) busNs
      if framingErr || s.laneHeld n then .next (t.countSat (LANE_CNT n 10))
      else
        let f : LaneFrame := { format := 3, id := id, af := linPid id * 256 + linChecksum id enh l.linPublish,
                               data := l.linPublish }
        let t := if t.isSet (LANE_PHY_CTRL_int_loopback n) then t else t.emit (.laneFrame n f)
        .next (t.countSat (LANE_CNT n 6))
    else if framingErr || data.length != bitsOf l.linEntry 11 8 || checksum != linChecksum id enh data then
      .next (done.countSat (LANE_CNT n 10))
    else
      let f : LaneFrame := { format := 3, id := id, af := linPid id * 256 + checksum, data := data }
      let t := (done.countSat (LANE_CNT n 0)).steer n f (bitOf l.linEntry 7) (bitOf l.linEntry 6) (bitOf l.linEntry 5)
        (bitOf l.linEntry 4) false 0 (s.laneTime n break_)
      .next (t.quietFrame n f)
  | _, _ => .next s

/-- LIN_NO_RESP (R142): a subscribed response has not completed in its time. -/
def execLinNoResp (n : Nat) (s : State) : Host.Outcome State Fault Refusal :=
  if s.isLin n && (s.lane n).linId.isSome && (s.lane n).linDir == 1 then
    .next ((s.setLane n { s.lane n with linId := none, linDir := 0 }).countSat (LANE_CNT n 14))
  else .next s

/-- A schedule slot is valid (R143, R155). -/
def State.slotValid (s : State) (n i : Nat) : Bool :=
  decide (i < 64) && s.isSet (LANE_LIN_SLOT_valid n i) && s.fget (LANE_LIN_SLOT_slot_time n i) != 0

/-- LIN_SLOT_START (R143): a commander's slot begins; `late` says that a frame ran past the end of the slot before.
[DEDUCED, log entry 37] -/
def execLinSlotStart (n : Nat) (late : Bool) (busNs : Nat) (s : State) : Host.Outcome State Fault Refusal :=
  if !(s.laneLive n && s.laneKind n == 2 && s.isSet (LANE_LIN_SCHED_run n)) || s.pwk.downStep != 0 then
    .next s
  else
    let i := if s.slotValid n (s.lane n).linNext then (s.lane n).linNext else 0
    if !s.slotValid n i then .next (s.setLane n { s.lane n with linNext := 0 })
    else if s.budgetOut (16 + n) then
      if (s.lane n).budgetHold.isSome then .next s
      else .next ((s.setLane n { s.lane n with budgetHold := some 0 }).budgetDefer n)
    else
      let s := if late then s.countSat (LANE_CNT n 15) else s
      let s := s.setLane n { s.lane n with linNext := i + 1, budgetHold := none }
      let s := (s.fset (LANE_LIN_SCHED_slot_now n) i).charge (16 + n) busNs
      let id := s.fget (LANE_LIN_SLOT_id n i)
      if s.isSet (LANE_PHY_CTRL_int_loopback n) || s.laneHeld n then .next s
      else .next (s.emit (.laneFrame n { format := 3, id := id, af := linPid id * 256 }))

/-! ### 10BASE-T1S (R145, R146) -/

/-- LANE_T1S_MAC as a number. -/
def State.t1sMac (s : State) (n : Nat) : Nat :=
  s.fget (LANE_T1S_MAC_HI_mac_hi n) * 2 ^ 32 + s.fget (LANE_T1S_MAC_LO_mac_lo n)

/-- T1S_FRAME_RECEIVED (R145): `bytes` from the destination address onwards without FCS. One of a length that no descriptor can
carry (R129) is ignored. [DESIGN CHOICE, log entry 147] -/
def execT1sFrameReceived (n : Nat) (bytes : List Byte) (fcsOk : Bool) (age : Nat) (s : State) :
    Host.Outcome State Fault Refusal :=
  if !(s.laneLive n && s.laneKind n == 4 && s.isSet (LANE_PHY_STATUS_integrated n)) || bitOf (s.lane n).cond 2 ||
      s.isSet (LANE_PHY_CTRL_int_loopback n) then .next s
  else if !fcsOk then .next (s.countSat (LANE_CNT n 10))
  else if bytes.length < 14 || 1518 < bytes.length then .next s
  else
    let da := beAt bytes 0 6
    let mine := da == s.t1sMac n && s.t1sMac n != 0
    if !(mine || bitOf (beAt bytes 0 1) 0 || s.isSet (LANE_T1S_CTRL_promisc n)) then .next s
    else
      let f := t1sFrame bytes
      .next (((s.countSat (LANE_CNT n 0)).filterFrame n f (s.laneTime n age)).quietFrame n f)

/-- PLCA_BEACON (R99, R146): the beacon that begins a PLCA cycle. The coordinator sends it; every other node receives it. -/
def execPlcaBeacon (n : Nat) (s : State) : Host.Outcome State Fault Refusal :=
  if s.laneLive n && s.laneKind n == 4 then
    let sends := s.fget (LANE_T1S_PLCA_node_id n) == 0 && !s.laneHeld n && !s.isSet (LANE_PHY_CTRL_int_loopback n)
    let s := if sends then s.emit (.beacon n) else s
    .next (s.fset (LANE_T1S_PLCA_plca_ok n) 1)
  else .next s

/-- PLCA_FALLBACK (R146). On a lane that is disabled or cut off, plca_ok stands. [DESIGN CHOICE, log entry 148] -/
def execPlcaFallback (n : Nat) (s : State) : Host.Outcome State Fault Refusal :=
  if s.laneLive n && s.laneKind n == 4 && s.isSet (LANE_T1S_PLCA_plca_ok n) then
    .next ((s.fset (LANE_T1S_PLCA_plca_ok n) 0).countSat (LANE_CNT n 15))
  else .next s

/-! ### Wake detectors (R106 to R108) -/

/-- Lane n's detector fires: a source of R421. With CORE running it causes no wake and raises no WAKE, an overflow raises its own event
(R108), and the firing is an on request, in Paddock too. [DEDUCED, log entry 41; DESIGN CHOICE, log entry 143] -/
def State.laneWakes (s : State) (n : Nat) (q : OnReq) : State :=
  let s := if s.coreOn && q.code == 3 then s.raise (12 * n + 5) else s
  s.powerSource q

/-- Widths in ns between which the outcome of a dominant pulse is open: ignored below, wakes from (R107).
[DEDUCED, log entry 40] -/
def edgeWidths : Nat → Nat × Nat
  | 2 => (30000, 150000)
  | 3 => (30000, 150000)
  | 4 => (300, 1000)
  | _ => (500, 1000)

/-- DOMINANT_EDGE_WAKE (R107): bus activity of `ns` at a watching dominant-edge detector. [DEDUCED, log entry 40] -/
def execDominantEdgeWake (n ns : Nat) (s : State) : Host.Outcome State Fault Refusal :=
  let l := s.lane n
  let w := edgeWidths l.aonKind
  if !lanePresent s.variant n || l.watching != 1 || ns < w.1 then .next s
  else if w.2 ≤ ns then .next (s.laneWakes n { code := 1, lane := n })
  else
    let t := s.drew 1
    if s.free % 2 = 1 then .next (t.laneWakes n { code := 1, lane := n }) else .next t

/-- SELECTIVE_WAKE_MATCH (R108): a frame without error at a watching selective-wake detector. A Classical frame that
does not match lowers the error count; FD and XL frames are ignored. -/
def execSelectiveWakeMatch (n : Nat) (f : LaneFrame) (s : State) : Host.Outcome State Fault Refusal :=
  let l := s.lane n
  if !lanePresent s.variant n || l.watching != 2 then .next s
  else
    let s := s.setLane n { l with pnOscillator := true, pnErrors := if f.format = 0 then l.pnErrors - 1 else l.pnErrors }
    let w := fun i => l.aonPn.getD i 0
    if pnMatch (w 0) (w 1) (w 2) (w 3) (w 4) f then .next (s.laneWakes n { code := 2, lane := n, ide := f.ide, id := f.id })
    else .next s

/-- PN_ERROR_OVERFLOW (R108): a frame error at a watching selective-wake detector; the 32nd signals a wake. -/
def execPnErrorOverflow (n : Nat) (s : State) : Host.Outcome State Fault Refusal :=
  let l := s.lane n
  if !lanePresent s.variant n || l.watching != 2 then .next s
  else
    let s := s.setLane n { l with pnOscillator := true, pnErrors := min 32 (l.pnErrors + 1) }
    if l.pnErrors = 31 then .next (s.laneWakes n { code := 3, lane := n }) else .next s

end Sys2Proof.Machine
end

