-- ==== Sys2Proof/Machine/Gates.lean ====
section
/-!
DEFINITION. The gate lists of the Ethernet ports (R256 to R259): the list in force, the entry in progress, and the
fallback list that a port takes while its domain is outside its guard.
-/

namespace Sys2Proof.Machine

/-- The domain is inside its guard (R342). -/
def State.inside (s : State) (d : Nat) : Bool := s.isSet (TMB_DOM_STATUS_inside d)

/-- The entry at an aperture address has bad parity (R266). -/
def State.isBad (s : State) (a : Nat) : Bool := look (fun _ => false) s.badEntries a
def State.setBad (s : State) (a : Nat) (b : Bool) : State :=
  { s with badEntries := put (fun _ => false) s.badEntries a b }

def noGate (_ : Nat) : PortGate := {}
def State.gate (s : State) (n : Nat) : PortGate := look noGate s.portGates n
def State.setGate (s : State) (n : Nat) (g : PortGate) : State := { s with portGates := put noGate s.portGates n g }

/-- Aperture address of gate-list entry i of En, and of its fallback entry i (R265). -/
def gateAt (n i : Nat) : Nat := 0x104A0000 + 8 * (256 * n + i)
def fallbackAt (n i : Nat) : Nat := 0x104A8000 + 8 * (64 * n + i)

def State.onFallback (s : State) (n : Nat) : Bool := s.isSet (STM_GCL_STATUS_fallback n)
def State.gclDomain (s : State) (n : Nat) : Nat := s.fget (STM_GCL_CTRL_domain n)

/-! ### Shaper credits (R255) -/

/-- Class c of En is on the line. -/
def Eth.sending (e : Eth) (c : Nat) : Bool :=
  (match e.tx with | some y => y.2 == c | none => false) ||
  (!e.preCut && match e.pre with | some y => y.2 == c | none => false)

def noCredit (_ : Nat) : Int := 0
def State.cbsAt (s : State) (n c : Nat) : Int := look noCredit s.cbs (8 * n + c)

/-- Class c's credit of En after `dt` ticks, in 4 × 10^-6 bit: frozen by a closed gate or a Hobble hold, falling while
the class transmits, rising while it holds a frame, and 0 once it holds none with the credit positive.
[DEDUCED, log entry 52] -/
def State.creditAfter (s : State) (n c dt : Nat) : Int :=
  let e := s.eth n
  let old := s.cbsAt n c
  let idle := s.fget (STM_CBS_SLOPE_idle_slope n c)
  let holds := !(s.egressQ (8 * n + c)).isEmpty
  if !s.isSet (STM_CBS_SLOPE_en n c) then 0
  else
    let new :=
      if !bitOf (s.gate n).gates c then old
      else if e.sending c then old - ((s.portSpeed n * 1000 - idle) * dt : Nat)
      else if e.budgetCls.contains c then old
      else if holds then old + (idle * dt : Nat)
      else old
    if !holds && !e.sending c && decide (0 < new) then 0 else new

/-- The credits of En brought up to now. Called before whatever changes their slopes. [DEDUCED, log entry 52] -/
def State.creditUpdate (s : State) (n : Nat) : State :=
  let dt := s.uptime - (s.gate n).credTick
  let s1 := s.setGate n { s.gate n with credTick := s.uptime }
  { s1 with cbs := (List.range 8).foldl (fun m c => put noCredit m (8 * n + c) (s.creditAfter n c dt)) s1.cbs }

/-! ### The list in force -/

/-- Addresses of the entries of the list in force, in order; none before an oper list exists. -/
def State.gateList (s : State) (n : Nat) : List Nat :=
  if s.onFallback n then (List.range (s.fget (STM_GCL_FB_len n))).map (fallbackAt n)
  else if (s.reg (STM_GCL_OPER_CYCLE n)).toNat = 0 then []
  else (List.range (s.fget (STM_GCL_STATUS_oper_len_m1 n) + 1)).map fun i => gateAt n (s.fget (STM_GCL_STATUS_oper_start n) + i)

/-- Cycle time of the list in force. -/
def State.gateCycle (s : State) (n : Nat) : Nat :=
  if s.onFallback n then (s.reg (STM_GCL_FB_CYCLE n)).toNat else (s.reg (STM_GCL_OPER_CYCLE n)).toNat

/-- Time into the cycle of the list in force, in the port's domain. -/
def State.gatePhase (s : State) (n : Nat) : Nat :=
  let t := s.timeNs (s.gclDomain n)
  let base := if s.onFallback n then (s.gate n).fbBase else (s.gate n).operBase
  let c := s.gateCycle n
  if c = 0 then t - base else (t - base) % c

/-- The entry that holds a position in the cycle: the last entry lasts to its end (R257). -/
def entryAt : List (Nat × Nat) → Nat → Nat → Option (Nat × Nat)
  | [], _, _ => none
  | [(i, a)], _, _ => some (i, a)
  | (i, a) :: rest, start, pos => if pos < start + a then some (i, a) else entryAt rest (start + a) pos

/-- The entry of the list in force at this time: its place in the list and its aperture address. -/
def State.gateEntryNow (s : State) (n : Nat) : Option (Nat × Nat) :=
  let l := (s.gateList n).zipIdx.map fun (a, i) => (i, s.eget a GATE_interval)
  (entryAt l 0 (s.gatePhase n)).bind fun e => ((s.gateList n)[e.1]?).map fun a => (e.1, a)

/-- The gates that an entry sets: every gate, for an entry bad in parity (R266). -/
def State.gatesOf (s : State) (a : Nat) : Nat := if s.isBad a then 255 else s.eget a GATE_gates

/-- The gates take the states of the entry in progress; without a list or with an empty fallback all are open. -/
def State.gateBegin (s : State) (n : Nat) : State :=
  let s := s.creditUpdate n
  if !s.isSet (STM_GCL_CTRL_enable n) then s.setGate n { s.gate n with gates := 255 }
  else
    match s.gateEntryNow n with
    | none => s.setGate n { s.gate n with gates := 255 }
    | some (i, a) =>
      let idx := if s.onFallback n then i else s.fget (STM_GCL_STATUS_oper_start n) + i
      (s.fset (STM_GCL_STATUS_index n) idx).setGate n { s.gate n with gates := s.gatesOf a }

/-- The gates and length of each stretch of one cycle, from entry intervals: the last entry lasts to the end of the
cycle, and entries that the cycle's end cuts off are skipped (R257). -/
def gateSegs (cycle : Nat) : List (Nat × Nat) → Nat → List (Nat × Nat)
  | [], _ => []
  | [(g, _)], start => if start < cycle then [(g, cycle - start)] else []
  | (g, i) :: rest, start =>
    if cycle ≤ start then [] else if cycle ≤ start + i then [(g, cycle - start)] else (g, i) :: gateSegs cycle rest (start + i)

/-- The stretches of the list in force. -/
def State.gateRun (s : State) (n : Nat) : List (Nat × Nat) :=
  let l := (s.gateList n).map fun a => (s.gatesOf a, s.eget a GATE_interval)
  let sum := l.foldl (fun v e => v + e.2) 0
  gateSegs (if s.gateCycle n = 0 then sum else s.gateCycle n) l 0

/-- Time for which class c stays open at the start of a list of stretches. -/
def openFor (c : Nat) : List (Nat × Nat) → Nat
  | [] => 0
  | (g, t) :: rest => if bitOf g c then t + openFor c rest else 0

/-- The stretches from a position in the cycle on. -/
def segsFrom : List (Nat × Nat) → Nat → List (Nat × Nat)
  | [], _ => []
  | (g, t) :: rest, pos => if pos < t then (g, t - pos) :: rest else segsFrom rest (pos - t)

/-- Time until class c's gate of En next closes; none where it never does (R257). -/
def State.openLeft (s : State) (n c : Nat) : Option Nat :=
  let run := s.gateRun n
  if !s.isSet (STM_GCL_CTRL_enable n) || run.all fun e => bitOf e.1 c then none
  else some (openFor c (segsFrom run (s.gatePhase n) ++ run))

/-- The longest unbroken open time of each class, across the cycle boundary (R257). -/
def State.longestOpen (s : State) (n : Nat) : List (Option Nat) :=
  let run := s.gateRun n
  (List.range 8).map fun c =>
    if !s.isSet (STM_GCL_CTRL_enable n) || run.all fun e => bitOf e.1 c then none
    else some ((List.range run.length).foldl (fun m i => max m (openFor c (run.drop i ++ run))) 0)

/-- A list comes into force: the longest open times are computed, and the gates follow its entry in progress.
[DEDUCED, log entry 72] -/
def State.gateForce (s : State) (n : Nat) : State :=
  (s.setGate n { s.gate n with longest := s.longestOpen n }).gateBegin n

/-- A port takes its fallback list at once, from its entry 0 (R259). [DEDUCED, log entry 72] -/
def State.gateFallback (s : State) (n : Nat) : State :=
  if s.onFallback n then s
  else
    let s := (s.fset (STM_GCL_STATUS_fallback n) 1).fcount (STM_GCL_STATUS_fb_count n)
    let s := s.setGate n { s.gate n with fbBase := s.timeNs (s.gclDomain n) }
    (s.gateForce n).raise 1426

/-- Every port with a gate list in domain d takes its fallback list (R259). -/
def State.gatesLoseGuard (s : State) (d : Nat) : State :=
  (List.range 16).foldl (fun t n =>
    if portPresent t.variant n && t.isSet (STM_GCL_CTRL_enable n) && t.gclDomain n == d then t.gateFallback n else t) s

end Sys2Proof.Machine
end

