-- ==== Sys2Proof/Machine/Tables.lean ====
section
/-!
DEFINITION. The tables of the aperture (R539): where each entry stands, which of its bits are kept, its owner, parity
and seal, an aperture write under R215, R216 and R265, and the finding and repair of bad parity (R212, R266, R329).
-/

namespace Sys2Proof.Machine

/-- The writable tables of the aperture. -/
inductive Tab where
  | fdb (p : Nat)
  | spill (p : Nat)
  | rules (p : Nat)
  | frer (p : Nat)
  | mirror
  | filter
  | policer
  | school
  | counters
  | gate
  | fallback
  | sa
  | frameRoute
  | signalRoute
deriving DecidableEq, Repr

def Tab.base : Tab → Nat
  | .fdb p => 0x10000000 + 0x200000 * p
  | .spill p => 0x10100000 + 0x200000 * p
  | .rules p => 0x10110000 + 0x200000 * p
  | .frer p => 0x10120000 + 0x200000 * p
  | .mirror => 0x10130000
  | .filter => 0x10400000
  | .policer => 0x10410000
  | .school => 0x10430000
  | .counters => 0x10480000
  | .gate => 0x104A0000
  | .fallback => 0x104A8000
  | .sa => 0x10500000
  | .frameRoute => 0x11000000
  | .signalRoute => 0x12000000

/-- Entry size in bytes. -/
def Tab.size : Tab → Nat
  | .rules _ | .frer _ | .sa => 64
  | .mirror | .frameRoute => 32
  | .filter | .gate | .fallback => 8
  | _ => 16

def Tab.count : Tab → Nat
  | .fdb _ => 65536
  | .spill _ => 256
  | .rules _ => 512
  | .frer _ | .fallback | .sa => 1024
  | .mirror => 8
  | .filter | .policer | .counters => 8192
  | .school => 16384
  | .gate => 4096
  | .frameRoute => 65536
  | .signalRoute => 262144

/-- The aperture address of entry i. -/
def Tab.at (t : Tab) (i : Nat) : Nat := t.base + t.size * i

/-- Every table. -/
def tabs : List Tab :=
  [.fdb 0, .fdb 1, .spill 0, .spill 1, .rules 0, .rules 1, .frer 0, .frer 1, .mirror, .filter, .policer, .school,
    .counters, .gate, .fallback, .sa, .frameRoute, .signalRoute]

/-- The table and entry that hold an aperture address. -/
def tabAt (a : Nat) : Option (Tab × Nat) :=
  (tabs.find? fun t => decide (t.base ≤ a) && decide (a < t.base + t.size * t.count)).map fun t =>
    (t, (a - t.base) / t.size)

/-- The bits of each word of an entry that software may write (the Access columns of R194 to R312 and R360). -/
def Tab.masks : Tab → List Nat
  | .fdb _ | .spill _ => [0xFFFFFFFF, 0x0FFFFFFF, 0xFFFFFFFF, 0xFF000000]
  | .rules _ => List.replicate 10 0xFFFFFFFF ++ [0xFFFFFF00, 0x80001FFF, 0xFF000000, 0, 0, 0]
  | .frer _ =>
    [0xF8001FFF, 0xFFFFFFFF, 0x001FFFFF, 0xFFFFFFFF, 0xFFFFFFFF, 0x80000000, 0, 0] ++ List.replicate 6 0xFFFFFFFF ++ [0, 0]
  | .mirror => [0xF7F0FFFF, 0xFF000000, 0xFFFFFFFF, 0xFFFFFFFF, 0x003FFFFF, 0xFFFFFFFF, 0xFFFFFFFF, 0x0000FFFF]
  | .filter => [0xFBFFFFFF, 0x00003FFF]
  | .policer => [0xFFFFFFFF, 0x000FFFFF, 0xFFFFFFFF, 0xE0000000]
  | .school => [0xFFFFFF80, 0x3FFFFFFF, 0xFFFFFFFF, 0xFFFFFFFF]
  | .counters => [0xFFFFFFFF, 0xFFFFFFFF, 0xFFFFFFFF, 0xFFFFFFFF]
  | .gate | .fallback => [0x3FF, 0xFFFFFFFF]
  | .sa => [0xFF800000 + 0x00780FFF, 0xFF01FFFF] ++ List.replicate 12 0xFFFFFFFF ++ [0, 0]
  | .frameRoute => [0xFFFFFFFF, 0xFFFFFFFF, 0xFFFFFFFF, 0xFFFFFFFF, 0xFFFFFFFF, 0xFFFFFFFF, 0xFFFFFFFF, 0]
  | .signalRoute => [0xFFE3FFFF, 0xFFFFFFFF, 0xFFFFFFFF, 0xFFFFFFFC]

/-- The bits of word w of an SA that exist: word 0 without [18:12], word 1 without [23:17], word 14 none. -/
def saMask (w : Nat) : Nat := if w = 14 then 0 else Tab.sa.masks.getD w 0

/-- The bits of word w of a frame route of each kind (R306 to R310). -/
def routeMask (kind w : Nat) : Nat :=
  let l := match kind with
    | 1 => [0xFFFFFFFF, 0x1FFFFFFF, 0x3FFFFFFF, 0xFE03FFFF, 0xFFFF9FFF, 0, 0, 0]
    | 2 => [0xFFFFFFFF, 0x1FFFFFFF, 0xFFFFFFFF, 0xFFFFFF00, 0x80001FFF, 0, 0, 0]
    | 3 => [0xFFFFFFFF, 0xFFFFFFFF, 0xFFFFFFFF, 0xFFFFFFFF, 0xFFFFFFFF, 0xFFFF807F, 0x9FFFFFFF, 0]
    | _ => Tab.frameRoute.masks
  l.getD w 0

/-- Writable bits of word w of an entry whose word 0 is `w0`. -/
def Tab.mask (t : Tab) (w0 : Word) (w : Nat) : Nat :=
  match t with
  | .sa => saMask w
  | .frameRoute => routeMask (getField w0 29 28) w
  | .signalRoute => if w = 1 then (if getField w0 30 30 = 1 then 0xFFFFFFFC else 0xFFFFFFC0) else t.masks.getD w 0
  | _ => t.masks.getD w 0

/-- The parity bit of an entry. Gate-list and counter entries show none. -/
def Tab.parity : Tab → Option EFld
  | .fdb _ | .spill _ => some FDB_parity
  | .rules _ => some RULE_parity
  | .frer _ => some FRER_parity
  | .mirror => some MIR_parity
  | .filter => some SFLT_parity
  | .policer => some POL_parity
  | .school => some SCH_parity
  | .sa => some SA_parity
  | .frameRoute => some ROUTE_parity
  | .signalRoute => some SIGR_parity
  | _ => none

/-- Bits that the model keeps inverted, so that an empty entry is all zeros: take_any of a FRER entry resets to 1. -/
def Tab.flip (t : Tab) (w : Nat) : Nat :=
  match t with
  | .frer _ => if w = 5 then 0x80000000 else 0
  | _ => 0

/-- The owner field of an entry with the given word 0 (a frame route's place depends on its kind, R306 to R310). -/
def Tab.ownerFld (t : Tab) (w0 : Word) : Option EFld :=
  match t with
  | .fdb _ | .spill _ => some FDB_owner
  | .rules _ => some RULE_owner
  | .frer _ => some FRER_owner
  | .mirror => some MIR_owner
  | .filter => some SFLT_owner
  | .policer => some POL_owner
  | .school => some SCH_owner
  | .sa => some SA_owner
  | .signalRoute => some SIGR_owner
  | .frameRoute =>
    match getField w0 29 28 with
    | 1 | 2 => some RXR_owner
    | 3 => some ETHD_owner
    | _ => none
  | _ => none

/-- The owner field may change at run time: FDB and spill-CAM entries (R196, R216), and SAs, which no image places. -/
def Tab.ownerMoves : Tab → Bool
  | .fdb _ | .spill _ | .sa => true
  | _ => false

/-- The owner tag of entry i (R52, R196, R265). -/
def State.tagOf (s : State) (t : Tab) (i : Nat) : Nat :=
  match t with
  | .fdb _ | .spill _ => s.eget (t.at i) FDB_owner
  | .sa => s.eget (t.at i) SA_owner
  | .counters => look (fun _ => 0) s.tags (Tab.filter.at i)
  | _ => look (fun _ => 0) s.tags (t.at i)

/-- The entry lies in a sealed sub-block. -/
def State.isSealed (s : State) (a : Nat) : Bool := s.sealedAt.any fun e => decide (e.1 ≤ a) && decide (a < e.1 + e.2)

/-- The tables of an absent unit: the gate lists of an absent port (R9). -/
def State.tabAbsent (s : State) (t : Tab) (i : Nat) : Bool :=
  match t with
  | .gate => !portPresent s.variant (i / 256)
  | .fallback => !portPresent s.variant (i / 64)
  | _ => false

/-- Bits of word w of a logical-port bitmap (R221) whose ports have an endpoint on this part. -/
def presentBits (v : Variant) (w : Nat) : Nat :=
  (List.range 32).foldl (fun m i => if logicalPresent v (32 * w + i) then m + 2 ^ i else m) 0

/-- The word of the learn, flood or group bitmap at an offset of an FWD block, if it is one. -/
def bitmapWord (off : Nat) : Option Nat :=
  if 0x10 ≤ off ∧ off < 0x1C then some ((off - 0x10) / 4)
  else if 0x20 ≤ off ∧ off < 0x2C then some ((off - 0x20) / 4)
  else if 0x1000 ≤ off ∧ off < 0x1400 ∧ off % 16 < 12 then some (off % 16 / 4)
  else none

/-! ### Parity as software sees it -/

/-- The parity of an entry's bytes: true when an odd number of bits is set. -/
def oddBits (bs : List Byte) : Bool := bs.foldl (fun v b => v != (popCount 8 b.toNat % 2 == 1)) false

/-- Word w of entry i as a read returns it: the parity bit makes the entry's bits even, unless the entry is bad. The
count of a frame route is outside parity (R306). -/
def State.entryWord (s : State) (t : Tab) (i w : Nat) : Word :=
  let a := t.at i
  let v := s.aperWord (a + 4 * w) ^^^ word (t.flip w)
  match t.parity with
  | some f =>
    if f.word = w then
      let covered := if t = .frameRoute then 28 else t.size
      let own := oddBits (leBytes 4 (t.flip 5))
      setField v f.hi f.lo (b2n (((oddBits (memRead s.aper a covered)) != own) != s.isBad a))
    else v
  | none => v

/-! ### Writes -/

/-- The block of a table whose write_reject counter and DENIED_WRITE event a breach uses: counter and event.
[DEDUCED, log entry 61] -/
def State.tabDenied (s : State) : Tab → State
  | .fdb p | .spill p | .rules p | .frer p =>
    (s.countHalf (FWD_CNT p 29) ⟨FWD_CNT_HALF p, 29, 29⟩ (1036 + 32 * p) 1).raise (1037 + 32 * p)
  | .mirror => (s.countHalf (FWD_CNT 0 29) ⟨FWD_CNT_HALF 0, 29, 29⟩ 1036 1).raise 1037
  | .sa => (s.countHalf (CIP_CNT 17) ⟨CIP_CNT_HALF, 17, 17⟩ 1131 1).raise 1132
  | .frameRoute | .signalRoute => (s.countHalf (SIG_GW_CNT 15) ⟨SIG_GW_CNT_HALF, 15, 15⟩ 1446 1).raise 1445
  | _ => (s.countHalf (STM_CNT 15) ⟨STM_CNT_HALF, 15, 15⟩ 1432 1).raise 1433

/-- A breach of R216: counted by the table's block, and logged as an ignored table write (R409).
[DEDUCED, log entry 61] -/
def State.tabBreach (s : State) (r : Requester) (t : Tab) (a : Nat) : State :=
  (s.tabDenied t).rejectWrite r 1 ((a - 0x10000000) / 16)

/-- Bits of word w of an entry that this part has: the mirror-mask bits of absent logical ports read 0 (R220). -/
def State.entryMask (s : State) (t : Tab) (w0 : Word) (w : Nat) : Word :=
  word (t.mask w0 w) &&& (if t = .mirror ∧ 2 ≤ w ∧ w ≤ 4 then word (presentBits s.variant (w - 2)) else word 0xFFFFFFFF)

/-- Entry bytes as a write of `bs` at offset `off` leaves them: read-only bits keep their value. -/
def State.entryAfter (s : State) (t : Tab) (i off : Nat) (bs : List Byte) : List Byte :=
  let a := t.at i
  let w0 := if off = 0 then word (leAt bs 0 4) else s.aperWord a
  (List.range (t.size / 4)).flatMap fun w =>
    let old := s.aperWord (a + 4 * w)
    if off ≤ 4 * w ∧ 4 * w + 4 ≤ off + bs.length then
      let m := s.entryMask t w0 w
      let new := word (leAt bs (4 * w - off) 4) ^^^ word (t.flip w)
      leBytes 4 ((new &&& m) ||| (old &&& ~~~m)).toNat
    else leBytes 4 old.toNat

/-- An auto stream ID leaves its entry: it waits for its return to the pool (R188). -/
def State.autoRelease (s : State) (a : Nat) : State :=
  if s.eIs a FDB_auto && s.eIs a FDB_stream_valid then
    { s with autoIds := put (fun _ => 0) s.autoIds (s.eget a FDB_stream) 2 }
  else s

/-- An FDB or spill-CAM entry is removed (R188, R199). -/
def State.fdbRemove (s : State) (a : Nat) : State :=
  let s := s.autoRelease a
  { s.setAper a (List.replicate 16 0) with ovfRaised := put (fun _ => false) s.ovfRaised a false }

/-- The owner of a valid FDB or spill-CAM entry written as `new`: a static entry of the image keeps its tag, and any other
takes the writer's owner (R196). -/
def State.fdbOwner (s : State) (r : Requester) (a : Nat) (new : List Byte) : Nat :=
  let placed := s.eIs a FDB_valid && s.eIs a FDB_static && memRead s.aperImage a 16 != List.replicate 16 0
  if placed && bitOf (leAt new 8 4) 30 then s.eget a FDB_owner else (s.ownerOf r).getD 0

/-! ### Packet numbers of the MACsec SAs (R360, R365) -/

def saAt (i : Nat) : Nat := Tab.sa.at i

/-- Next PN of an SA (R360). -/
def State.saPn (s : State) (i : Nat) : Nat :=
  s.eget (saAt i) SA_next_pn_lo + s.eget (saAt i) SA_next_pn_hi * 2 ^ 32

/-- The suite uses extended packet numbers. -/
def State.saXpn (s : State) (i : Nat) : Bool := decide (2 ≤ s.eget (saAt i) SA_suite)

/-- The last PN of an SA's space (R365). -/
def State.saTop (s : State) (i : Nat) : Nat := if s.saXpn i then 2 ^ 64 - 1 else 2 ^ 32 - 1

/-- The part of next_pn that CIP_CFG.pn_warn is compared with (R365). -/
def State.saPnPart (s : State) (i : Nat) : Nat := if s.saXpn i then s.saPn i / 2 ^ 32 else s.saPn i % 2 ^ 32

/-- SA i has been written or invalidated: what R365 keeps of it ends with the SA, or with a next PN back in its space.
[DEDUCED, log entry 158] -/
def State.saRewritten (s : State) (i : Nat) : State :=
  let gone := !s.eIs (saAt i) SA_valid
  let s := if gone || decide (s.saPnPart i ≤ (s.reg CIP_CFG).toNat) then { s with pnWarned := put (fun _ => false) s.pnWarned i false } else s
  if gone || decide (s.saPn i < s.saTop i) then { s with pnSpent := put (fun _ => false) s.pnSpent i false } else s

/-- What a breach-free write changes besides the entry's bits. -/
def State.entryEffects (s : State) (t : Tab) (i off len : Nat) : State :=
  let a := t.at i
  match t with
  | .rules _ => if 48 ≤ off + len - 1 then s.eset a RULE_hits 0 else s
  | .policer => if off < 12 then { s with buckets := put (fun _ => {}) s.buckets i {} } else s
  | .frameRoute => if 16 < off + len then s.eset a ROUTE_count 0 else s
  | .sa => s.saRewritten i
  | _ => s

/-- The owner field that a write carries differs from the entry's tag. -/
def State.ownerBreach (s : State) (t : Tab) (i off : Nat) (new : List Byte) (len : Nat) : Bool :=
  if t.ownerMoves then false
  else
    match t.ownerFld (word (leAt new 0 4)) with
    | none => false
    | some f =>
      decide (off ≤ 4 * f.word) && decide (4 * f.word + 4 ≤ off + len) &&
        getField (word (leAt new (4 * f.word) 4)) f.hi f.lo != s.tagOf t i

/-- Bytes of shadow that a definition takes; an entry that is not valid takes none (R318). -/
def shadowSize (w0 w5 : Nat) : Nat :=
  if !bitOf w0 31 then 0
  else match bitsOf w0 29 28 with
  | 2 => max 16 ((bitsOf w0 17 11 + 15) / 16 * 16)
  | 3 => if bitOf w0 27 then 80 * bitsOf w5 6 0 else 16 + 12 * bitsOf w5 6 0
  | _ => 0

/-- A valid definition whose write would enlarge its shadow (R318). -/
def State.shadowBreach (s : State) (t : Tab) (i : Nat) (new : List Byte) : Bool :=
  if t = .frameRoute then
    let a := t.at i
    decide (shadowSize (s.aperWord a).toNat (s.aperWord (a + 20)).toNat < shadowSize (leAt new 0 4) (leAt new 20 4))
  else false

/-- Entry i is an empty way, which takes the owner of whoever fills it (R196). -/
def State.emptyWay (s : State) (t : Tab) (i : Nat) : Bool :=
  match t with
  | .fdb _ | .spill _ => !s.eIs (t.at i) FDB_valid
  | _ => false

/-- A write of `bs` at offset `off` of entry i breaches R216. -/
def State.entryBreach (s : State) (r : Requester) (t : Tab) (i off : Nat) (bs : List Byte) : Bool :=
  let new := s.entryAfter t i off bs
  s.isSealed (t.at i) || !(s.mayUse r (s.tagOf t i) || s.emptyWay t i && (s.ownerOf r).isSome) || s.ownerBreach t i off new bs.length || s.shadowBreach t i new ||
    (t == .counters && bs.any (· != 0))

/-- A write that its own rule ignores: a filter naming policer 8,191 (R249), an SA naming an absent port (R359), a
fallback entry, which is RWC (R259, R531). The first two are counted in write_reject. -/
def State.entryIgnored (s : State) (t : Tab) (new : List Byte) : Option Bool :=
  match t with
  | .filter => if bitsOf (leAt new 0 4) 25 13 = 8191 then some true else none
  | .sa => if bitOf (leAt new 0 4) 31 ∧ !portPresent s.variant (bitsOf (leAt new 0 4) 22 19) then some true else none
  | .fallback => some false
  | _ => none

/-- The write_reject counter of a table's block alone. -/
def State.tabReject (s : State) : Tab → State
  | .sa => s.countHalf (CIP_CNT 17) ⟨CIP_CNT_HALF, 17, 17⟩ 1131 1
  | _ => s.countHalf (STM_CNT 15) ⟨STM_CNT_HALF, 15, 15⟩ 1432 1

/-- par_inject of the pipeline whose window is written: it inverts the parity of this write and clears (R215). -/
def State.takeInject (s : State) (t : Tab) : State × Bool :=
  let p := match t with
    | .fdb p | .spill p | .rules p | .frer p => some p
    | .mirror => some 0
    | _ => none
  match p with
  | some p => (s.fset (FWD_CTRL_par_inject p) 0, s.isSet (FWD_CTRL_par_inject p))
  | none => (s, false)

/-- An entry's bytes with its owner tag in the field that its layout gives the owner: field and tag are one value (R52). -/
def State.withTag (s : State) (t : Tab) (i : Nat) (new : List Byte) : List Byte :=
  match t.ownerFld (word (leAt new 0 4)) with
  | some f =>
    if t.ownerMoves then new
    else overlay new (4 * f.word) (leBytes 4 (setField (word (leAt new (4 * f.word) 4)) f.hi f.lo (s.tagOf t i)).toNat)
  | none => new

/-- The bytes of an entry are stored with the parity the device computes, inverted where `flip` says so (R215). -/
def State.entryStore (s : State) (r : Requester) (t : Tab) (i off : Nat) (bs : List Byte) (flip : Bool) : State :=
  let a := t.at i
  let new := s.withTag t i (s.entryAfter t i off bs)
  let owner := s.fdbOwner r a new
  let s := match t with
    | .fdb _ | .spill _ => { s.autoRelease a with ovfRaised := put (fun _ => false) s.ovfRaised a false }
    | _ => s
  let s := match t with
    | .fdb _ | .spill _ =>
      if bitOf (leAt new 8 4) 15 ∧ bitOf (leAt new 8 4) 14 then
        { s with autoIds := put (fun _ => 0) s.autoIds (bitsOf (leAt new 8 4) 12 0) 1 }
      else s
    | _ => s
  let s := ((s.setAper a new).setBad a flip).entryEffects t i off bs.length
  match t with
  | .fdb _ | .spill _ => if s.eIs a FDB_valid then s.eset a FDB_owner owner else s
  | _ => s

/-- One entry's part of an aligned write (R215, R216, R265). -/
def State.entryWrite (s : State) (r : Requester) (t : Tab) (i off : Nat) (bs : List Byte) : State :=
  let a := t.at i + off
  if s.tabAbsent t i then s.absentWrite
  else
    if s.entryBreach r t i off bs then s.tabBreach r t a
    else
      match s.entryIgnored t (s.entryAfter t i off bs) with
      | some counted => if counted then (s.tabReject t).rejectWrite r 1 ((a - 0x10000000) / 16) else s
      | none => (s.takeInject t).1.entryStore r t i off bs (s.takeInject t).2

/-- An aperture write to a table window: 16 bytes aligned to 16, or a breach (R216). -/
def State.tabWrite (s : State) (r : Requester) (a : Nat) (bs : List Byte) : State :=
  match tabAt a with
  | none => s
  | some (t, i) =>
    if a % 16 ≠ 0 ∨ bs.length ≠ 16 then
      if s.tabAbsent t i then s.absentWrite else s.tabBreach r t a
    else if t.size = 8 then
      (s.entryWrite r t i 0 (bs.take 8)).entryWrite r t (i + 1) 0 (bs.drop 8)
    else s.entryWrite r t i (a - t.at i) bs

/-- A read of one word of a table window: 0 for a requester of another owner (R216, R408) and for an absent unit. -/
def State.tabRead (s : State) (r : Requester) (t : Tab) (i w : Nat) : Word :=
  if s.tabAbsent t i || !s.mayUse r (s.tagOf t i) then 0 else s.entryWord t i w

/-- A 32-bit word of a table entry counts one and saturates. -/
def State.entCount (s : State) (a w : Nat) : State :=
  s.setAperWord (a + 4 * w) (word (min ((s.aperWord (a + 4 * w)).toNat + 1) 0xFFFFFFFF))

/-! ### Bad parity (R212, R266, R329) -/

/-- Bits of an entry change in the SRAM: bit b of the entry's bytes. An odd number makes the parity bad; the device
does not detect an even number. -/
def State.upset (s : State) (t : Tab) (i : Nat) (bits : List Nat) : State :=
  let a := t.at i
  bits.foldl (fun u b =>
    let flipped : Byte := BitVec.ofNat 8 (2 ^ (b % 8))
    let u := if b < 8 * t.size then u.setAper (a + b / 8) [memGet u.aper (a + b / 8) ^^^ flipped] else u
    u.setBad a (!u.isBad a)) s

/-- The parity log, counter and event of a table's block; `index` as the log shows it. -/
def State.parityFound (s : State) (t : Tab) (i : Nat) : State :=
  match t with
  | .fdb p | .spill p | .rules p | .frer p =>
    let code := match t with | .spill _ => 1 | .rules _ => 2 | .frer _ => 3 | _ => 0
    let s := if s.isSet (FWD_PAR_LOG_valid p) then s
      else s.fsets [(FWD_PAR_LOG_valid p, 1), (FWD_PAR_LOG_table p, code), (FWD_PAR_LOG_index p, i)]
    (s.countHalf (FWD_CNT p 27) ⟨FWD_CNT_HALF p, 27, 27⟩ (1036 + 32 * p) 1).raise (1027 + 32 * p)
  | .mirror =>
    let s := if s.isSet (FWD_PAR_LOG_valid 0) then s
      else s.fsets [(FWD_PAR_LOG_valid 0, 1), (FWD_PAR_LOG_table 0, 4), (FWD_PAR_LOG_index 0, i)]
    (s.countHalf (FWD_CNT 0 27) ⟨FWD_CNT_HALF 0, 27, 27⟩ 1036 1).raise 1027
  | .frameRoute | .signalRoute =>
    let s := if s.isSet SIG_RT_PAR_LOG_valid then s
      else s.fsets [(SIG_RT_PAR_LOG_valid, 1), (SIG_RT_PAR_LOG_table, if t = .frameRoute then 0 else 1),
        (SIG_RT_PAR_LOG_index, i)]
    (s.countHalf (SIG_GW_CNT 14) ⟨SIG_GW_CNT_HALF, 14, 14⟩ 1446 1).raise 1443
  | .sa =>
    let s := if s.isSet CIP_SA_PAR_LOG_valid then s
      else s.fsets [(CIP_SA_PAR_LOG_valid, 1), (CIP_SA_PAR_LOG_index, i)]
    (s.countHalf (CIP_CNT 18) ⟨CIP_CNT_HALF, 18, 18⟩ 1131 1).raise 1130
  | _ =>
    let code := match t with | .policer => 1 | .school => 2 | .gate => 3 | .fallback => 4 | _ => 0
    let s := if s.isSet STM_PAR_LOG_valid then s
      else s.fsets [(STM_PAR_LOG_valid, 1), (STM_PAR_LOG_table, code), (STM_PAR_LOG_index, i)]
    (s.countHalf (STM_CNT 14) ⟨STM_CNT_HALF, 14, 14⟩ 1432 1).raise 1431

/-- The pipeline whose FWD_SCRUB.busy shows a repair of this table. -/
def Tab.pipe : Tab → Option Nat
  | .fdb p | .spill p | .rules p | .frer p => some p
  | .mirror => some 0
  | _ => none

/-- Some queued repair belongs to pipeline p. -/
def State.repairBusy (s : State) (p : Nat) : Bool :=
  s.repairs.any fun a => match tabAt a with | some (t, _) => t.pipe == some p | none => false

/-- FWD_SCRUB.busy follows the repair queue (R221). -/
def State.scrubBusy (s : State) (t : Tab) : State :=
  match t.pipe with
  | some p => s.fset (FWD_SCRUB_busy p) (b2n (s.repairBusy p))
  | none => s

/-- A lookup, ageing visit or scrub read finds entry i bad: logged, counted, raised and queued for repair. A bad SA
is invalidated at once (R360). [DESIGN CHOICE, log entry 60; DEDUCED, log entry 129] -/
def State.foundBad (s : State) (t : Tab) (i : Nat) : State :=
  let a := t.at i
  let s := s.parityFound t i
  if t = .sa then ((s.setAper a (List.replicate 64 0)).setBad a false).saRewritten i else
  let s := if s.repairs.contains a then s else { s with repairs := s.repairs ++ [a] }
  s.scrubBusy t

/-- The entry is looked at: a bad one is found. The flag says that it is good. [DESIGN CHOICE, log entry 60] -/
def State.check (s : State) (t : Tab) (i : Nat) : State × Bool :=
  if s.isBad (t.at i) then (s.foundBad t i, false) else (s, true)

/-- The repaired contents of entry i, and whether it is restored rather than invalidated. A dynamic FDB entry is
invalidated; a FRER entry is restored with take_any at 1 and counters at 0.
[DEDUCED, log entry 129; DEDUCED, log entry 160] -/
def State.repaired (s : State) (t : Tab) (i : Nat) : List Byte × Bool :=
  let a := t.at i
  let image := memRead s.aperImage a t.size
  let restored := image != List.replicate t.size 0
  match t with
  | .fdb _ | .spill _ => if s.eIs a FDB_static then (image, restored) else (List.replicate 16 0, false)
  | .frer _ => (overlay (overlay image 20 (leBytes 4 0)) 32 (List.replicate 24 0), restored)
  | _ => (image, restored)

/-- scrub_repair of pipeline p counts a repair (R212, R219). [DEDUCED, log entry 160] -/
def State.repairCount (s : State) (p : Nat) : State := s.countHalf (FWD_CNT p 28) ⟨FWD_CNT_HALF p, 28, 28⟩ (1036 + 32 * p) 1

/-- Where the block of a repaired table counts and raises REPAIRED. Traffic control has neither; the routes' repairs count in
scrub_repair of pipeline B, which their frames enter (R329). -/
def State.repairSeen (s : State) (t : Tab) (i : Nat) (restored : Bool) : State :=
  let payload := fun code => leBytes 1 code ++ leBytes 1 (b2n restored) ++ leBytes 2 0 ++ leBytes 4 i
  match t with
  | .fdb p => (s.repairCount p).raiseWith (1028 + 32 * p) (payload 0)
  | .spill p => (s.repairCount p).raiseWith (1028 + 32 * p) (payload 1)
  | .rules p => (s.repairCount p).raiseWith (1028 + 32 * p) (payload 2)
  | .frer p => (s.repairCount p).raiseWith (1028 + 32 * p) (payload 3)
  | .mirror => (s.repairCount 0).raiseWith 1028 (payload 4)
  | .frameRoute => (s.repairCount 1).raiseWith 1444 (payload 0)
  | .signalRoute => (s.repairCount 1).raiseWith 1444 (payload 1)
  | _ => s

/-- A queued repair of entry i completes. -/
def State.repairDone (s : State) (t : Tab) (i : Nat) : State :=
  let a := t.at i
  if !s.repairs.contains a then s
  else
    let r := s.repaired t i
    let s := match t with
      | .fdb _ | .spill _ => s.autoRelease a
      | .policer => { s with buckets := put (fun _ => {}) s.buckets i {} }
      | .school => { s with schools := put (fun _ => {}) s.schools i {} }
      | _ => s
    let s := (s.setAper a r.1).setBad a false
    let s := match t with
      | .frameRoute => { s with gw := { s.gw with defs := mapVals (fun _ => {}) (fun d (v : DefState) =>
          if d = i then { v with entry := [] } else v) s.gw.defs } }
      | _ => s
    ({ s with repairs := s.repairs.filter (· != a) }.scrubBusy t).repairSeen t i r.2

/-- The addresses of the entries of table t that hold anything, lowest first. -/
def State.usedEntries (s : State) (t : Tab) : List Nat :=
  let hi := t.base + t.size * t.count
  ((s.aper.filter fun e => decide (t.base ≤ e.1) && decide (e.1 < hi)).map fun e => (e.1 - t.base) / t.size).eraseDups

end Sys2Proof.Machine
end

