-- ==== Sys2Proof/Machine/Slots.lean ====
section
/-!
DEFINITION. The slots of the Signal Store and what a write to one sets off: the bit-walk of R282, the conversion of
R313, the fields of a slot (R315), the writes of a home bank (R316), and emission into shadows with its triggers (R318).
Slots stand in the table aperture in plaintext; that they are stored encrypted shows only where a key is gone or has
changed (R284, R411, R412).
-/

namespace Sys2Proof.Machine

/-! ### Bit fields of bytes (R282) -/

/-- The positions of a field's bits, bit 0 first. -/
def bitWalk (be : Bool) : Nat → Int → List Int
  | 0, _ => []
  | n + 1, p => p :: bitWalk be n (if be && p % 8 == 7 then p - 15 else p + 1)

/-- Every position lies within `n` bytes. -/
def walkIn (n : Nat) (l : List Int) : Bool := l.all fun p => decide (0 ≤ p) && decide (p < 8 * (n : Int))

/-- The number that the bits at the given positions spell, the first the lowest. -/
def walkGet (bs : List Byte) : List Int → Nat
  | [] => 0
  | p :: ps => (byteAt bs (p.toNat / 8)).toNat / 2 ^ (p.toNat % 8) % 2 + 2 * walkGet bs ps

/-- A byte with bit i set or cleared. -/
def byteBit (b : Byte) (i : Nat) (v : Bool) : Byte :=
  let m : Byte := BitVec.ofNat 8 (2 ^ i)
  if v then b ||| m else b &&& ~~~m

/-- The bytes with the low bits of `v` written at the given positions. -/
def walkPut (bs : List Byte) : List Int → Nat → List Byte
  | [], _ => bs
  | p :: ps, v =>
    let i := p.toNat / 8
    walkPut (bs.set i (byteBit (byteAt bs i) (p.toNat % 8) (v % 2 == 1))) ps (v / 2)

/-! ### Conversion (R313) -/

/-- The signed 64-bit reading of a slot value. -/
def sig64 (v : Nat) : Int := signed 64 v

/-- An integer saturated to w signed bits. -/
def satS (w : Nat) (i : Int) : Int := max (-(2 : Int) ^ (w - 1)) (min ((2 : Int) ^ (w - 1) - 1) i)

/-- ((x × mul) >> shift) + add with an exact product and an arithmetic shift. -/
def convert (x mul : Int) (shift : Nat) (add : Int) : Int := x * mul / (2 : Int) ^ shift + add

/-- The conversion of signal route entry at `a`, exact. -/
def State.routeExact (s : State) (a : Nat) (x : Int) : Int :=
  convert x (signed 24 (s.eget a SIGR_mul)) (s.eget a SIGR_shift) (signed 24 (s.eget a SIGR_add))

/-- The conversion of signal route entry at `a`, saturated to 64 bits. -/
def State.routeConvert (s : State) (a : Nat) (x : Int) : Int := satS 64 (s.routeExact a x)

/-! ### Slots (R289, R315) -/

/-- The fields of a slot. -/
structure Slot where
  value : Nat
  version : Nat
  emitFirst : Nat
  emitCount : Nat
  stale : Bool
  subst : Bool
  action : Nat
  timeout : Nat
  wtime : Nat
deriving DecidableEq, Repr

def slotAt (i : Nat) : Nat := 0x13000000 + 16 * i

/-- Slot i as its home bank holds it. -/
def State.slot (s : State) (i : Nat) : Slot :=
  let bs := memRead s.aper (slotAt i) 16
  let m := leAt bs 8 6
  { value := leAt bs 0 8, version := leAt bs 14 2, emitFirst := bitsOf m 47 30, emitCount := bitsOf m 29 27,
    stale := bitOf m 26, subst := bitOf m 25, action := bitsOf m 24 23, timeout := bitsOf m 22 15, wtime := bitsOf m 14 0 }

/-- The 16 bytes of a slot. -/
def slotBytes (x : Slot) : List Byte :=
  let m := x.emitFirst % 2 ^ 18 * 2 ^ 30 + x.emitCount % 8 * 2 ^ 27 + b2n x.stale * 2 ^ 26 + b2n x.subst * 2 ^ 25 +
    x.action % 4 * 2 ^ 23 + x.timeout % 256 * 2 ^ 15 + x.wtime % 2 ^ 15
  leBytes 8 x.value ++ leBytes 6 m ++ leBytes 2 x.version

/-- The owner tag of a slot (R289, R408). -/
def State.slotOwner (s : State) (i : Nat) : Nat := look (fun _ => 0) s.tags (slotAt i)

def State.slotEpoch (s : State) (i : Nat) : Nat := look (fun _ => 0) s.sig.epoch i

/-- The slot's bytes decrypt: they were written under its owner's present key (R410 to R412). -/
def State.slotClear (s : State) (i : Nat) : Bool := (s.owner (s.slotOwner i)).keyDraw == s.slotEpoch i

/-- Value and version of slot i as a home read returns them: free where they were written under a key now gone.
[DEDUCED, log entry 83] -/
def State.slotRead (s : State) (i : Nat) : State × Nat × Nat :=
  if s.slotClear i && (s.owner (s.slotOwner i)).keyValid then (s, (s.slot i).value, (s.slot i).version)
  else (s.drew 2, s.free % 2 ^ 64, (s.drew 1).free % 2 ^ 16)

/-- A Signal Store counter and a Courser counter of Team t count (R301). -/
def State.sigCnt (s : State) (i : Nat) : State := s.countHalf (SIG_CNT i) ⟨SIG_CNT_HALF, i, i⟩ 1437 1
def State.crsCnt (s : State) (t i : Nat) : State := s.countHalf (CRS_CNT t i) ⟨CRS_CNT_HALF t, i, i⟩ 1437 1

/-- A home request disagrees with the owner tag (R297). -/
def State.sigReject (s : State) : State := (s.sigCnt 7).raise 1436

/-- A gateway owner check fails (R305, R560). -/
def State.gwReject (s : State) : State := (s.gwCount 3 1).raise 1441

/-- The gateway millisecond count (R315). [DEDUCED, log entry 86] -/
def State.gwMs (s : State) : Nat := if s.routingReady then (s.uptime - s.gw.routingTick) / 250000 else 0

/-- The slot's bytes replaced under the next line generation (R413) and the owner's present key.
[DEDUCED, log entry 83] -/
def State.slotStore (s : State) (i : Nat) (x : Slot) : State :=
  let gen := (look (fun _ => 0) s.sig.gen i + 1) % 2 ^ 32
  let s := { s.setAper (slotAt i) (slotBytes x) with
    sig := { s.sig with gen := put (fun _ => 0) s.sig.gen i gen, epoch := put (fun _ => 0) s.sig.epoch i (s.owner (s.slotOwner i)).keyDraw } }
  if gen = 2 ^ 32 - 1 then (s.countSat (SCL_CNT 1)).raise 1449 else s

/-! ### Definitions and shadows (R318) -/

def noDef (_ : Nat) : DefState := {}
def State.defn (s : State) (d : Nat) : DefState := look noDef s.gw.defs d
def State.setDefn (s : State) (d : Nat) (v : DefState) : State :=
  { s with gw := { s.gw with defs := put noDef s.gw.defs d v } }

def noElem (_ : Nat) : Option Elem := none
def State.elem (s : State) (d i : Nat) : Option Elem := look noElem s.gw.elements (64 * d + i)
def State.setElem (s : State) (d i : Nat) (e : Option Elem) : State :=
  { s with gw := { s.gw with elements := put noElem s.gw.elements (64 * d + i) e } }

def routeAt (d : Nat) : Nat := Tab.frameRoute.at d
def sigrAt (i : Nat) : Nat := Tab.signalRoute.at i

/-- The shadow of PDU definition d: its fill bytes until something is written. -/
def State.shadow (s : State) (d : Nat) : List Byte :=
  let len := s.eget (routeAt d) PDU_length
  let l := look (fun _ => ([] : List Byte)) s.gw.shadows d
  l ++ List.replicate (len - l.length) (BitVec.ofNat 8 (s.eget (routeAt d) PDU_fill))
def State.setShadow (s : State) (d : Nat) (l : List Byte) : State :=
  { s with gw := { s.gw with shadows := put (fun _ => []) s.gw.shadows d l } }

/-- Definition d is valid, of a kind, and unlocked. -/
def State.isDef (s : State) (d kind : Nat) : Bool :=
  let a := routeAt d
  decide (d < 65536) && s.eIs a ROUTE_valid && s.eget a ROUTE_kind == kind

/-- The owner of definition d. -/
def State.defOwner (s : State) (d : Nat) : Nat :=
  if s.eget (routeAt d) ROUTE_kind = 3 then s.eget (routeAt d) ETHD_owner else s.eget (routeAt d) PDU_owner

/-- The definition that emit route entry at `a` names is a valid one of kind 2 or 3. -/
def State.emitTarget (s : State) (a : Nat) : Bool := s.isDef (s.eget a SIGR_def) 2 || s.isDef (s.eget a SIGR_def) 3

/-- The field of emit route entry at `a` lies beyond its definition, or its definition is none (R560). -/
def State.emitShort (s : State) (a : Nat) : Bool :=
  let d := s.eget a SIGR_def
  if s.isDef d 2 then
    !walkIn (s.eget (routeAt d) PDU_length) (bitWalk (s.eIs a SIGR_bit27) (s.eget a SIGR_len_m1 + 1) (s.eget a SIGR_pos))
  else if s.isDef d 3 && !s.eIs (routeAt d) ETHD_tunnel then
    decide (s.eget (routeAt d) ETHD_max_elems ≤ s.eget a SIGR_pos % 64)
  else true

/-- The trigger of an emit route fires (R318). -/
def emitFires (trig thr : Nat) (old new : Nat) : Bool :=
  match trig with
  | 1 => old != new
  | 2 => decide (2 ^ thr ≤ (satS 64 (sig64 new - sig64 old)).natAbs)
  | 3 => true
  | _ => false

/-- Something of the definition is pending. -/
def DefState.waits (v : DefState) : Bool := v.pending || !v.elems.isEmpty

/-- A definition is marked pending by a batch: a PDU whole, a container for one element. Marks that come while it is pending
join the send, which waits for the batch that made it pending (R319). -/
def State.markPending (s : State) (d batch : Nat) (elem : Option Nat) : State :=
  let v := s.defn d
  let v := if v.waits then v else { v with batch := batch }
  match elem with
  | none => s.setDefn d { v with pending := true }
  | some i => s.setDefn d { v with elems := if v.elems.contains i then v.elems else v.elems ++ [i] }

/-- The entry of definition d, as it now stands, is in effect (R318). [DEDUCED, log entry 159] -/
def State.defTake (s : State) (d : Nat) : State :=
  s.setDefn d { s.defn d with entry := memRead s.aper (routeAt d) 32 }

/-- Emit route r's field is written into the shadow of its definition (R318). -/
def State.emitWrite (s : State) (r : Nat) (x : Slot) : State :=
  let a := sigrAt r
  let d := s.eget a SIGR_def
  let v := s.routeExact a (sig64 x.value)
  if s.eget (routeAt d) ROUTE_kind = 2 then
    let n := s.eget a SIGR_len_m1 + 1
    s.setShadow d (walkPut (s.shadow d) (bitWalk (s.eIs a SIGR_bit27) n (s.eget a SIGR_pos)) (unsigned 64 v % 2 ^ n))
  else
    let wide := decide (31 < s.eget a SIGR_len_m1)
    s.setElem d (s.eget a SIGR_pos % 64) (some
      { route := r, slot := s.eget a SIGR_slot, wide := wide,
        value := if wide then unsigned 64 (satS 64 v) else unsigned 32 (satS 32 v) })

/-- Emit route r, of good parity, packs slot i into element k of definition d. -/
def State.names (s : State) (r i d k : Nat) : Bool :=
  let a := sigrAt r
  s.eIs a SIGR_valid && s.eIs a SIGR_dir && s.eget a SIGR_slot == i && s.eget a SIGR_def == d && s.eget a SIGR_pos % 64 == k

/-- At a write to slot i, elements that it wrote end where their routes no longer name them (R318). -/
def State.dropElems (s : State) (i : Nat) : State :=
  { s with gw := { s.gw with elements := s.gw.elements.filter fun x => match x.2 with
      | some e => e.slot != i || s.isBad (sigrAt e.route) || s.names e.route i (x.1 / 64) (x.1 % 64)
      | none => false } }

/-- Emit route r at a write that replaces value `old` by slot i's new contents `x` (R318, R560). A route of another slot in
the slot's range does nothing. A definition of bad parity is found, and its shadow kept (R329).
[DEDUCED, log entry 87] -/
def State.emitRoute (s : State) (r i old : Nat) (x : Slot) (batch : Nat) : State :=
  let a := sigrAt r
  let c := s.check .signalRoute r
  let s := c.1
  if !c.2 || !s.eIs a SIGR_valid || !s.eIs a SIGR_dir || s.eget a SIGR_slot != i then s
  else
    let d := s.eget a SIGR_def
    let c := s.check .frameRoute d
    let s := c.1
    if !c.2 || s.eIs (routeAt d) ROUTE_lock then s else
    let s := s.defTake d
    if !s.emitTarget a then s.gwCount 5 1
    else if s.eget a SIGR_owner != s.slotOwner i || s.eget a SIGR_owner != s.defOwner d then s.gwReject
    else if s.emitShort a then s.gwCount 5 1
    else
      let s := s.emitWrite r x
      if emitFires (s.eget a SIGR_trig) (s.eget a SIGR_thr_exp) old x.value then
        s.markPending d batch (if s.eget (routeAt d) ROUTE_kind = 2 then none else some (s.eget a SIGR_pos % 64))
      else s

/-- The emit routes of a slot, in index order. -/
def emitRange (x : Slot) : List Nat := (List.range x.emitCount).map fun k => (x.emitFirst + k) % 262144

/-- A write to slot i at its home bank: its new contents, and emission (R316, R318). -/
def State.slotWrite (s : State) (i : Nat) (x : Slot) (batch : Nat) : State :=
  let old := (s.slot i).value
  let s := ((s.slotStore i x).sigCnt 1).dropElems i
  (emitRange x).foldl (fun (u : State) r => u.emitRoute r i old x batch) s

/-- A genuine write of a value (R316): wtime is set, stale, subst and old clear, and the version is the next one, or the
Courser's for a PutM. -/
def State.genuineWrite (s : State) (i value : Nat) (version : Option Nat) (batch : Nat) : State :=
  let x := s.slot i
  let s := { s with sig := { s.sig with old := put (fun _ => false) s.sig.old i false } }
  s.slotWrite i
    { x with value := value, version := version.getD ((x.version + 1) % 65536), stale := false, subst := false,
             wtime := s.gwMs % 32768 } batch

/-- A new batch (R319). -/
def State.newBatch (s : State) : State × Nat :=
  ({ s with gw := { s.gw with batchNext := s.gw.batchNext + 1 } }, s.gw.batchNext)

/-- Some write of a batch has not been applied at home. -/
def State.batchOpen (s : State) (b : Nat) : Bool :=
  (s.sig.reqs.any fun q => q.kind == .hWr && q.batch == b) ||
    s.sig.trans.any fun e => match e.2 with | some t => t.req.kind == .hWr && t.req.batch == b | none => false

end Sys2Proof.Machine
end

