-- ==== Sys2Proof/Machine/SigStore.lean ====
section
/-!
DEFINITION. The coherence protocol of the Signal Store (R289 to R296): Team caches and eviction buffers, requests to the
home banks, transactions with their snoops and answers, and the scrubber. Each message is in the state from the command
that sends it to the command that says it arrives.
-/

namespace Sys2Proof.Machine

/-! ### Team caches -/

def noLines (_ : Nat) : List Line := []
def cacheKey (t slot : Nat) : Nat := 1024 * t + slot % 1024
/-- The set of Team t's cache that slot falls in, most recently used line first. -/
def State.cacheSet (s : State) (t slot : Nat) : List Line := look noLines s.teams.caches (cacheKey t slot)
def State.setCacheSet (s : State) (t slot : Nat) (l : List Line) : State :=
  { s with teams := { s.teams with caches := put noLines s.teams.caches (cacheKey t slot) l } }
def State.evictBuf (s : State) (t : Nat) : List Line := look noLines s.teams.evict t
def State.setEvictBuf (s : State) (t : Nat) (l : List Line) : State :=
  { s with teams := { s.teams with evict := put noLines s.teams.evict t l } }

/-- Team t's line of a slot. -/
def State.line (s : State) (t slot : Nat) : Option Line := (s.cacheSet t slot).find? fun x => x.slot == slot

/-- Team t's line of a slot replaced and made most recently used. -/
def State.setLine (s : State) (t : Nat) (x : Line) : State :=
  s.setCacheSet t x.slot (x :: (s.cacheSet t x.slot).filter fun y => y.slot != x.slot)

/-- Team t's line of a slot invalidated. -/
def State.dropLine (s : State) (t slot : Nat) : State :=
  s.setCacheSet t slot ((s.cacheSet t slot).filter fun y => y.slot != slot)

/-- The slot is in Team t's eviction buffer. -/
def State.inEvict (s : State) (t slot : Nat) : Option Line := (s.evictBuf t).find? fun x => x.slot == slot

/-! ### Messages -/

def State.sendSig (s : State) (q : SigReq) : State := { s with sig := { s.sig with reqs := s.sig.reqs ++ [q] } }
def State.dropSig (s : State) (q : SigReq) : State := { s with sig := { s.sig with reqs := s.sig.reqs.erase q } }
def State.sendFill (s : State) (f : Fill) : State := { s with sig := { s.sig with fills := s.sig.fills ++ [f] } }

def fromTeam (k : SigKind) : Bool := k == .getS || k == .getM || k == .putM || k == .putS

/-- The request of Team t that its home bank handles next, if it is of this kind for this slot: requests of one Team to
one bank are handled in the order sent (R291). -/
def State.teamReq (s : State) (k : SigKind) (t slot : Nat) : Option SigReq :=
  ((s.sig.reqs.find? fun q => fromTeam q.kind && q.team == t && q.slot % 16 == slot % 16).filter fun q =>
    q.kind == k && q.slot == slot)

/-! ### The directory (R290) -/

def noHolders (_ : Nat) : List (Nat × Bool) := []
def State.holders (s : State) (slot : Nat) : List (Nat × Bool) := look noHolders s.sig.directory slot
def State.setHolders (s : State) (slot : Nat) (l : List (Nat × Bool)) : State :=
  { s with sig := { s.sig with directory := put noHolders s.sig.directory slot l } }

/-- Team t is recorded as holding the slot in S, in M, or not at all. -/
def State.record (s : State) (slot t : Nat) (m : Option Bool) : State :=
  let l := (s.holders slot).filter fun h => h.1 != t
  s.setHolders slot (match m with | some b => l ++ [(t, b)] | none => l)

/-- The directory records Team t as holding the slot in M. -/
def State.holdsM (s : State) (slot t : Nat) : Bool := (s.holders slot).contains (t, true)

/-! ### Transactions (R291) -/

def noTrans (_ : Nat) : Option SigTrans := none
def State.trans (s : State) (slot : Nat) : Option SigTrans := look noTrans s.sig.trans slot
def State.setTrans (s : State) (slot : Nat) (v : Option SigTrans) : State :=
  { s with sig := { s.sig with trans := put noTrans s.sig.trans slot v } }

/-- A home bank finds an uncorrectable error in a slot (R296). -/
def State.homeEcc (s : State) (slot : Nat) : State :=
  let s := if s.isSet SIG_ECC_LOG_valid then s
    else s.fsets [(SIG_ECC_LOG_valid, 1), (SIG_ECC_LOG_source, 0), (SIG_ECC_LOG_team, 0), (SIG_ECC_LOG_slot, slot)]
  (s.sigCnt 5).raise 1434

/-- The exception with which home answers a Team's request, 0 for none (R284). -/
def State.homeCause (s : State) (owner slot : Nat) : Nat :=
  if owner != 0 && owner != s.slotOwner slot then 6
  else if !(s.owner (s.slotOwner slot)).keyValid then 7
  else 0

/-- A home read of word w of a slot for an aperture access: 0, counted as a rejection, for a slot of another owner (R297, R408), and
free where the slot has an uncorrectable error (R296). [DEDUCED, log entry 162] -/
def State.slotShown (s : State) (r : Requester) (slot w : Nat) (bad : Bool) : State × Word :=
  if !s.mayUse r (s.slotOwner slot) then (s.sigReject, 0)
  else if bad then (((s.sigCnt 0).homeEcc slot).drew 1, word s.free)
  else
    let v := (s.sigCnt 0).slotRead slot
    let bs := slotBytes { s.slot slot with value := v.2.1, version := v.2.2 }
    (v.1, word (leAt bs (4 * (w % 4)) 4))

/-- The request is served from home's own data. [DEDUCED, log entry 82] -/
def State.homeDo (s : State) (q : SigReq) (ecc : Bool) : State :=
  match q.kind with
  | .hWr =>
    if !(s.owner (s.slotOwner q.slot)).keyValid then s.sigReject
    else if q.subst then
      let x := s.slot q.slot
      s.slotWrite q.slot { x with value := q.value, version := (x.version + 1) % 65536, stale := true, subst := true } q.batch
    else
      match q.meta_ with
      | none => s.genuineWrite q.slot q.value none q.batch
      | some m =>
        let x := s.slot q.slot
        let y := { x with emitFirst := bitsOf m 47 30, emitCount := bitsOf m 29 27, action := bitsOf m 24 23, timeout := bitsOf m 22 15 }
        (s.setAper (slotAt q.slot) (slotBytes y)).genuineWrite q.slot q.value none q.batch
  | .hRd =>
    match q.reader, q.output with
    | some (r, w), _ =>
      let v := s.slotShown r q.slot w ecc
      match q.svcAt with
      | some i => { v.1 with host := { v.1.host with readBuf := v.1.host.readBuf.set i v.2 } }
      | none => v.1.emit (.read r v.2)
    | none, some j =>
      if s.slotOwner q.slot = s.fget (PWR_OUT_CFG_owner j) then
        let v := (s.sigCnt 0).slotRead q.slot
        v.1.slotDuty j v.2.1 (v.1.slot q.slot).stale
      else s.sigReject
    | none, none => s
  | _ =>
    let s := s.sigCnt 0
    let cause := if ecc then 8 else s.homeCause q.owner q.slot
    let s := if ecc then s.homeEcc q.slot else s
    let m := q.kind == .getM
    let v := s.slotRead q.slot
    let line : Line := { slot := q.slot, owner := s.slotOwner q.slot, value := v.2.1, version := v.2.2, modified := m }
    let s := if cause = 0 then (if m then v.1.setHolders q.slot [(q.team, true)] else v.1.record q.slot q.team (some false)) else s
    s.sendFill { team := q.team, courser := q.courser, line := line, cause := cause }

/-- The Teams that a request makes home snoop, with the snoop (R291). -/
def State.snoopsFor (s : State) (q : SigReq) : List (Nat × SnoopKind) :=
  let write := q.kind == .getM || q.kind == .hWr
  (s.holders q.slot).filterMap fun h =>
    if fromTeam q.kind && h.1 == q.team then none
    else if h.2 then some (h.1, if write then .fetchInv else .fetch)
    else if write then some (h.1, .inv)
    else none

/-- A home bank takes up a request: it snoops the Teams concerned, or serves it at once. An uncorrectable error is met where home's
own data are to be served, which no Team holds in M. [DEDUCED, log entry 82] -/
def State.homeStart (s : State) (q : SigReq) (ecc : HomeEcc) : State :=
  let s := if ecc = .single then s.sigCnt 4 else s
  let l := s.snoopsFor q
  let bad := ecc = .double && q.kind != .hWr && !(s.holders q.slot).any (·.2)
  if l.isEmpty || bad then s.homeDo q bad
  else
    let s := Nat.repeat (fun (u : State) => u.sigCnt 2) l.length s
    let s := { s with sig := { s.sig with
      snoops := s.sig.snoops ++ l.map fun (e : Nat × SnoopKind) => ({ kind := e.2, team := e.1, slot := q.slot } : Snoop) } }
    s.setTrans q.slot (some { req := q, waits := l.map fun (e : Nat × SnoopKind) => e.1 })

/-- A Team's GetS or GetM reaches home. -/
def State.teamGet (s : State) (k : SigKind) (t slot : Nat) (ecc : HomeEcc) : State :=
  match s.teamReq k t slot with
  | none => s
  | some q =>
    if (s.trans slot).isSome then s
    else
      let s := s.dropSig q
      let cause := s.homeCause q.owner slot
      if cause = 0 then s.homeStart q ecc
      else
        let s := if cause = 6 then s.sigReject else s
        s.sendFill { team := t, courser := q.courser, cause := cause
                     line := { slot := slot, owner := 0, value := 0, version := 0, modified := false } }

/-- GETS (R291): a read-miss request of Team t reaches the home bank; `ecc`, the error that the bank meets. -/
def execGets (t slot : Nat) (ecc : HomeEcc) (s : State) : Host.Outcome State Fault Refusal := .next (s.teamGet .getS t slot ecc)

/-- GETM (R291): a write request of Team t reaches the home bank. -/
def execGetm (t slot : Nat) (ecc : HomeEcc) (s : State) : Host.Outcome State Fault Refusal := .next (s.teamGet .getM t slot ecc)

/-- Courser data reaches home in a batch of its own (R293, R319). -/
def State.courserData (s : State) (slot value version : Nat) : State :=
  let b := s.newBatch
  b.1.genuineWrite slot value (some version) b.2

/-- PUTM (R293, R294): a write-back of Team t reaches home; it is written or discarded as a duplicate, and acknowledged. -/
def execPutm (t slot : Nat) (s : State) : Host.Outcome State Fault Refusal :=
  match s.teamReq .putM t slot with
  | none => .next s
  | some q =>
    let s := s.dropSig q
    let s := { s with sig := { s.sig with putAcks := s.sig.putAcks ++ [(t, slot)] } }
    let snooped := match s.trans slot with | some x => x.waits.contains t | none => false
    let had := match s.trans slot with | some x => x.got.contains t | none => false
    if (snooped && had) || !s.holdsM slot t then .next (s.sigCnt 3)
    else
      let s := s.courserData slot q.value q.version
      let s := s.record slot t (if q.keep then some false else none)
      .next (match s.trans slot with
        | some x => if snooped then s.setTrans slot (some { x with got := t :: x.got }) else s
        | none => s)

/-- PUTS (R290): an S line of Team t has been evicted. -/
def execPuts (t slot : Nat) (s : State) : Host.Outcome State Fault Refusal :=
  match s.teamReq .putS t slot with
  | none => .next s
  | some q =>
    let s := s.dropSig q
    .next (if s.holdsM slot t then s else s.record slot t none)

/-- HWR (R290, R316): the next uncached write to a slot is taken up at home. -/
def execHwr (slot : Nat) (s : State) : Host.Outcome State Fault Refusal :=
  match s.sig.reqs.find? fun q => q.kind == .hWr && q.slot == slot with
  | none => .next s
  | some q => if (s.trans slot).isSome then .next s else .next ((s.dropSig q).homeStart q .clean)

/-- HRD (R290, R291): an uncached read of a slot is taken up at home: the oldest that waits there, else an aperture read of the
word that `x` names. -/
def execHrd (r : Requester) (slot : Nat) (x : SlotRead) (s : State) : Host.Outcome State Fault Refusal :=
  if 262144 ≤ slot || (s.trans slot).isSome then .next s
  else
    match s.sig.reqs.find? fun q => q.kind == .hRd && q.slot == slot with
    | some q => .next ((s.dropSig q).homeStart q x.ecc)
    | none =>
      if (s.ownerOf r).isNone then .next s
      else .next (s.homeStart { kind := .hRd, slot := slot, reader := some (r, x.w) } x.ecc)

/-- A home read is taken up at once, or once the slot's transaction has ended (R291). -/
def State.readHome (s : State) (q : SigReq) : State := if (s.trans q.slot).isSome then s.sendSig q else s.homeStart q .clean

/-- A source-2 output reads its slot by HRd (R448). -/
def State.outReadSlot (s : State) (j : Nat) : State :=
  s.readHome { kind := .hRd, slot := s.fget (PWR_OUT_SLOT_slot j), output := some j }

/-! ### Snoops and answers (R292, R294) -/

def State.sendAnswer (s : State) (a : SnoopAnswer) : State := { s with sig := { s.sig with answers := s.sig.answers ++ [a] } }

/-- A snoop reaches Team t, which answers. -/
def State.snooped (s : State) (k : SnoopKind) (t slot : Nat) : State :=
  match s.sig.snoops.find? fun x => x.kind == k && x.team == t && x.slot == slot with
  | none => s
  | some x =>
    -- a line that home sent before the snoop reaches the Team first
    if s.sig.fills.any fun f => f.team == t && f.line.slot == slot then s else
    let s := { s with sig := { s.sig with snoops := s.sig.snoops.erase x } }
    let s := s.crsCnt t 8
    let keepS := k == .fetch
    match s.inEvict t slot with
    | some e =>
      let keeps := keepS && (s.line t slot).isSome
      let s := if keepS then s else s.dropLine t slot
      s.sendAnswer { team := t, slot := slot, data := some (e.value, e.version), keeps := keeps }
    | none =>
      match s.line t slot with
      | some l =>
        let s := if keepS then (if l.modified then s.setLine t { l with modified := false } else s) else s.dropLine t slot
        s.sendAnswer { team := t, slot := slot, data := if l.modified then some (l.value, l.version) else none, keeps := keepS }
      | none => (s.crsCnt t 9).sendAnswer { team := t, slot := slot, absent := true }

/-- FETCH (R292). -/
def execFetch (t slot : Nat) (s : State) : Host.Outcome State Fault Refusal := .next (s.snooped .fetch t slot)
/-- FETCHINV (R292). -/
def execFetchinv (t slot : Nat) (s : State) : Host.Outcome State Fault Refusal := .next (s.snooped .fetchInv t slot)
/-- INV (R292). -/
def execInv (t slot : Nat) (s : State) : Host.Outcome State Fault Refusal := .next (s.snooped .inv t slot)

/-- An answer of Team t is taken up at home: its transaction waits for the others, or goes on. -/
def State.answered (s : State) (a : SnoopAnswer) (x : SigTrans) : State :=
  let s := s.record a.slot a.team (if a.keeps then some false else none)
  let rest := x.waits.filter (· != a.team)
  if rest.isEmpty then (s.setTrans a.slot none).homeDo x.req false
  else s.setTrans a.slot (some { x with waits := rest })

/-- The answer of Team t about a slot that has arrived, with the transaction that it belongs to. -/
def State.answerOf (s : State) (t slot : Nat) (f : SnoopAnswer → Bool) : Option (SnoopAnswer × SigTrans) :=
  match s.sig.answers.find? fun a => a.team == t && a.slot == slot && f a, s.trans slot with
  | some a, some x => if x.waits.contains t then some (a, x) else none
  | _, _ => none

def State.dropAnswer (s : State) (a : SnoopAnswer) : State := { s with sig := { s.sig with answers := s.sig.answers.erase a } }

/-- SNOOP_DATA (R294): a Data answer reaches home; the first data from a Team is written, the second discarded. -/
def execSnoopData (t slot : Nat) (s : State) : Host.Outcome State Fault Refusal :=
  match s.answerOf t slot fun a => a.data.isSome with
  | none => .next s
  | some (a, x) =>
    let s := s.dropAnswer a
    match a.data with
    | none => .next s
    | some (value, version) =>
      if x.got.contains t then .next ((s.sigCnt 3).answered a x)
      else .next ((s.courserData slot value version).answered a x)

/-- SNOOP_ACK (R291). -/
def execSnoopAck (t slot : Nat) (s : State) : Host.Outcome State Fault Refusal :=
  match s.answerOf t slot fun a => a.data.isNone && !a.absent with
  | none => .next s
  | some (a, x) => .next ((s.dropAnswer a).answered a x)

/-- SNOOP_ABSENT (R294): home serves the request from its own data. -/
def execSnoopAbsent (t slot : Nat) (s : State) : Host.Outcome State Fault Refusal :=
  match s.answerOf t slot fun a => a.absent with
  | none => .next s
  | some (a, x) => .next ((s.dropAnswer a).answered a x)

/-- PUTM_ACK (R292): home's acknowledgement frees Team t's eviction-buffer entry. -/
def execPutmAck (t slot : Nat) (s : State) : Host.Outcome State Fault Refusal :=
  if !s.sig.putAcks.contains (t, slot) then .next s
  else
    let s := { s with sig := { s.sig with putAcks := s.sig.putAcks.erase (t, slot) } }
    .next (s.setEvictBuf t ((s.evictBuf t).filter fun e => e.slot != slot))

/-! ### A Team sends requests (R291 to R293) -/

/-- A line is written back: it takes an eviction-buffer entry until home acknowledges the PutM. -/
def State.writeBack (s : State) (t : Nat) (x : Line) (keep : Bool) : State :=
  let s := s.setEvictBuf t (s.evictBuf t ++ [x])
  let s := if keep then s.setCacheSet t x.slot ((s.cacheSet t x.slot).map fun y => if y.slot = x.slot then { y with modified := false } else y)
    else s.dropLine t x.slot
  (s.crsCnt t 7).sendSig { kind := .putM, slot := x.slot, team := t, owner := x.owner, value := x.value, version := x.version, keep := keep }

/-- A request for a line that Team t has sent. -/
def SigReq.asks (q : SigReq) (t : Nat) : Bool := (q.kind == .getS || q.kind == .getM) && q.team == t

/-- The slots whose lines are on their way to Team t: requested, in a transaction, or sent by home. -/
def State.fetching (s : State) (t : Nat) : List Nat :=
  ((s.sig.reqs.filter fun q => q.asks t).map (·.slot) ++
    s.sig.trans.filterMap (fun e => (e.2.filter fun x => x.req.asks t).map fun x => x.req.slot) ++
    (s.sig.fills.filter fun f => f.team == t).map fun f => f.line.slot).eraseDups

/-- Ways of the set of a slot that lines on their way to Team t will take. -/
def State.fillsDue (s : State) (t slot : Nat) : Nat :=
  ((s.fetching t).filter fun m => m % 1024 == slot % 1024 && (s.line t m).isNone).length

/-- Room for a line in the set of a slot: free ways, or the least recently used line leaves, of those that wait for no upgrade. None
when no line can leave now. -/
def State.makeRoom (s : State) (t slot : Nat) : Option State :=
  let set := s.cacheSet t slot
  if set.length + s.fillsDue t slot < 4 then some s
  else
    match (set.filter fun x => !(s.fetching t).contains x.slot).getLast? with
    | none => none
    | some x =>
      if x.modified then (if 8 ≤ (s.evictBuf t).length then none else some (s.writeBack t x false))
      else some ((s.dropLine t x.slot).sendSig { kind := .putS, slot := x.slot, team := t, owner := x.owner })

/-! ### Scrubbing and duplicate tags (R296) -/

/-- Lines of Team t's cache. -/
def State.teamLines (s : State) (t : Nat) : List Line :=
  (s.teams.caches.filter fun e => e.1 / 1024 == t).flatMap fun e => e.2

/-- Every line of Team t leaves its cache. The directory keeps the Team only for a line in its eviction buffer and for one that home
has sent it; a publish on its way keeps no line any more. -/
def State.clearCache (s : State) (t : Nat) : State :=
  let kept := fun slot => (s.inEvict t slot).isSome || s.sig.fills.any fun f => f.team == t && f.line.slot == slot
  { s with
    teams := { s.teams with caches := s.teams.caches.filter fun e => e.1 / 1024 != t },
    sig := { s.sig with
      reqs := s.sig.reqs.map fun q => if q.kind == .putM && q.team == t then { q with keep := false } else q,
      directory := mapVals noHolders (fun slot l => l.filter fun h => h.1 != t || kept slot) s.sig.directory } }

/-- An uncorrectable error in Team t's duplicate tags: every M line is written back, the cache is invalidated and the
tags are rebuilt, while the Team's Coursers stall. [DEDUCED, log entry 84] -/
def State.tagError (s : State) (t : Nat) : State :=
  let s := if s.isSet SIG_ECC_LOG_valid then s
    else s.fsets [(SIG_ECC_LOG_valid, 1), (SIG_ECC_LOG_source, 2), (SIG_ECC_LOG_team, t), (SIG_ECC_LOG_slot, 0)]
  let s := (s.sigCnt 6).raise 1435
  let s := (s.teamLines t).foldl (fun (u : State) x =>
    if x.modified then (u.crsCnt t 7).courserData x.slot x.value x.version else u) s
  let s := s.clearCache t
  { s with teams := { s.teams with rebuilding := put (fun _ => false) s.teams.rebuilding t true } }

/-- SIG_SCRUB_READ (R296): the scrubber reads the next slot. -/
def execSigScrubRead (hit : ScrubHit) (s : State) : Host.Outcome State Fault Refusal :=
  if !s.cinched || s.fget SIG_SCRUB_period == 0 then .next s
  else
    let slot := s.sig.scrub
    let s := { s with sig := { s.sig with scrub := (slot + 1) % 262144 } }
    match hit with
    | .clean => .next s
    | .single => .next (s.sigCnt 4)
    | .double => .next (s.homeEcc slot)
    | .tag t => if teamPresent s.variant t then .next (s.tagError t) else .next s

/-- DIR_REBUILD_DONE (R296): Team t's Coursers resume. [DEDUCED, log entry 84] -/
def execDirRebuildDone (t : Nat) (s : State) : Host.Outcome State Fault Refusal :=
  .next { s with teams := { s.teams with rebuilding := put (fun _ => false) s.teams.rebuilding t false } }

end Sys2Proof.Machine
end

