-- ==== Sys2Proof/Machine/Operands.lean ====
section
/-!
DEFINITION. How the operands of a command name a place: a register-map address and the register that stands there, the
window of an absent unit, an address of the table aperture, and the index that a requester's own registers have.
-/

namespace Sys2Proof.Machine

/-- The Port Plan kind of the lane whose window holds an address, 0 elsewhere. -/
def State.kindAt (s : State) (a : Nat) : Nat :=
  if 0x180000 ≤ a ∧ a < 0x198000 then s.fget (LANE_PHY_CFG_kind ((a - 0x180000) / 0x800)) else 0

/-- The register at an address. -/
def State.rowAt (s : State) (a : Nat) : Option RegRow := regRowAt (s.kindAt a) a

/-- The window of an absent unit (R9, R535). [DEDUCED, log entry 110] -/
def unitAbsent (w : Variant) (a : Nat) : Bool :=
  if 0x180000 ≤ a ∧ a < 0x198000 then !lanePresent w ((a - 0x180000) / 0x800)
  else if 0x140000 ≤ a ∧ a < 0x150000 then !portPresent w ((a - 0x140000) / 0x1000)
  else if 0x131000 ≤ a ∧ a < 0x132000 then !portPresent w ((a - 0x131000) / 0x100)
  else if 0x70400 ≤ a ∧ a < 0x70440 then !portPresent w ((a - 0x70400) / 4)
  else if 0x30800 ≤ a ∧ a < 0x30C00 then !portPresent w ((a - 0x30800) / 0x40)
  else if 0x200000 ≤ a ∧ a < 0x210000 then !teamPresent w ((a - 0x200000) / 0x1000)
  else if 0xC1000 ≤ a ∧ a < 0xC2400 then !outputPresent w ((a - 0xC1000) / 0x100)
  else if 0xC4000 ≤ a ∧ a < 0xC5400 then !outputPresent w ((a - 0xC4000) / 0x100)
  else if 0xD0000 ≤ a ∧ a < 0xD0100 then !batPresent w
  else false

/-- The aperture address of an access: the safety alias is Ostler firmware's alone (R541). -/
def aperAddr (r : Requester) (a : Nat) : Option Nat :=
  if 0x10000000 ≤ a ∧ a < 0x14000000 then some a
  else if 0x14000000 ≤ a ∧ a < 0x18000000 ∧ r = .ostler then some (a - 0x4000000)
  else none

/-- The index under which a requester's capture is kept (R340). -/
def requesterIndex : Requester → Nat
  | .func n => n
  | .svc => 32
  | .ostler => 33

/-- The pair of CIP_SUBMIT whose registers a requester owns (R368): function f's, or Ostler's as 32. -/
def submitPair : Requester → Option Nat
  | .func f => some f
  | .ostler => some 32
  | .svc => none

end Sys2Proof.Machine
end

