-- ==== Sys2Proof/Machine/Time.lean ====
section
/-!
DEFINITION. Time bases (R333 to R358): the tick, increments and steps, the guard, capture inputs, gPTP timestamp FIFOs
and the parts of the trigger comparators that reach no other unit. A comparator's firing is in Trigger.lean.
-/

namespace Sys2Proof.Machine

def zero (_ : Nat) : Nat := 0

/-- A time-base counter counts (R352). -/
def State.tmbCnt (s : State) (i n : Nat) : State := s.countHalf (TMB_CNT i) ⟨TMB_CNT_HALF, i, i⟩ 1375 n

/-- The increment in force in domain d, in 2^-32 ns (R334, R337). -/
def State.increment (s : State) (d : Nat) : Nat :=
  look (fun _ => 4 * 2 ^ 32) s.tmbInc (if s.isSet TMB_MODE_mode then d else 0)

/-- The counters of every domain advance by one tick; they stand at 0 until the cinch (R333). -/
def State.advance (s : State) : State :=
  if !s.cinched then s
  else
    let n := if s.isSet TMB_MODE_mode then 4 else 1
    let next := fun (m : List (Nat × Nat)) (d : Nat) => put zero m d ((look zero m d + s.increment d) % 2 ^ 96)
    { s with tmbCount := (List.range n).foldl next s.tmbCount }

/-- One TBCLK tick of 4 ns passes: ACLK runs while the always-on domain is up, TBCLK while CORE is.
[DESIGN CHOICE, log entry 1] -/
def State.tick (s : State) : State :=
  let s := { s with ticks := s.ticks + 1 }
  if s.coreOn then { s.advance with uptime := s.uptime + 1 } else s

/-- A time-base register write: owner 0, the owner bound to PF0 and the service port (R337). -/
def State.tmbWrite (s : State) (r : Requester) (addr : Nat) (f : State → State) : State := s.privWrite r addr f

/-- The smallest and largest increment allowed (R337). -/
def incMin : Nat := 3 * 2 ^ 32 + 0xFEF9DB23
def incMax : Nat := 4 * 2 ^ 32 + 0x010624DD

/-- An increment or step of domain d is refused. -/
def State.adjRefused (s : State) (d cnt : Nat) : State :=
  ((s.fset (TMB_DOM_STATUS_refused d) 1).tmbCnt cnt 1).raise (1368 + d)

/-- A write of TMB_INC_INT: the pair is committed or refused; in Coherent mode domains 1 to 3 ignore it (R334, R337). -/
def State.incCommit (s : State) (d v : Nat) : State :=
  if !s.isSet TMB_MODE_mode && d != 0 then s.tmbCnt 2 1
  else
    let raw := v % 256 * 2 ^ 32 + (s.reg (TMB_INC_FRAC d)).toNat
    if incMin ≤ raw ∧ raw ≤ incMax then
      { s.fset (TMB_INC_INT_inc_int d) v with tmbInc := put (fun _ => 4 * 2 ^ 32) s.tmbInc d raw }
    else s.adjRefused d 2

/-- INCREMENT_COMMIT (R337). -/
def execIncrementCommit (r : Requester) (d v : Nat) (s : State) : Host.Outcome State Fault Refusal :=
  if 4 ≤ d then .next s else .next (s.tmbWrite r (TMB_INC_INT d) fun s => s.incCommit d v)

/-- The signed step held in TMB_STEP_LO and TMB_STEP_HI (R338). -/
def State.stepOf (s : State) (d : Nat) : Int :=
  signed 64 ((s.reg (TMB_STEP_LO d)).toNat + (s.reg (TMB_STEP_HI d)).toNat * 2 ^ 32)

/-- The step of domain d is decided at this tick (R338): Coherent mode moves the offset, Independent mode the counter.
[DEDUCED, log entry 90] -/
def State.stepNow (s : State) (d : Nat) : State :=
  let step := s.stepOf d
  let allowed := decide (step.natAbs ≤ (s.reg (TMB_THRESH d)).toNat) || !s.isSet (TMB_DOM_STATUS_synced_once d)
  let result := (s.timeNs d : Int) + step
  let s := s.fset (TMB_STEP_CTRL_go d) 0
  if allowed && decide (0 ≤ result) then
    let s :=
      if s.isSet TMB_MODE_mode then
        { s with tmbCount := put zero s.tmbCount d (unsigned 96 (Int.ofNat (look zero s.tmbCount d) + step * 2 ^ 32)) }
      else { s with tmbOffset := put zero s.tmbOffset d (unsigned 64 (Int.ofNat (look zero s.tmbOffset d) + step)) }
    (s.fsets [(TMB_DOM_STATUS_synced_once d, 1), (TMB_DOM_STATUS_good_run d, 0)]).tmbCnt 0 1
  else s.adjRefused d 1

/-- TIME_STEP (R338): TMB_STEP_CTRL.go written; the next tick falls and the step is applied or refused at it.
[DEDUCED, log entry 90] -/
def execTimeStep (r : Requester) (d : Nat) (s : State) : Host.Outcome State Fault Refusal :=
  if 4 ≤ d then .next s else .next (s.tmbWrite r (TMB_STEP_CTRL d) fun s => s.tick.stepNow d)

/-- A write of TMB_THRESH raises the threshold; a lower value is ignored (R339). -/
def State.threshWrite (s : State) (d : Nat) (v : Word) : State :=
  if (s.reg (TMB_THRESH d)).toNat < v.toNat then s.setReg (TMB_THRESH d) v else s

/-- THRESH_WRITE (R339). -/
def execThreshWrite (r : Requester) (d : Nat) (v : Word) (s : State) : Host.Outcome State Fault Refusal :=
  if 4 ≤ d then .next s else .next (s.tmbWrite r (TMB_THRESH d) fun s => s.threshWrite d v)

/-- THRESH_RESTORE (R339). -/
def execThreshRestore (r : Requester) (d : Nat) (s : State) : Host.Outcome State Fault Refusal :=
  if 4 ≤ d then .next s
  else .next (s.tmbWrite r (TMB_STEP_CTRL d) fun s => s.setReg (TMB_THRESH d) (word (look zero s.planThresh d)))

/-- The whole time of domain d is captured for a requester (R340). -/
def State.timeCaptured (s : State) (r : Requester) (d : Nat) : State :=
  { s with timeCapture := put zero s.timeCapture (4 * requesterIndex r + d) (s.timeNs d) }

/-- TIME_CAPTURE_READ (R340): a read of TMB_TIME_LO. -/
def execTimeCaptureRead (r : Requester) (d : Nat) (s : State) : Host.Outcome State Fault Refusal :=
  if 4 ≤ d || (s.ownerOf r).isNone then .next s
  else .next ((s.timeCaptured r d).emit (.read r (word (s.timeNs d))))

/-! ### Guard (R341 to R344) -/

/-- The domain leaves its guard (R342, R343). -/
def State.guardLost (s : State) (d : Nat) : State :=
  if s.inside d then ((s.fset (TMB_DOM_STATUS_inside d) 0).raise (1360 + d)).gatesLoseGuard d else s

/-- 1.5 × the sync interval, in ticks. -/
def State.reportWindow (s : State) (d : Nat) : Nat := 93750 * s.fget (TMB_DOM_CFG_sync_ivl d)

/-- A sync report of a signed offset (R341, R342). [DEDUCED, log entry 93] -/
def State.syncReport (s : State) (d : Nat) (offset : Word) : State :=
  let port := s.fget (TMB_DOM_CFG_sync_port d)
  if s.isSet (TMB_DOM_CFG_role d) then s
  else if port < 16 && !s.isSet (TMB_PTP_PORT_as_capable port) then (s.tmbCnt 5 1).raise 1374
  else
    let prev := look zero s.lastReport d
    let soon := prev != 0 && decide (s.ticks + 1 - prev ≤ s.reportWindow d)
    let s := { s with lastReport := put zero s.lastReport d (s.ticks + 1) }
    if offset.toInt.natAbs ≤ (s.reg (TMB_GUARD d)).toNat then
      let run := if soon then min 4 (s.fget (TMB_DOM_STATUS_good_run d) + 1) else 1
      let s := (s.fset (TMB_DOM_STATUS_good_run d) run).tmbCnt 3 1
      if run = 4 ∧ !s.inside d then (s.fset (TMB_DOM_STATUS_inside d) 1).raise (1364 + d) else s
    else ((s.fset (TMB_DOM_STATUS_good_run d) 0).tmbCnt 4 1).guardLost d

/-- SYNC_REPORT (R341). -/
def execSyncReport (r : Requester) (d : Nat) (offset : Word) (s : State) : Host.Outcome State Fault Refusal :=
  if 4 ≤ d then .next s else .next (s.tmbWrite r (TMB_SYNC_REPORT d) fun s => s.syncReport d offset)

/-- SYNC_LOST (R342): 3 sync intervals without an accepted report. -/
def execSyncLost (d : Nat) (s : State) : Host.Outcome State Fault Refusal :=
  if d < 4 && s.inside d && !s.isSet (TMB_DOM_CFG_role d) then .next ((s.tmbCnt 6 1).guardLost d) else .next s

/-- WAKE_GUARD_EXPIRY (R344). -/
def execWakeGuardExpiry (s : State) : Host.Outcome State Fault Refusal :=
  if s.pwk.guardWait then .next ({ s with pwk := { s.pwk with guardWait := false } } : State).roundTry else .next s

/-! ### Trigger comparators (R345 to R347) -/

/-- A comparator that is enabled with a target already reached fires late (R346). [DEDUCED, log entry 91] -/
def State.trigSet (s : State) (n : Nat) : State :=
  let late := s.isSet (TMB_TRIG_CTRL_enable n) &&
    decide (look zero s.trigTarget n ≤ s.timeNs (s.fget (TMB_TRIG_CTRL_domain n)))
  { s with trigLate := put (fun _ => false) s.trigLate n late }

/-- A write of TMB_TRIG_TGT_HI commits the held target (R346). [DEDUCED, log entry 91] -/
def State.trigCommit (s : State) (n : Nat) (hi : Word) : State :=
  let s := s.setReg (TMB_TRIG_TGT_HI n) hi
  ({ s with trigTarget := put zero s.trigTarget n (hi.toNat * 2 ^ 32 + (s.reg (TMB_TRIG_TGT_LO n)).toNat) }).trigSet n

/-- TRIGGER_TARGET_COMMIT (R346). -/
def execTriggerTargetCommit (r : Requester) (n : Nat) (hi : Word) (s : State) : Host.Outcome State Fault Refusal :=
  if 32 ≤ n then .next s else .next (s.tmbWrite r (TMB_TRIG_TGT_HI n) fun s => s.trigCommit n hi)

/-- A comparator's pulse drives the pin (R347). -/
def State.pulsing (s : State) (n : Nat) : Bool := look (fun _ => false) s.pulses n

/-- Some comparator drives a pin: the OR of the pulses of the comparators that have pulse_en set and name it (R347).
[DEDUCED, log entry 164] -/
def State.pinHigh (s : State) (pin : Nat) : Bool :=
  (List.range 32).any fun n => s.pulsing n && s.isSet (TMB_TRIG_CTRL_pulse_en n) && s.fget (TMB_TRIG_CTRL_gpio n) == pin

/-- The level of a pin is driven out where a change from `old` to `s` has changed it. [DEDUCED, log entry 164] -/
def State.pinFollow (old s : State) (pin : Nat) : State :=
  if s.pinHigh pin == old.pinHigh pin then s else s.emit (.gpio pin (s.pinHigh pin))

/-- A pulse starts; a firing while it runs restarts its width. -/
def State.pulseStart (s : State) (n : Nat) : State :=
  s.pinFollow { s with pulses := put (fun _ => false) s.pulses n true } (s.fget (TMB_TRIG_CTRL_gpio n))

/-- GPIO_PULSE_END (R347). -/
def execGpioPulseEnd (n : Nat) (s : State) : Host.Outcome State Fault Refusal :=
  if !s.pulsing n then .next s
  else .next (s.pinFollow { s with pulses := put (fun _ => false) s.pulses n false } (s.fget (TMB_TRIG_CTRL_gpio n)))

/-! ### Capture inputs (R348, R357) -/

/-- [DEDUCED, log entry 92] -/
def State.captureFifo (s : State) (k : Nat) : List Nat := look (fun _ => []) s.captures k

/-- A capture FIFO replaced, with the registers that show its level and oldest entry. -/
def State.setCapture (s : State) (k : Nat) (l : List Nat) : State :=
  let s := { s with captures := put (fun _ => []) s.captures k l }
  let s := s.fset (TMB_CAP_STATUS_level k) l.length
  let t := l.headD 0
  (s.setReg (TMB_CAP_TS_LO k) (word t)).setReg (TMB_CAP_TS_HI k) (word (t / 2 ^ 32))

/-- CAPTURE_EDGE (R348): an edge that reached pin k `age` ns ago. -/
def execCaptureEdge (k : Nat) (rising : Bool) (age : Nat) (s : State) : Host.Outcome State Fault Refusal :=
  let sel := s.fget (TMB_CAP_CTRL_edge k)
  if 16 ≤ k || !s.isSet (TMB_CAP_CTRL_enable k) || !bitOf sel (if rising then 0 else 1) then .next s
  else
    let s := s.tmbCnt 10 1
    let l := s.captureFifo k
    if 4 ≤ l.length then .next ((s.tmbCnt 11 1).raise 1373)
    else
      let s := s.setCapture k (l ++ [s.timeNs (s.fget (TMB_CAP_CTRL_domain k)) - age])
      if l.isEmpty && s.isSet (TMB_CAP_CTRL_irq k) then .next (s.raise (1376 + k)) else .next s

/-- CAPTURE_FIFO_POP (R357): a read of TMB_CAP_TS_HI. [DEDUCED, log entry 92] -/
def execCaptureFifoPop (r : Requester) (k : Nat) (s : State) : Host.Outcome State Fault Refusal :=
  if 16 ≤ k || (s.ownerOf r).isNone then .next s
  else .next ((s.emit (.read r (s.reg (TMB_CAP_TS_HI k)))).setCapture k ((s.captureFifo k).drop 1))

/-! ### gPTP timestamp FIFOs (R350, R358) -/

def noStamps (_ : Nat) : List PtpStamp := []
def State.ptpFifo (s : State) (n : Nat) (tx : Bool) : List PtpStamp := look noStamps (if tx then s.ptpTx else s.ptpRx) n

/-- Word 0 of a timestamp entry. -/
def stampWord (p : PtpStamp) : Nat :=
  2 ^ 31 + b2n p.nomap * 2 ^ 30 + p.domain * 2 ^ 28 + p.msgType * 2 ^ 24 + p.domainNumber * 2 ^ 16 + p.sequenceId

/-- A timestamp FIFO replaced, with the registers that show it; an empty FIFO reads 0. -/
def State.setPtp (s : State) (n : Nat) (tx : Bool) (l : List PtpStamp) : State :=
  let s := if tx then { s with ptpTx := put noStamps s.ptpTx n l } else { s with ptpRx := put noStamps s.ptpRx n l }
  let s := s.fset (if tx then TMB_PTP_LEVEL_tx_level n else TMB_PTP_LEVEL_rx_level n) l.length
  let a := if tx then TMB_PTP_TX n else TMB_PTP_RX n
  match l with
  | [] => ((s.setReg (a 0) 0).setReg (a 1) 0).setReg (a 2) 0
  | p :: _ => ((s.setReg (a 0) (word (stampWord p))).setReg (a 1) (word p.time)).setReg (a 2) (word (p.time / 2 ^ 32))

/-- PTP_FIFO_POP (R358): a read of TMB_PTP_RX2 or TX2. -/
def execPtpFifoPop (r : Requester) (n : Nat) (tx : Bool) (s : State) : Host.Outcome State Fault Refusal :=
  if !portPresent s.variant n || (s.ownerOf r).isNone then .next s
  else
    let a := if tx then TMB_PTP_TX n 2 else TMB_PTP_RX n 2
    .next ((s.emit (.read r (s.reg a))).setPtp n tx ((s.ptpFifo n tx).drop 1))

/-- The device domain of a gPTP message (R350): the lowest enabled domain mapped to its domainNumber, else 0 and nomap. -/
def State.ptpDomain (s : State) (domainNumber : Nat) : Nat × Bool :=
  match (List.range 4).find? fun d =>
      bitOf (s.fget TMB_MODE_map_en) d && bitsOf (s.reg TMB_PTP_MAP).toNat (8 * d + 7) (8 * d) == domainNumber with
  | some d => (d, false)
  | none => (0, true)

/-- A gPTP event message (R349): EtherType 0x88F7 directly or after one C-tag, messageType 0 to 3. -/
def isPtpEvent (bs : List Byte) : Bool := etherType bs == 0x88F7 && beAt bs (etherOffset bs + 2) 1 % 16 < 4

/-- The timestamp entry of a message seen `age` ns ago. [DEDUCED, log entry 53] -/
def State.ptpStampOf (s : State) (bs : List Byte) (age : Nat) : PtpStamp :=
  let o := etherOffset bs + 2
  let num := beAt bs (o + 4) 1
  let d := s.ptpDomain num
  { nomap := d.2, domain := d.1, msgType := beAt bs o 1 % 16, domainNumber := num, sequenceId := beAt bs (o + 30) 2,
    time := s.timeNs d.1 - age }

end Sys2Proof.Machine
end

