-- ==== Sys2Proof/Machine/Courser.lean ====
section
/-!
DEFINITION. Teams and Coursers (R271 to R302): registers and memories, the fetch of an instruction, its formats, work
queues and fabric queue pairs, exceptions and restarts, waits, and the slot accesses that the Team cache serves. The
instructions' own meanings are in CourserIsa.lean. Courser k is Courser k mod 8 of Team k / 8.
-/

namespace Sys2Proof.Machine

def noCourser (_ : Nat) : Courser := {}
def State.crs (s : State) (k : Nat) : Courser := look noCourser s.teams.coursers k
def State.setCrs (s : State) (k : Nat) (c : Courser) : State :=
  { s with teams := { s.teams with coursers := put noCourser s.teams.coursers k c } }

/-! ### Registers and memories (R271) -/

def zeroWord (_ : Nat) : Word := 0

/-- General register r; g0 reads 0. -/
def State.greg (s : State) (k r : Nat) : Word := if r = 0 then 0 else look zeroWord s.teams.gregs (32 * k + r)

/-- General register r written; g0 ignores writes. -/
def State.setGreg (s : State) (k r : Nat) (v : Word) : State :=
  if r = 0 then s else { s with teams := { s.teams with gregs := put zeroWord s.teams.gregs (32 * k + r) v } }

/-- The instruction word at a word address. -/
def State.imemAt (s : State) (k a : Nat) : Nat := (look zeroWord s.teams.imem (4096 * k + a)).toNat

def State.dmemRead (s : State) (k a n : Nat) : List Byte := memRead s.teams.dmem (32768 * k + a) n
def State.dmemWrite (s : State) (k a : Nat) (bs : List Byte) : State :=
  { s with teams := { s.teams with dmem := memWrite s.teams.dmem (32768 * k + a) bs } }

/-! ### Instruction words (R279) -/

def opOf (w : Nat) : Nat := bitsOf w 31 26
def rdOf (w : Nat) : Nat := bitsOf w 25 21
def rs1Of (w : Nat) : Nat := bitsOf w 20 16
def rs2Of (w : Nat) : Nat := bitsOf w 15 11
def funcOf (w : Nat) : Nat := bitsOf w 10 0
/-- imm16, sign-extended. -/
def immOf (w : Nat) : Int := signed 16 w

/-- The op, and for op 0 the func, name an instruction (R281). -/
def opDefined (w : Nat) : Bool :=
  let op := opOf w
  if op = 0 then 1 ≤ funcOf w && funcOf w ≤ 12
  else op ≤ 0x09 || (0x10 ≤ op && op ≤ 0x26) || op == 0x28 || op == 0x29 || (0x2C ≤ op && op ≤ 0x35)

/-! ### Exceptions and restarts (R277, R287, R288) -/

/-- Courser k is present and its Team is powered. -/
def State.crsPowered (s : State) (k : Nat) : Bool := teamPresent s.variant (k / 8) && s.teamPowered (k / 8)

/-- An exception halts Courser k at its instruction. [DEDUCED, log entry 74] -/
def State.crsExcept (s : State) (k cause : Nat) (val : Nat) : State :=
  let c := s.crs k
  let s := s.fsets [(CRS_CEXC_valid (k / 8) (k % 8), 1), (CRS_CEXC_cause (k / 8) (k % 8), cause),
    (CRS_CEXC_pc (k / 8) (k % 8), c.pc)]
  let s := (s.setReg (CRS_CEXC_VAL (k / 8) (k % 8)) (word val)).crsCnt (k / 8) 11
  let s := Nat.repeat (fun (u : State) => u.crsCnt (k / 8) 4) c.taken s
  (s.setCrs k { c with
    run := .halted, dirty := [], miss := none, missed := false, published := 0, taken := 0, target := none,
    parked := false }).raise (832 + k)

/-- An exception with no faulting address, slot or word: what CRS_CEXC_VAL takes is left open.
[DEDUCED, log entry 74] -/
def State.crsExceptFree (s : State) (k cause : Nat) : State := (s.drew 1).crsExcept k cause (s.free % 2 ^ 32)

/-- Courser k starts at its entry address with g1 to g31 at 0 and its data memory kept (R272, R288). -/
def State.crsStart (s : State) (k : Nat) : State :=
  let c := s.crs k
  let s := { s with teams := { s.teams with gregs := s.teams.gregs.filter fun e => e.1 / 32 != k } }
  (s.fset (CRS_CEXC_valid (k / 8) (k % 8)) 0).setCrs k
    { c with
      run := .running, pc := c.entry, dirty := [], miss := none, missed := false, published := 0, taken := 0,
      target := none, cip := false, trig := false, parked := false }

/-- A halted Courser restarts unless its owner was torn down. -/
def State.crsRestart (s : State) (k : Nat) : State :=
  let c := s.crs k
  if c.run == .halted && c.named && !c.gone && s.crsPowered k then s.crsStart k else s

/-- RUN_LIMIT (R287): more than run_limit × 64 cycles without a wait or yield. -/
def execRunLimit (k : Nat) (s : State) : Host.Outcome State Fault Refusal :=
  if s.crsPowered k && (s.crs k).run == .running && !(s.crs k).parked && s.fget (CRS_TEAM_CFG_run_limit (k / 8)) != 0 then
    .next (s.crsExceptFree k 9)
  else .next s

/-- COURSER_AUTO_RESTART (R288): 64 cycles after an exception. -/
def execCourserAutoRestart (k : Nat) (s : State) : Host.Outcome State Fault Refusal :=
  if s.isSet (CRS_TEAM_CFG_auto_restart (k / 8)) then .next (s.crsRestart k) else .next s

/-- A write to Courser k's own registers: R9 for an absent Team; owner 0, the owner bound to PF0 and the Courser's owner
are accepted. -/
def State.crsWrite (s : State) (r : Requester) (k addr : Nat) (f : State → State) : State :=
  if !teamPresent s.variant (k / 8) then s.absentWrite
  else if s.privileged r || s.ownerOf r == some (s.crs k).owner then f s
  else s.rejectWrite r 0 (addr / 4)

/-- CRS_CCTRL.halt (R287). -/
def State.crsHalt (s : State) (k : Nat) : State :=
  let c := s.crs k
  if c.run == .running || c.run == .waiting then s.crsExceptFree k 11 else s

/-- COURSER_RESTART (R288). -/
def execCourserRestart (r : Requester) (k : Nat) (s : State) : Host.Outcome State Fault Refusal :=
  if 128 ≤ k then .next s else .next (s.crsWrite r k (CRS_CCTRL (k / 8) (k % 8)) fun s => s.crsRestart k)

/-- COURSER_HALT (R287). -/
def execCourserHalt (r : Requester) (k : Nat) (s : State) : Host.Outcome State Fault Refusal :=
  if 128 ≤ k then .next s else .next (s.crsWrite r k (CRS_CCTRL (k / 8) (k % 8)) fun s => s.crsHalt k)

/-! ### Work queues (R275, R276) -/

def noEntries (_ : Nat) : List WqEntry := []
def State.workQ (s : State) (t : Nat) : List WqEntry := look noEntries s.teams.workQs t
def State.setWorkQ (s : State) (t : Nat) (l : List WqEntry) : State :=
  { s with teams := { s.teams with workQs := put noEntries s.teams.workQs t l } }

/-- Team t has a Courser of owner o. -/
def State.teamHas (s : State) (t o : Nat) : Bool :=
  (List.range 8).any fun c => (s.crs (8 * t + c)).named && (s.crs (8 * t + c)).owner == o

/-- An entry is offered to Team t's work queue: the state and the status of R285. -/
def State.wqPost (s : State) (t : Nat) (e : WqEntry) : State × Nat :=
  if !teamPresent s.variant t then (s, 0x23)
  else if !s.teamPowered t then (s, 0x26)
  else if !s.teamHas t e.owner then (s.crsCnt t 3, 0x2B)
  else if 256 ≤ (s.workQ t).length then (s.crsCnt t 2, 0x10)
  else ((s.setWorkQ t (s.workQ t ++ [e])).crsCnt t 0, 0)

/-- The entry with its kind. -/
def wqKind (e : WqEntry) (kind : Nat) : WqEntry := { e with w0 := e.w0 % 2 ^ 28 + kind * 2 ^ 28 }

/-- HOST_POST (R275): a doorbell post by host software; the status returns to it. [DEDUCED, log entry 79] -/
def execHostPost (r : Requester) (t : Nat) (w0 w1 w2 w3 : Word) (s : State) : Host.Outcome State Fault Refusal :=
  match s.ownerOf r with
  | none => .next s
  | some o =>
    let p := s.wqPost t (wqKind { w0 := w0.toNat, w1 := w1.toNat, w2 := w2.toNat, w3 := w3.toNat, owner := o } 2)
    .next (p.1.emit (.read r (word p.2)))

/-- The oldest work-queue entry of an owner leaves the queue. -/
def State.wqTake (s : State) (t o : Nat) : State × Option WqEntry :=
  match (s.workQ t).find? fun e => e.owner == o with
  | some e => ((s.setWorkQ t ((s.workQ t).erase e)).crsCnt t 1, some e)
  | none => (s, none)

/-- A work-queue entry in g[r] to g[r + 3] (R285). -/
def State.putEntry (s : State) (k r : Nat) (e : WqEntry) : State :=
  (((s.setGreg k r (word e.w0)).setGreg k (r + 1) (word e.w1)).setGreg k (r + 2) (word e.w2)).setGreg k (r + 3) (word e.w3)

/-! ### Fabric queue pairs (R278) -/

/-- TEAM_FRAME_ARRIVAL (R278): the oldest frame of class c in Team t's egress store reaches its receive queue. -/
def execTeamFrameArrival (t c : Nat) (s : State) : Host.Outcome State Fault Refusal :=
  let key := 8 * (64 + t) + c
  if 16 ≤ t ∨ 8 ≤ c then .next s
  else
    match (s.egressQ key).find? fun f => !f.arrived with
    | none => .next s
    | some f =>
      if 2048 < f.bytes.length || !s.teamHas t f.owner then
        .next ((s.setEgressQ key ((s.egressQ key).erase f)).crsCnt t 13)
      else
        let l := s.egressQ key
        let i := l.findIdx fun g => !g.arrived
        .next ((s.setEgressQ key (l.set i { f with arrived := true })).crsCnt t 12)

/-- The classes of receive queue q, highest first. -/
def fqClasses (q : Nat) : List Nat := if q = 0 then [3, 2, 1, 0] else [7, 6, 5, 4]

/-- A frame that a Courser of owner o may take. -/
def fqMine (o : Nat) (f : Frame) : Bool := f.arrived && (o == 0 || f.owner == o)

/-- The frame that a QGET of owner o takes from receive queue q of Team t: its egress-store key and the frame. -/
def State.fqHead (s : State) (t q o : Nat) : Option (Nat × Frame) :=
  (fqClasses q).findSome? fun c =>
    ((s.egressQ (8 * (64 + t) + c)).find? (fqMine o)).map fun f => (8 * (64 + t) + c, f)

/-! ### Fetch and issue (R272, R279, R287) -/

/-- The dispatch of Team t is stopped (R90, R420). -/
def State.teamStopped (s : State) (t : Nat) : Bool := bitOf s.teams.stopped t

/-- Courser k issues instructions: it runs, waits for no line, and its Team's duplicate tags are not being rebuilt.
[DESIGN CHOICE, log entry 5] -/
def State.crsIssues (s : State) (k : Nat) : Bool :=
  let c := s.crs k
  decide (k < 128) && s.crsPowered k && c.run == .running && !c.parked && c.miss.isNone && !look (fun _ => false) s.teams.rebuilding (k / 8)

/-- Courser k goes to a word address, having taken `cycles` cycles outside waits (R280, R299). -/
def State.crsGo (s : State) (k pc cycles : Nat) : State :=
  (s.setCrs k { s.crs k with pc := pc % 4096, missed := false, published := 0 }).addSat (CRS_CBUSY (k / 8) (k % 8)) cycles

/-- The instruction of Courser k ends and the next one follows. -/
def State.crsNext (s : State) (k cycles : Nat) : State := s.crsGo k ((s.crs k).pc + 1) cycles

/-- A register takes a value and the next instruction follows. -/
def State.crsWriteback (s : State) (k rd : Nat) (v : Word) (cycles : Nat) : State := (s.setGreg k rd v).crsNext k cycles

/-- Courser k issues its next instruction, if that is the one with this op and, for op 0, this func: `ok` are its rules
of form, `eff` its effect. A word that names no instruction, or a malformed one, raises ILLEGAL; an uncorrectable error
in instruction memory raises ECC. [DESIGN CHOICE, log entry 81] -/
def State.issue (s : State) (k : Nat) (ecc : EccHit) (op func : Nat) (ok : Nat → Bool) (eff : Nat → State → State) : State :=
  if !s.crsIssues k then s
  else
    let w := s.imemAt k (s.crs k).pc
    if ecc = .imem then s.crsExcept k 8 w
    else if !opDefined w then s.crsExcept k 1 w
    else if opOf w != op || (op == 0 && funcOf w != func) then s
    else if !ok w then s.crsExcept k 1 w
    else eff w s

/-! ### Data memory (R271, R281) -/

/-- The data address of a load or store. [DEDUCED, log entry 76] -/
def State.dataAddr (s : State) (k w : Nat) : Nat := unsigned 32 ((s.greg k (rs1Of w)).toNat + immOf w)

/-- ALIGN or DMEM_RANGE of an access of n bytes, else the effect. [DEDUCED, log entry 75] -/
def State.dataGuard (s : State) (k a n : Nat) (f : State → State) : State :=
  if a % n != 0 then s.crsExcept k 3 a
  else if 32768 ≤ a then s.crsExcept k 4 a
  else f s

/-! ### Slot accesses (R284, R291 to R293, R296) -/

/-- Courser k's exception on a slot that it may not touch, 0 for none. -/
def State.slotCause (s : State) (k slot : Nat) : Nat :=
  if 262144 ≤ slot then 5 else s.homeCause (s.crs k).owner slot

/-- A slot is published: its M line is written back and stays in S. None while the eviction buffer is full. -/
def State.publish (s : State) (t slot : Nat) : Option State :=
  match s.line t slot with
  | some x =>
    if !x.modified then some s
    else if 8 ≤ (s.evictBuf t).length then none
    else some (s.writeBack t x true)
  | none => some s

/-- The slots of a dirty list published in order, as many as the eviction buffer takes; the flag says that all are. -/
def State.publishList (s : State) (k : Nat) : List Nat → State × Bool
  | [] => (s, true)
  | x :: xs =>
    match s.publish (k / 8) x with
    | none => (s, false)
    | some s => (s.setCrs k { s.crs k with dirty := xs, published := (s.crs k).published + 1 }).publishList k xs

/-- Courser k's whole dirty list published (R293). -/
def State.publishAll (s : State) (k : Nat) : State × Bool := s.publishList k (s.crs k).dirty

/-- A slot joins the dirty list; a 17th first publishes the oldest. None while that cannot be. -/
def State.listDirty (s : State) (k slot : Nat) : Option State :=
  let c := s.crs k
  if c.dirty.contains slot then some s
  else if c.dirty.length < 16 then some (s.setCrs k { c with dirty := c.dirty ++ [slot] })
  else
    match c.dirty with
    | [] => some s
    | x :: xs => (s.publish (k / 8) x).map fun s => s.setCrs k { s.crs k with dirty := xs ++ [slot] }

/-- An uncorrectable error in a Team-cache line is logged (R296). [DESIGN CHOICE, log entry 81] -/
def State.lineEcc (s : State) (t slot : Nat) : State :=
  let s := if s.isSet SIG_ECC_LOG_valid then s
    else s.fsets [(SIG_ECC_LOG_valid, 1), (SIG_ECC_LOG_source, 1), (SIG_ECC_LOG_team, t), (SIG_ECC_LOG_slot, slot)]
  (s.sigCnt 5).raise 1434

/-- Courser k asks home for a line: it waits while the slot is in the Team's own eviction buffer, while the line is on its way to the
Team already, and while no line of its set can leave. -/
def State.askLine (s : State) (k slot : Nat) (write : Bool) : State :=
  let t := k / 8
  if (s.inEvict t slot).isSome || (s.fetching t).contains slot then s
  else
    match if (s.line t slot).isSome then some s else s.makeRoom t slot with
    | none => s
    | some s =>
      let c := s.crs k
      ((if c.missed then s else s.crsCnt t 6).setCrs k { c with miss := some slot, missed := true }).sendSig
        { kind := if write then .getM else .getS, slot := slot, team := t, courser := k % 8, owner := c.owner }

/-- A line of Team t with an uncorrectable error is invalidated, and the directory records that (R290, R296). -/
def State.loseLine (s : State) (t slot : Nat) : State := ((s.lineEcc t slot).dropLine t slot).record slot t none

/-- A slot instruction of Courser k: its exceptions, a hit, on which `f` acts unless it must wait (none), or a miss. The owner and
key of a slot whose line the Team does not hold are checked at home (R297). -/
def State.slotAccess (s : State) (k slot : Nat) (write : Bool) (ecc : EccHit) (f : Line → State → Option State) : State :=
  let t := k / 8
  let cause := s.slotCause k slot
  if 262144 ≤ slot then s.crsExcept k 5 slot
  else
    match s.line t slot with
    | none => s.askLine k slot write
    | some x =>
      if cause != 0 then s.crsExcept k cause slot
      else if ecc = .dirtyLine ∧ x.modified then (s.loseLine t slot).crsExcept k 8 slot
      else if ecc = .cleanLine ∧ !x.modified then (s.loseLine t slot).askLine k slot write
      else if write && !x.modified then s.askLine k slot write
      else
        let hit := (if (s.crs k).missed then s else s.crsCnt t 5).setLine t x
        (f x (if ecc = .lineSingle then hit.sigCnt 4 else hit)).getD s

end Sys2Proof.Machine
end

