-- ==== Sys2Proof/Machine/CourserIsa.lean ====
section
/-!
DEFINITION. The Courser instruction set (R279 to R286, R293): each instruction as the command "Courser k issues its next
instruction, and it is this one", with the uncorrectable error that it meets, if any. Where Courser k does not issue, or
its next instruction is another one, the command changes nothing.
-/

namespace Sys2Proof.Machine

/-! ### Forms (R279, R281) -/

def anyForm (_ : Nat) : Bool := true
/-- Unused fields below bit `n` of func upwards are 0. -/
def funcBelow (n w : Nat) : Bool := decide (funcOf w < n)

/-- An operation on two registers. -/
def State.aluR (s : State) (k : Nat) (ecc : EccHit) (func cycles : Nat) (f : Word → Word → Word) : State :=
  s.issue k ecc 0 func anyForm fun w s =>
    s.crsWriteback k (rdOf w) (f (s.greg k (rs1Of w)) (s.greg k (rs2Of w))) cycles

/-- An operation on a register and the immediate as `imm` reads it. -/
def State.aluI (s : State) (k : Nat) (ecc : EccHit) (op : Nat) (ok : Nat → Bool) (imm : Nat → Word) (f : Word → Word → Word) :
    State :=
  s.issue k ecc op 0 ok fun w s => s.crsWriteback k (rdOf w) (f (s.greg k (rs1Of w)) (imm w)) 1

def immS (w : Nat) : Word := BitVec.ofInt 32 (immOf w)
def immZ (w : Nat) : Word := word (bitsOf w 15 0)
/-- A shift amount: imm16[15:5] must be 0. -/
def shiftForm (w : Nat) : Bool := bitsOf w 15 5 == 0
/-- The amount of a shift: bits [4:0]. -/
def shAmt (v : Word) : Nat := v.toNat % 32

def boolWord (b : Bool) : Word := if b then 1 else 0

/-! ### Arithmetic (R281) -/

/-- ADD. -/
def execAdd (k : Nat) (ecc : EccHit) (s : State) : Host.Outcome State Fault Refusal := .next (s.aluR k ecc 0x001 1 (· + ·))
/-- SUB. -/
def execSub (k : Nat) (ecc : EccHit) (s : State) : Host.Outcome State Fault Refusal := .next (s.aluR k ecc 0x002 1 (· - ·))
/-- AND. -/
def execAnd (k : Nat) (ecc : EccHit) (s : State) : Host.Outcome State Fault Refusal := .next (s.aluR k ecc 0x003 1 (· &&& ·))
/-- OR. -/
def execOr (k : Nat) (ecc : EccHit) (s : State) : Host.Outcome State Fault Refusal := .next (s.aluR k ecc 0x004 1 (· ||| ·))
/-- XOR. -/
def execXor (k : Nat) (ecc : EccHit) (s : State) : Host.Outcome State Fault Refusal := .next (s.aluR k ecc 0x005 1 (· ^^^ ·))
/-- SLL. -/
def execSll (k : Nat) (ecc : EccHit) (s : State) : Host.Outcome State Fault Refusal :=
  .next (s.aluR k ecc 0x006 1 fun a b => a <<< shAmt b)
/-- SRL. -/
def execSrl (k : Nat) (ecc : EccHit) (s : State) : Host.Outcome State Fault Refusal :=
  .next (s.aluR k ecc 0x007 1 fun a b => a >>> shAmt b)
/-- SRA. -/
def execSra (k : Nat) (ecc : EccHit) (s : State) : Host.Outcome State Fault Refusal :=
  .next (s.aluR k ecc 0x008 1 fun a b => a.sshiftRight (shAmt b))
/-- SLT. -/
def execSlt (k : Nat) (ecc : EccHit) (s : State) : Host.Outcome State Fault Refusal :=
  .next (s.aluR k ecc 0x009 1 fun a b => boolWord (decide (a.toInt < b.toInt)))
/-- SLTU. -/
def execSltu (k : Nat) (ecc : EccHit) (s : State) : Host.Outcome State Fault Refusal :=
  .next (s.aluR k ecc 0x00A 1 fun a b => boolWord (decide (a.toNat < b.toNat)))
/-- MUL. -/
def execMul (k : Nat) (ecc : EccHit) (s : State) : Host.Outcome State Fault Refusal := .next (s.aluR k ecc 0x00B 2 (· * ·))
/-- MULH. -/
def execMulh (k : Nat) (ecc : EccHit) (s : State) : Host.Outcome State Fault Refusal :=
  .next (s.aluR k ecc 0x00C 2 fun a b => BitVec.ofInt 32 (a.toInt * b.toInt / 2 ^ 32))
/-- ADDI. -/
def execAddi (k : Nat) (ecc : EccHit) (s : State) : Host.Outcome State Fault Refusal :=
  .next (s.aluI k ecc 0x01 anyForm immS (· + ·))
/-- ANDI. -/
def execAndi (k : Nat) (ecc : EccHit) (s : State) : Host.Outcome State Fault Refusal :=
  .next (s.aluI k ecc 0x02 anyForm immZ (· &&& ·))
/-- ORI. -/
def execOri (k : Nat) (ecc : EccHit) (s : State) : Host.Outcome State Fault Refusal :=
  .next (s.aluI k ecc 0x03 anyForm immZ (· ||| ·))
/-- XORI. -/
def execXori (k : Nat) (ecc : EccHit) (s : State) : Host.Outcome State Fault Refusal :=
  .next (s.aluI k ecc 0x04 anyForm immZ (· ^^^ ·))
/-- SLTI. -/
def execSlti (k : Nat) (ecc : EccHit) (s : State) : Host.Outcome State Fault Refusal :=
  .next (s.aluI k ecc 0x05 anyForm immS fun a b => boolWord (decide (a.toInt < b.toInt)))
/-- SLLI. -/
def execSlli (k : Nat) (ecc : EccHit) (s : State) : Host.Outcome State Fault Refusal :=
  .next (s.aluI k ecc 0x06 shiftForm immZ fun a b => a <<< shAmt b)
/-- SRLI. -/
def execSrli (k : Nat) (ecc : EccHit) (s : State) : Host.Outcome State Fault Refusal :=
  .next (s.aluI k ecc 0x07 shiftForm immZ fun a b => a >>> shAmt b)
/-- SRAI. -/
def execSrai (k : Nat) (ecc : EccHit) (s : State) : Host.Outcome State Fault Refusal :=
  .next (s.aluI k ecc 0x08 shiftForm immZ fun a b => a.sshiftRight (shAmt b))
/-- LUI: rs1 must be 0. -/
def execLui (k : Nat) (ecc : EccHit) (s : State) : Host.Outcome State Fault Refusal :=
  .next (s.aluI k ecc 0x09 (fun w => rs1Of w == 0) immZ fun _ b => b <<< 16)

/-! ### Loads and stores (R281) -/

/-- A load of n bytes, extended by `ext`. -/
def State.loadOp (s : State) (k : Nat) (ecc : EccHit) (op n : Nat) (ext : Nat → Word) : State :=
  s.issue k ecc op 0 anyForm fun w s =>
    let a := s.dataAddr k w
    s.dataGuard k a n fun s =>
      if ecc = .dmem then s.crsExcept k 8 a else s.crsWriteback k (rdOf w) (ext (leNat (s.dmemRead k a n))) 2

/-- A store of the low n bytes of rd. -/
def State.storeOp (s : State) (k : Nat) (ecc : EccHit) (op n : Nat) : State :=
  s.issue k ecc op 0 anyForm fun w s =>
    let a := s.dataAddr k w
    s.dataGuard k a n fun s => (s.dmemWrite k a (leBytes n (s.greg k (rdOf w)).toNat)).crsNext k 2

/-- LW. -/
def execLw (k : Nat) (ecc : EccHit) (s : State) : Host.Outcome State Fault Refusal := .next (s.loadOp k ecc 0x10 4 word)
/-- LH. -/
def execLh (k : Nat) (ecc : EccHit) (s : State) : Host.Outcome State Fault Refusal :=
  .next (s.loadOp k ecc 0x11 2 fun v => BitVec.ofInt 32 (signed 16 v))
/-- LHU. -/
def execLhu (k : Nat) (ecc : EccHit) (s : State) : Host.Outcome State Fault Refusal := .next (s.loadOp k ecc 0x12 2 word)
/-- LB. -/
def execLb (k : Nat) (ecc : EccHit) (s : State) : Host.Outcome State Fault Refusal :=
  .next (s.loadOp k ecc 0x13 1 fun v => BitVec.ofInt 32 (signed 8 v))
/-- LBU. -/
def execLbu (k : Nat) (ecc : EccHit) (s : State) : Host.Outcome State Fault Refusal := .next (s.loadOp k ecc 0x14 1 word)
/-- SW. -/
def execSw (k : Nat) (ecc : EccHit) (s : State) : Host.Outcome State Fault Refusal := .next (s.storeOp k ecc 0x15 4)
/-- SH. -/
def execSh (k : Nat) (ecc : EccHit) (s : State) : Host.Outcome State Fault Refusal := .next (s.storeOp k ecc 0x16 2)
/-- SB. -/
def execSb (k : Nat) (ecc : EccHit) (s : State) : Host.Outcome State Fault Refusal := .next (s.storeOp k ecc 0x17 1)

/-! ### Branches and jumps (R279) -/

/-- A jump to a word address, which must lie in instruction memory. [DEDUCED, log entry 76] -/
def State.jump (s : State) (k w : Nat) (target : Int) (link : Option Nat) : State :=
  if target < 0 ∨ 4096 ≤ target then s.crsExcept k 2 w
  else
    let s := match link with
      | some rd => s.setGreg k rd (word ((s.crs k).pc + 1))
      | none => s
    s.crsGo k target.toNat 2

/-- PC + 1 + offset. -/
def State.relative (s : State) (k : Nat) (off : Int) : Int := (s.crs k).pc + 1 + off

/-- A branch on the comparison of rs1, in [25:21], with rs2, in [20:16]. -/
def State.branchOp (s : State) (k : Nat) (ecc : EccHit) (op : Nat) (c : Word → Word → Bool) : State :=
  s.issue k ecc op 0 anyForm fun w s =>
    if c (s.greg k (rdOf w)) (s.greg k (rs1Of w)) then s.jump k w (s.relative k (immOf w)) none else s.crsNext k 1

/-- BEQ. -/
def execBeq (k : Nat) (ecc : EccHit) (s : State) : Host.Outcome State Fault Refusal := .next (s.branchOp k ecc 0x18 (· == ·))
/-- BNE. -/
def execBne (k : Nat) (ecc : EccHit) (s : State) : Host.Outcome State Fault Refusal := .next (s.branchOp k ecc 0x19 (· != ·))
/-- BLT. -/
def execBlt (k : Nat) (ecc : EccHit) (s : State) : Host.Outcome State Fault Refusal :=
  .next (s.branchOp k ecc 0x1A fun a b => decide (a.toInt < b.toInt))
/-- BGE. -/
def execBge (k : Nat) (ecc : EccHit) (s : State) : Host.Outcome State Fault Refusal :=
  .next (s.branchOp k ecc 0x1B fun a b => decide (b.toInt ≤ a.toInt))
/-- BLTU. -/
def execBltu (k : Nat) (ecc : EccHit) (s : State) : Host.Outcome State Fault Refusal :=
  .next (s.branchOp k ecc 0x1C fun a b => decide (a.toNat < b.toNat))
/-- BGEU. -/
def execBgeu (k : Nat) (ecc : EccHit) (s : State) : Host.Outcome State Fault Refusal :=
  .next (s.branchOp k ecc 0x1D fun a b => decide (b.toNat ≤ a.toNat))
/-- JAL. -/
def execJal (k : Nat) (ecc : EccHit) (s : State) : Host.Outcome State Fault Refusal :=
  .next (s.issue k ecc 0x1E 0 anyForm fun w s => s.jump k w (s.relative k (signed 21 w)) (some (rdOf w)))
/-- JALR: the target is g[rs1] + imm16, as words modulo 2^32. -/
def execJalr (k : Nat) (ecc : EccHit) (s : State) : Host.Outcome State Fault Refusal :=
  .next (s.issue k ecc 0x1F 0 anyForm fun w s => s.jump k w (s.dataAddr k w) (some (rdOf w)))

/-! ### Bit fields (R282) -/

/-- A bit field: base address, position, length, sign and byte order. -/
structure FieldSpec where
  base : Nat
  pos : Nat
  len : Nat
  sgn : Bool
  be : Bool

/-- The data address of a position's byte. -/
def FieldSpec.byteOf (f : FieldSpec) (p : Int) : Nat := unsigned 32 (f.base + p / 8)

def FieldSpec.walk (f : FieldSpec) : List Int := bitWalk f.be f.len f.pos

/-- The first byte touched that lies outside data memory. -/
def FieldSpec.outside (f : FieldSpec) : Option Nat := (f.walk.map f.byteOf).find? fun a => decide (32768 ≤ a)

/-- The field's operands in format X, and in BFXR and BFIR. -/
def State.fieldX (s : State) (k w : Nat) : FieldSpec :=
  { base := (s.greg k (rs1Of w)).toNat, pos := bitsOf w 8 0, len := bitsOf w 15 11 + 1, sgn := bitOf w 10, be := bitOf w 9 }
def State.fieldR (s : State) (k w : Nat) : FieldSpec :=
  { base := (s.greg k (rs1Of w)).toNat, pos := (s.greg k (rs2Of w)).toNat % 4096, len := bitsOf w 10 6 + 1, sgn := bitOf w 5,
    be := bitOf w 4 }

/-- The bits at the field's positions. -/
def State.fieldGet (s : State) (k : Nat) (f : FieldSpec) : Nat :=
  f.walk.reverse.foldl (fun v p =>
    2 * v + (byteAt (s.dmemRead k (f.byteOf p) 1) 0).toNat / 2 ^ (p % 8).toNat % 2) 0

/-- The bits at the field's positions replaced by the low bits of v, bit 0 first. -/
def State.fieldPut (s : State) (k : Nat) (f : FieldSpec) (v : Nat) : State :=
  (f.walk.zipIdx).foldl (fun (u : State) (e : Int × Nat) =>
    let a := f.byteOf e.1
    u.dmemWrite k a [byteBit (byteAt (u.dmemRead k a 1) 0) (e.1 % 8).toNat (bitOf v e.2)]) s

/-- DMEM_RANGE or ECC of a field access, else the effect. Which of the bytes that it touches has the error no command says: a free
value. [DEDUCED, log entry 77] -/
def State.fieldGuard (s : State) (k : Nat) (ecc : EccHit) (f : FieldSpec) (g : State → State) : State :=
  match f.outside with
  | some a => s.crsExcept k 4 a
  | none =>
    if ecc = .dmem then (s.drew 1).crsExcept k 8 ((f.walk.map f.byteOf).getD (s.free % f.len) f.base) else g s

/-- A field extracted, zero- or sign-extended. -/
def State.fieldTake (s : State) (k w : Nat) (ecc : EccHit) (f : FieldSpec) : State :=
  s.fieldGuard k ecc f fun s =>
    let v := s.fieldGet k f
    s.crsWriteback k (rdOf w) (if f.sgn then BitVec.ofInt 32 (signed f.len v) else word v) 2

/-- A field inserted from the low bits of rd. -/
def State.fieldGive (s : State) (k w : Nat) (ecc : EccHit) (f : FieldSpec) : State :=
  s.fieldGuard k ecc f fun s => (s.fieldPut k f (s.greg k (rdOf w)).toNat).crsNext k 3

/-- BFX. -/
def execBfx (k : Nat) (ecc : EccHit) (s : State) : Host.Outcome State Fault Refusal :=
  .next (s.issue k ecc 0x20 0 anyForm fun w s => s.fieldTake k w ecc (s.fieldX k w))
/-- BFI: sgn is unused. [DEDUCED, log entry 77] -/
def execBfi (k : Nat) (ecc : EccHit) (s : State) : Host.Outcome State Fault Refusal :=
  .next (s.issue k ecc 0x21 0 (fun w => !bitOf w 10) fun w s => s.fieldGive k w ecc (s.fieldX k w))
/-- BFXR: func[3:0] is unused. -/
def execBfxr (k : Nat) (ecc : EccHit) (s : State) : Host.Outcome State Fault Refusal :=
  .next (s.issue k ecc 0x22 0 (fun w => bitsOf w 3 0 == 0) fun w s => s.fieldTake k w ecc (s.fieldR k w))
/-- BFIR: func[5] and func[3:0] are unused. -/
def execBfir (k : Nat) (ecc : EccHit) (s : State) : Host.Outcome State Fault Refusal :=
  .next (s.issue k ecc 0x23 0 (fun w => bitsOf w 3 0 == 0 && !bitOf w 5) fun w s => s.fieldGive k w ecc (s.fieldR k w))

/-! ### CRC and scaling (R283) -/

/-- The bits of v below w, in the opposite order. -/
def mirrorBits : Nat → Nat → Nat
  | 0, _ => 0
  | w + 1, v => v % 2 * 2 ^ w + mirrorBits w (v / 2)

/-- One bit of an unreflected CRC of width w. -/
def crcBitUp (w poly c : Nat) : Nat :=
  if 2 ^ (w - 1) ≤ c % 2 ^ w then (2 * c % 2 ^ w) ^^^ poly else 2 * c % 2 ^ w

/-- One byte of a CRC of width w with no final XOR. -/
def crcAny (w : Nat) (reflect : Bool) (poly c b : Nat) : Nat :=
  let poly := poly % 2 ^ w
  let c := c % 2 ^ w
  if reflect then Nat.repeat (crcBit (mirrorBits w poly)) 8 (c ^^^ b)
  else Nat.repeat (crcBitUp w poly) 8 (c ^^^ b * 2 ^ (w - 8))

/-- The CRC step of polynomial i of Courser k's Team over bytes. -/
def State.crcOp (s : State) (k i : Nat) (c : Word) (bs : List Nat) : Word :=
  let t := k / 8
  let cfg := (s.reg (CRS_CRC_CFG t)).toNat / 16 ^ i
  let w := match cfg % 4 with | 0 => 8 | 1 => 16 | _ => 32
  word (bs.foldl (crcAny w (bitOf cfg 2) (s.reg (CRS_CRC_POLY t i)).toNat) c.toNat)

/-- CRCB: func[10:2] is unused. -/
def execCrcb (k : Nat) (ecc : EccHit) (s : State) : Host.Outcome State Fault Refusal :=
  .next (s.issue k ecc 0x24 0 (funcBelow 4) fun w s =>
    s.crsWriteback k (rdOf w) (s.crcOp k (funcOf w) (s.greg k (rs1Of w)) [(s.greg k (rs2Of w)).toNat % 256]) 1)
/-- CRCW: bits [7:0] of rs2 first. -/
def execCrcw (k : Nat) (ecc : EccHit) (s : State) : Host.Outcome State Fault Refusal :=
  .next (s.issue k ecc 0x25 0 (funcBelow 4) fun w s =>
    s.crsWriteback k (rdOf w)
      (s.crcOp k (funcOf w) (s.greg k (rs1Of w)) ((leBytes 4 (s.greg k (rs2Of w)).toNat).map (·.toNat))) 2)
/-- SCALE: func[10:7] is unused. -/
def execScale (k : Nat) (ecc : EccHit) (s : State) : Host.Outcome State Fault Refusal :=
  .next (s.issue k ecc 0x26 0 (fun w => funcBelow 128 w && decide (rs2Of w ≤ 30)) fun w s =>
    let f := funcOf w
    let raw := s.greg k (rs1Of w)
    let x : Int := if bitOf f 5 then raw.toInt else raw.toNat
    let v := convert x (s.greg k (rs2Of w)).toInt (f % 32) (s.greg k (rs2Of w + 1)).toInt
    s.crsWriteback k (rdOf w) (BitVec.ofInt 32 (if bitOf f 6 then satS 32 v else v)) 2)

/-! ### Queues and cipher jobs (R285) -/

/-- QGET's form: queue 3 is illegal, and the registers that a queue does not use are 0. -/
def qgetForm (w : Nat) : Bool :=
  funcBelow 3 w && rs2Of w == 0 && (if funcOf w = 0 then rs1Of w == 0 && decide (rdOf w ≤ 27) else decide (rdOf w ≤ 30))

/-- QGET of the work queue. -/
def State.qgetWork (s : State) (k w : Nat) : State :=
  let c := s.crs k
  let r := s.wqTake (k / 8) c.owner
  match r.2 with
  | none => r.1.crsWriteback k (rdOf w) 0 2
  | some e =>
    let s := r.1.setCrs k { c with taken := c.taken + 1 }
    (s.putEntry k (rdOf w + 1) e).crsWriteback k (rdOf w) 1 2

/-- QGET of a receive queue. -/
def State.qgetFrame (s : State) (k w : Nat) : State :=
  let a := (s.greg k (rs1Of w)).toNat
  if a % 16 != 0 then s.crsExcept k 3 a
  else
    match s.fqHead (k / 8) (funcOf w - 1) (s.crs k).owner with
    | none => s.crsWriteback k (rdOf w) 0 2
    | some (key, f) =>
      let n := f.bytes.length
      if 32768 < a + n then s.crsExcept k 4 (if a < 32768 then 32768 else a)
      else
        let s := (s.setEgressQ key ((s.egressQ key).erase f)).dmemWrite k a f.bytes
        let s := s.setGreg k (rdOf w) (word (f.src * 2 ^ 24 + f.cls * 2 ^ 21 + n % 4096))
        s.crsWriteback k (rdOf w + 1) (word f.ts) (2 + (n + 15) / 16)

/-- QGET. -/
def execQget (k : Nat) (ecc : EccHit) (s : State) : Host.Outcome State Fault Refusal :=
  .next (s.issue k ecc 0x28 0 qgetForm fun w s => if funcOf w = 0 then s.qgetWork k w else s.qgetFrame k w)

/-- A status goes to rd; a refusal is counted. -/
def State.qputEnds (s : State) (k w status cycles : Nat) : State :=
  (if status = 0 then s else s.crsCnt (k / 8) 15).crsWriteback k (rdOf w) (word status) cycles

/-- QPUT to a work queue. -/
def State.qputWork (s : State) (k w : Nat) : State :=
  let g := fun i => (s.greg k (rs1Of w + i)).toNat
  let r := s.wqPost ((s.greg k (rs2Of w)).toNat % 16)
    (wqKind { w0 := g 0, w1 := g 1, w2 := g 2, w3 := g 3, owner := (s.crs k).owner } 3)
  r.1.qputEnds k w r.2 2

/-- The frame that a Courser sends: a resolved frame for a CAN or LIN lane begins with the lane header. -/
def State.courserFrame (s : State) (k : Nat) (spec : Nat) (bs : List Byte) : Frame :=
  let out := bitsOf spec 30 24
  let lane := bitOf spec 31 && decide (16 ≤ out) && decide (out < 64) && s.fget (LANE_PHY_CFG_kind (out - 16)) != 4
  { bytes := bs, lane := lane, src := 64 + k / 8, owner := (s.crs k).owner, cls := bitsOf spec 23 21,
    resolved := if bitOf spec 31 then some [out] else none, rx0 := s.timeNs 0 }

/-- QPUT to a transmit queue. A length outside 1 to 2,048 sends nothing, and its status is left open. -/
def State.qputFrame (s : State) (k w : Nat) : State :=
  let a := (s.greg k (rs1Of w)).toNat
  let spec := (s.greg k (rs2Of w)).toNat
  let n := spec % 4096
  let key := 2 * (k / 8) + (funcOf w - 1)
  if a % 16 != 0 then s.crsExcept k 3 a
  else if n = 0 ∨ 2048 < n then (s.drew 1).crsWriteback k (rdOf w) (word s.free) 2
  else if 32768 < a + n then s.crsExcept k 4 (if a < 32768 then 32768 else a)
  else
    let l := look noFrames s.teams.fqTx key
    let cycles := 2 + (n + 15) / 16
    if 8 ≤ l.length then s.qputEnds k w 0x10 cycles
    else
      let f := s.courserFrame k spec (s.dmemRead k a n)
      let s := { s with teams := { s.teams with fqTx := put noFrames s.teams.fqTx key (l ++ [f]) } }
      (s.crsCnt (k / 8) 14).qputEnds k w 0 cycles

/-- QPUT. [DEDUCED, log entry 79] -/
def execQput (k : Nat) (ecc : EccHit) (s : State) : Host.Outcome State Fault Refusal :=
  .next (s.issue k ecc 0x29 0 (fun w => funcBelow 3 w && (funcOf w != 0 || decide (rs1Of w ≤ 28))) fun w s =>
    if funcOf w = 0 then s.qputWork k w else s.qputFrame k w)

/-- A job takes a place (R368). -/
def State.jobAdd (s : State) (requester owner : Nat) (desc : List Byte) : State :=
  let j : Job := { requester := requester, owner := owner, seq := s.cip.jobNext, desc := desc }
  { s with cip := { s.cip with jobs := s.cip.jobs ++ [j], jobNext := s.cip.jobNext + 1 } }

/-- Jobs of Team t's Coursers (R368). -/
def State.teamJobs (s : State) (t : Nat) : Nat :=
  (s.cip.jobs.filter fun j => decide (33 ≤ j.requester) && j.frame.isNone && (j.requester - 33) / 8 == t).length

/-- CIPH (R285, R368). -/
def execCiph (k : Nat) (ecc : EccHit) (s : State) : Host.Outcome State Fault Refusal :=
  .next (s.issue k ecc 0x34 0 (fun w => rs2Of w == 0 && funcOf w == 0) fun w s =>
    let a := (s.greg k (rs1Of w)).toNat
    if a % 64 != 0 then s.crsExcept k 3 a
    else if 32768 ≤ a then s.crsExcept k 4 a
    else if 4 ≤ s.teamJobs (k / 8) then s.qputEnds k w 0x10 2
    else (s.jobAdd (33 + k) (s.crs k).owner (s.dmemRead k a 64)).qputEnds k w 0 2)

/-! ### Slots (R284, R293) -/

/-- SLD on a line that the Team holds. -/
def State.sldDo (s : State) (k w : Nat) (x : Line) (cycles : Nat) : State :=
  let rd := rdOf w
  (((s.setGreg k rd (word x.value)).setGreg k (rd + 1) (word (x.value / 2 ^ 32))).crsWriteback k (rd + 2) (word x.version) cycles)

/-- A store into a line held in M, which joins the dirty list; none while that must wait. -/
def State.sstDo (s : State) (k rs : Nat) (x : Line) (f : State → Nat → State) : Option State :=
  (s.listDirty k x.slot).map fun s =>
    let value := (s.greg k rs).toNat + (s.greg k (rs + 1)).toNat * 2 ^ 32
    let version := (x.version + 1) % 65536
    f (s.setLine (k / 8) { x with value := value, version := version }) version

/-- SSTC's compare and store. -/
def State.sstcDo (s : State) (k w : Nat) (x : Line) (cycles : Nat) : Option State :=
  if x.version = (s.greg k (rdOf w)).toNat % 65536 then
    s.sstDo k (rs2Of w) x fun s v => s.crsWriteback k (rdOf w) (word v) cycles
  else some ((s.crsCnt (k / 8) 10).crsWriteback k (rdOf w) (word (x.version + 2 ^ 31)) cycles)

/-- SLD. -/
def execSld (k : Nat) (ecc : EccHit) (s : State) : Host.Outcome State Fault Refusal :=
  .next (s.issue k ecc 0x2C 0 (fun w => decide (rdOf w ≤ 29)) fun w s =>
    s.slotAccess k (s.dataAddr k w) false ecc fun x s => some (s.sldDo k w x 4))
/-- SST. -/
def execSst (k : Nat) (ecc : EccHit) (s : State) : Host.Outcome State Fault Refusal :=
  .next (s.issue k ecc 0x2D 0 (fun w => decide (rdOf w ≤ 30)) fun w s =>
    s.slotAccess k (s.dataAddr k w) true ecc fun x s => s.sstDo k (rdOf w) x fun s _ => s.crsNext k 3)
/-- SSTC. -/
def execSstc (k : Nat) (ecc : EccHit) (s : State) : Host.Outcome State Fault Refusal :=
  .next (s.issue k ecc 0x2E 0 (fun w => funcOf w == 0 && decide (rs2Of w ≤ 30)) fun w s =>
    s.slotAccess k (s.greg k (rs1Of w)).toNat true ecc fun x s => s.sstcDo k w x 4)
/-- SFL (R293): publishes one slot; rd must be 0. It waits while the eviction buffer is full. -/
def execSfl (k : Nat) (ecc : EccHit) (s : State) : Host.Outcome State Fault Refusal :=
  .next (s.issue k ecc 0x2F 0 (fun w => rdOf w == 0) fun w s =>
    let slot := s.dataAddr k w
    let cause := s.slotCause k slot
    if cause != 0 then s.crsExcept k cause slot
    else
      match s.publish (k / 8) slot with
      | none => s
      | some s =>
        let c := s.crs k
        (s.setCrs k { c with dirty := c.dirty.filter (· != slot) }).crsNext k 2)

/-- LINE_FILL (R291): a line, or home's exception, reaches Team t, and the instruction that waits for it completes,
having taken `cycles` cycles. -/
def execLineFill (t slot cycles : Nat) (s : State) : Host.Outcome State Fault Refusal :=
  match s.sig.fills.find? fun f => f.team == t && f.line.slot == slot with
  | none => .next s
  | some f =>
    let s := { s with sig := { s.sig with fills := s.sig.fills.erase f } }
    let k := 8 * t + f.courser
    let c := s.crs k
    let mine := c.miss == some slot
    let s := if f.cause = 0 then s.setLine t f.line else s
    if !mine then .next s
    else
      let s := s.setCrs k { c with miss := none }
      let w := s.imemAt k c.pc
      if f.cause != 0 then .next (s.crsExcept k f.cause slot)
      else if opOf w = 0x2C then .next (s.sldDo k w f.line cycles)
      else if opOf w = 0x2D then .next ((s.sstDo k (rdOf w) f.line fun s _ => s.crsNext k cycles).getD s)
      else .next ((s.sstcDo k w f.line cycles).getD s)

/-! ### Waits, time and events (R285, R286, R293) -/

/-- Courser k suspends at its wait instruction once its dirty list is published. [DEDUCED, log entry 78] -/
def State.waitOn (s : State) (k rd mask : Nat) (target : Option (Nat × Nat)) (w : Nat) : State :=
  if bitOf mask 0 && 27 < rd then s.crsExcept k 1 w
  else
    let p := s.publishAll k
    if !p.2 then p.1
    else
      p.1.setCrs k { p.1.crs k with run := .waiting, mask := mask % 64, waitRd := rd, target := target, taken := 0 }

/-- WAITT: the mask is g[rs2], the target {g[rs1 + 1], g[rs1]} in domain func[1:0]. -/
def execWaitt (k : Nat) (ecc : EccHit) (s : State) : Host.Outcome State Fault Refusal :=
  .next (s.issue k ecc 0x30 0 (fun w => funcBelow 4 w && decide (rs1Of w ≤ 30)) fun w s =>
    let target := (s.greg k (rs1Of w)).toNat + (s.greg k (rs1Of w + 1)).toNat * 2 ^ 32
    s.waitOn k (rdOf w) (s.greg k (rs2Of w)).toNat (some (funcOf w, target)) w)
/-- WAITE: the mask is g[rs1]. -/
def execWaite (k : Nat) (ecc : EccHit) (s : State) : Host.Outcome State Fault Refusal :=
  .next (s.issue k ecc 0x31 0 (fun w => rs2Of w == 0 && funcOf w == 0) fun w s =>
    s.waitOn k (rdOf w) (s.greg k (rs1Of w)).toNat none w)
/-- RDT. -/
def execRdt (k : Nat) (ecc : EccHit) (s : State) : Host.Outcome State Fault Refusal :=
  .next (s.issue k ecc 0x32 0 (fun w => rs1Of w == 0 && rs2Of w == 0 && funcBelow 4 w && decide (rdOf w ≤ 30)) fun w s =>
    let v := s.timeNs (funcOf w)
    (s.setGreg k (rdOf w) (word v)).crsWriteback k (rdOf w + 1) (word (v / 2 ^ 32)) 2)
/-- EVR (R285, R302). -/
def execEvr (k : Nat) (ecc : EccHit) (s : State) : Host.Outcome State Fault Refusal :=
  .next (s.issue k ecc 0x33 0 (fun w => rdOf w == 0 && rs1Of w == 0) fun w s =>
    ((s.fset (CRS_CEVT_code (k / 8) (k % 8)) (bitsOf w 15 0)).crsNext k 1).raise (832 + k))
/-- YIELD (R293): publishes the dirty list; it waits while the eviction buffer is full. In a Team that drains the Courser
stops behind it (R90). -/
def execYield (k : Nat) (ecc : EccHit) (s : State) : Host.Outcome State Fault Refusal :=
  .next (s.issue k ecc 0x35 0 (fun w => bitsOf w 25 0 == 0) fun _ s =>
    let n := (s.crs k).published + (s.crs k).dirty.length
    let p := s.publishAll k
    if !p.2 then p.1
    else (p.1.setCrs k { p.1.crs k with taken := 0, parked := s.teamStopped (k / 8) }).crsNext k (1 + 2 * n))

/-- Courser k is the lowest-numbered one of its owner that waits with cause WQ (R276). -/
def State.firstWaiter (s : State) (k : Nat) : Bool :=
  let t := k / 8
  ((List.range 8).find? fun c =>
    let x := s.crs (8 * t + c)
    x.owner == (s.crs k).owner && x.run == .waiting && bitOf x.mask 0) == some (k % 8)

/-- Receive queue q of Team t holds a frame of owner o (R286). -/
def State.fqHolds (s : State) (t q o : Nat) : Bool :=
  (fqClasses q).any fun c => (s.egressQ (8 * (64 + t) + c)).any fun f => f.arrived && f.owner == o

/-- The causes that are present for waiting Courser k, in its mask or not (R286). [DEDUCED, log entry 78] -/
def State.causes (s : State) (k : Nat) : Nat :=
  let c := s.crs k
  let t := k / 8
  let bit := fun (i : Nat) (b : Bool) => b2n b * 2 ^ i
  let time := match c.target with | some (d, v) => decide (v ≤ s.timeNs d) | none => false
  bit 0 (s.firstWaiter k && (s.workQ t).any fun e => e.owner == c.owner) +
    bit 1 (s.fqHolds t 0 c.owner) + bit 2 (s.fqHolds t 1 c.owner) + bit 3 c.cip +
    bit 4 (bitOf (s.fget (CRS_DOORBELL_ring t)) (k % 8)) + bit 5 c.trig + bit 7 time

/-- The bits of a wait that end it: those of its mask, and for WAITT the time (R286). -/
def wakeBits (c : Courser) : Nat := c.mask % 64 + b2n c.target.isSome * 128

/-- COURSER_RESUME (R286): a cause in the mask of a waiting Courser is present, and it goes on, with every cause present in g[rd],
unless its Team is stopped (R90). -/
def execCourserResume (k : Nat) (s : State) : Host.Outcome State Fault Refusal :=
  let c := s.crs k
  let v := s.causes k
  if 128 ≤ k || !s.crsPowered k || c.run != .waiting || v &&& wakeBits c == 0 || s.teamStopped (k / 8) ||
      look (fun _ => false) s.teams.rebuilding (k / 8) then .next s
  else
    let t := k / 8
    let r := if bitOf v 0 then s.wqTake t c.owner else (s, none)
    let s := match r.2 with
      | some e => r.1.putEntry k (c.waitRd + 1) e
      | none => r.1
    let ring := s.fget (CRS_DOORBELL_ring t)
    let s := if bitOf v 4 then s.fset (CRS_DOORBELL_ring t) (ring - 2 ^ (k % 8)) else s
    let s := s.setCrs k { c with
      run := .running, target := none, cip := c.cip && !bitOf v 3, trig := c.trig && !bitOf v 5, taken := b2n r.2.isSome }
    .next (s.crsWriteback k c.waitRd (word v) 2)

/-- DOORBELL_RING (R286, R298): bits written 1 set DOOR; owner 0 and the owner bound to PF0 may set any, a Courser's owner
its own. -/
def execDoorbellRing (r : Requester) (t : Nat) (v : Word) (s : State) : Host.Outcome State Fault Refusal :=
  if 16 ≤ t then .next s
  else if !teamPresent s.variant t then .next s.absentWrite
  else
    let mine := fun c => s.privileged r || s.ownerOf r == some (s.crs (8 * t + c)).owner
    let take := (List.range 8).filter fun c => bitOf v.toNat c && mine c
    let refused := (List.range 8).any fun c => bitOf v.toNat c && !mine c
    let s := if refused then s.rejectWrite r 0 (CRS_DOORBELL t / 4) else s
    .next (take.foldl (fun (u : State) c => u.fset ⟨CRS_DOORBELL t, c, c⟩ 1) s)

/-- What home has under way for the Teams when owner o is torn down (R297): requests of its Coursers, its write-backs and their
acknowledgements go, its lines on their way become the key exception, and data of its slots on their way home count for nothing. -/
def State.homeLose (s : State) (o : Nat) : State :=
  let its := fun slot => s.slotOwner slot == o
  let req := fun (q : SigReq) => fromTeam q.kind && q.owner == o
  let ended := fun slot => match s.trans slot with | some x => req x.req | none => false
  { s with sig := { s.sig with
      reqs := s.sig.reqs.filter fun q => !req q,
      trans := mapVals noTrans (fun _ x => x.filter fun y => !req y.req) s.sig.trans,
      snoops := s.sig.snoops.filter fun x => !ended x.slot,
      answers := (s.sig.answers.filter fun a => !ended a.slot).map fun a =>
        if its a.slot then { a with data := none, absent := true, keeps := false } else a,
      putAcks := s.sig.putAcks.filter fun p => !its p.2,
      fills := s.sig.fills.map fun f => if its f.line.slot && f.cause == 0 then { f with cause := 7 } else f,
      directory := mapVals noHolders (fun slot l => if its slot then [] else l) s.sig.directory } }

/-- Teardown of owner o at the Teams (R297, R411 step 1): its Coursers halt, its lines and eviction-buffer entries go
without write-back, and home acknowledges nothing further for it. -/
def State.teamsLose (s : State) (o : Nat) : State :=
  let s := (List.range 128).foldl (fun (u : State) k =>
    let c := u.crs k
    if c.named && c.owner == o then
      let u := if c.run == .halted then u else u.crsExceptFree k 10
      u.setCrs k { u.crs k with gone := true }
    else u) s
  State.homeLose { s with
    teams := { s.teams with
      caches := mapVals noLines (fun _ l => l.filter fun x => x.owner != o) s.teams.caches,
      evict := mapVals noLines (fun _ l => l.filter fun x => x.owner != o) s.teams.evict } } o

end Sys2Proof.Machine
end

