-- ==== Sys2Proof/Machine/Flags.lean ====
section
/-!
DEFINITION. The bits of registers by their access codes (R15): what a write leaves of them, and the half bits of the
counters that a read clears (R178).
-/

namespace Sys2Proof.Machine

/-- The word that a write of `v` leaves: RW fields take it, RWC fields only from the image load, W1C bits clear and W1S bits
set. -/
def rowAfter (row : RegRow) (img : Bool) (old v : Word) : Word :=
  let m := word (row.rw ||| (if img then row.rwc else 0))
  (((old &&& ~~~m) ||| (v &&& m)) &&& ~~~(v &&& word row.w1c)) ||| (v &&& word row.w1s)

/-- A write that does no more than change the register. [DESIGN CHOICE, log entry 137] -/
def State.plainWrite (s : State) (img : Bool) (a : Nat) (v : Word) : State :=
  match s.rowAt a with
  | some row => s.setReg a (rowAfter row img (s.reg a) v)
  | none => s

/-- The half bit of counter i of port n. -/
def emacHalf (n i : Nat) : Fld :=
  if i < 32 then ⟨EMAC_CNT_HALF_LO n, i, i⟩ else ⟨EMAC_CNT_HALF_HI n, i - 32, i - 32⟩

/-- Arrays of counters with half bits: first address, counters of a unit, units and their stride. -/
def halfArrays : List (Nat × Nat × Nat × Nat) :=
  [(EMAC_CNT 0 0, 64, 16, 0x1000), (FWD_CNT 0 0, 32, 2, 0x10000), (SWC_CNT 0, 16, 1, 0x10000), (STM_CNT 0, 16, 1, 0x10000),
    (CRS_CNT 0 0, 16, 16, 0x1000), (SIG_CNT 0, 8, 1, 0x10000), (SIG_GW_CNT 0, 16, 1, 0x10000), (TMB_CNT 0, 12, 1, 0x10000),
    (CIP_CNT 0, 19, 1, 0x10000)]

/-- The half bit of counter i of unit u in an array. -/
def halfField (base u i : Nat) : Fld :=
  if base = EMAC_CNT 0 0 then emacHalf u i
  else if base = FWD_CNT 0 0 then ⟨FWD_CNT_HALF u, i, i⟩
  else if base = SWC_CNT 0 then ⟨SWC_CNT_HALF, i, i⟩
  else if base = STM_CNT 0 then ⟨STM_CNT_HALF, i, i⟩
  else if base = CRS_CNT 0 0 then ⟨CRS_CNT_HALF u, i, i⟩
  else if base = SIG_CNT 0 then ⟨SIG_CNT_HALF, i, i⟩
  else if base = SIG_GW_CNT 0 then ⟨SIG_GW_CNT_HALF, i, i⟩
  else if base = TMB_CNT 0 then ⟨TMB_CNT_HALF, i, i⟩
  else ⟨CIP_CNT_HALF, i, i⟩

/-- The half bit of the counter at an address. -/
def halfOf (a : Nat) : Option Fld :=
  (halfArrays.find? fun e =>
    decide (e.1 ≤ a) && decide ((a - e.1) / e.2.2.2 < e.2.2.1) && decide ((a - e.1) % e.2.2.2 < 4 * e.2.1)).map fun e =>
      halfField e.1 ((a - e.1) / e.2.2.2) ((a - e.1) % e.2.2.2 / 4)

/-- A counter is cleared, with its half bit. -/
def State.counterClear (s : State) (a : Nat) : State :=
  let s := s.setReg a 0
  match halfOf a with
  | some f => s.fset f 0
  | none => s

end Sys2Proof.Machine
end

