-- ==== Sys2Proof/Machine/Switch.lean ====
section
/-!
DEFINITION. The switch core (R223 to R247): admission into the packet buffer, the virtual output queues, the egress
stores, and the scheduler with its matchings, modes and parity window.
-/

namespace Sys2Proof.Machine

/-- A switch-core counter counts n (R244). -/
def State.swcCntN (s : State) (i n : Nat) : State := s.countHalf (SWC_CNT i) ⟨SWC_CNT_HALF, i, i⟩ 969 n
def State.swcCnt (s : State) (i : Nat) : State := s.swcCntN i 1

/-- The length of R223: destination address to FCS, or lane header and data. -/
def Frame.len (f : Frame) : Nat := if f.lane then f.bytes.length else f.bytes.length + 4

/-- Bytes of the packet buffer that a frame of length `len` fills: of a mirror copy the bytes that it keeps, without FCS or
header (R209, R223, R242). -/
def Frame.held (f : Frame) (len : Nat) : Nat :=
  match f.keep with
  | some k => min k (if f.lane then len else len - 4)
  | none => len

/-- Cells that a frame occupies (R223); a cut-through frame reserves those of its ingress port's max_len (R237). -/
def State.cellsOf (s : State) (f : Frame) : Nat := (f.held (if f.cut then s.fget (EMAC_CFG_max_len f.src) else f.len) + 63) / 64

/-! ### Regions (R236, R240) -/

/-- General shared cells of the part (R240). -/
def poolTotal : Variant → Nat
  | .kz4860 => 114688
  | .kz4840 => 139264
  | .kz4820 => 151552

def State.poolFree (s : State) : Nat := poolTotal s.variant - s.poolUsed

def noStored (_ : Nat) : Option Stored := none
def State.storedAt (s : State) (id : Nat) : Option Stored := look noStored s.stored id
def State.setStored (s : State) (id : Nat) (v : Option Stored) : State := { s with stored := put noStored s.stored id v }

def noIds (_ : Nat) : List Nat := []
def voqKey (p o c : Nat) : Nat := 256 * p + 8 * o + c
def State.voq (s : State) (k : Nat) : List Nat := look noIds s.voqs k
def State.setVoq (s : State) (k : Nat) (l : List Nat) : State := { s with voqs := put noIds s.voqs k l }
def State.voqHeld (s : State) (k : Nat) : Nat := look (fun _ => 0) s.voqShared k
def State.setVoqHeld (s : State) (k n : Nat) : State := { s with voqShared := put (fun _ => 0) s.voqShared k n }

/-- A frame dropped, or an output removed, at admission from input p in class c (R237). -/
def State.admitDrop (s : State) (p c : Nat) : State := (s.countSat (SWC_IN_DROP (8 * p + c))).raise (992 + p)

/-- SHARED_LOW and LANE_RESERVE follow the free cells (R245). -/
def State.poolEvents (s : State) : State :=
  let warn := s.fget SWC_POOL_WARN_warn
  let s :=
    if s.poolFree < warn ∧ !s.sharedLow then ({ s with sharedLow := true }).raise 964
    else if warn + 1024 < s.poolFree then { s with sharedLow := false } else s
  let lane := s.fget SWC_LANE_FREE_free
  if lane < 4096 ∧ !s.laneLow then ({ s with laneLow := true }).raise 965
  else if 8192 < lane then { s with laneLow := false } else s

/-- Cells taken from the three regions (R237). -/
def State.takeCells (s : State) (port g r sh : Nat) : State :=
  let s := s.fset (SWC_GUAR_USED_used port) (s.fget (SWC_GUAR_USED_used port) + g)
  let s := s.fset SWC_LANE_FREE_free (s.fget SWC_LANE_FREE_free - r)
  let s := s.fset SWC_LANE_PEAK_peak (max (s.fget SWC_LANE_PEAK_peak) (16384 - s.fget SWC_LANE_FREE_free))
  { s with poolUsed := s.poolUsed + sh }.poolEvents

/-- Cells returned to the regions they were taken from (R239). -/
def State.giveCells (s : State) (port g r sh : Nat) : State :=
  let s := s.fset (SWC_GUAR_USED_used port) (s.fget (SWC_GUAR_USED_used port) - g)
  let s := s.fset SWC_LANE_FREE_free (s.fget SWC_LANE_FREE_free + r)
  { s with poolUsed := s.poolUsed - sh }.poolEvents

/-- The fabric outputs of a set of logical ports, each with its ports, lowest first (R28, R225). -/
def byFabric (outs : List Nat) : List (Nat × List Nat) :=
  (List.range 32).filterMap fun o =>
    match outs.filter fun q => fabricOf q == o with
    | [] => none
    | l => some (o, l)

/-- α(c) × F < q, with α(c) = 2^(k − 6) for the code k of SWC_ALPHA (R237). -/
def State.overAlpha (s : State) (c q : Nat) : Bool :=
  decide (2 ^ (getField (s.reg SWC_ALPHA) (4 * c + 3) (4 * c)) * s.poolFree < q * 64)

/-- A frame is stored and linked into the VOQs of its fabric outputs (R225, R237). -/
def State.storeFrame (s : State) (f : Frame) (p c n g r sh : Nat) (outs : List (Nat × List Nat)) : State :=
  let id := s.storedNext
  let s := ({ s with storedNext := id + 1 }).setStored id (some
    { frame := f, input := p, cls := c, outs := outs, cells := n, guar := g, lane := r, shared := sh,
      epoch := (s.owner f.owner).keyDraw, arriving := f.cut, guarOf := p })
  outs.foldl (fun t o =>
    let k := voqKey p o.1 c
    (t.setVoq k (t.voq k ++ [id])).setVoqHeld k (t.voqHeld k + sh)) s

/-- Fabric port f is present and enabled by the Fabric Plan (R45, R246). -/
def State.fportOn (s : State) (f : Nat) : Bool := bitOf (s.reg SWC_PORT_STATE).toNat f

/-- Admission of a frame from fabric input p in class c for a set of logical outputs (R237). An output on a port that the
Fabric Plan disables is removed. [DEDUCED, log entry 66] -/
def State.takeIn (s : State) (f : Frame) (p c : Nat) (logical : List Nat) : State :=
  let s := s.swcCnt 0
  if !(s.owner f.owner).keyValid then (((s.swcCnt 6).raise 967).admitDrop p c)
  else
    let n := s.cellsOf f
    let named := byFabric logical
    let outs := named.filter fun o => s.fportOn o.1
    let s := Nat.repeat (fun t => t.admitDrop p c) (named.length - outs.length) s
    let g := min n (4096 - s.fget (SWC_GUAR_USED_used p))
    let r := if p = 12 ∨ p = 13 then min (n - g) (s.fget SWC_LANE_FREE_free) else 0
    let sh := n - g - r
    if outs.isEmpty then s
    else if 0 < sh ∧ s.poolFree < sh then (s.swcCnt 5).admitDrop p c
    else
      let kept := outs.filter fun o => sh == 0 || !s.overAlpha c (s.voqHeld (voqKey p o.1 c) + sh)
      let s := Nat.repeat (fun t => (t.swcCnt 4).admitDrop p c) (outs.length - kept.length) s
      if kept.isEmpty then s
      else
        let s := (s.takeCells p g r sh).swcCntN 1 n
        let s := if r = 0 then s else s.swcCnt 13
        let s := if sh = 0 then s else s.swcCnt 14
        s.storeFrame f p c n g r sh kept

/-- A mirror copy is offered for admission against f26's guaranteed cells, and queued in VOQ (p, f26, 0) (R242, R244). -/
def State.admitMirror (s : State) (f : Frame) (p : Nat) : State × Bool :=
  let s := s.swcCnt 0
  let m := s.cellsOf f
  if 4096 < s.fget (SWC_GUAR_USED_used 26) + m then ((s.swcCnt 7).raise 966, false)
  else
    let s := (s.takeCells 26 m 0 0).swcCntN 1 m
    let id := s.storedNext
    let s := ({ s with storedNext := id + 1 }).setStored id (some
      { frame := f, input := p, cls := 0, outs := [(26, [84])], cells := m, guar := m, epoch := (s.owner f.owner).keyDraw,
        arriving := f.cut, guarOf := 26 })
    let k := voqKey p 26 0
    (s.setVoq k (s.voq k ++ [id]), true)

/-! ### Egress stores (R227) -/

/-- The egress-store queue of a logical port and class: one for each lane, else one for each class. -/
def egressKey (port c : Nat) : Nat := if 16 ≤ port ∧ port < 64 then 8 * port else 8 * port + c

def storeReserve (f : Nat) : Nat := if f = 12 ∨ f = 13 then 4 else 8
def storeShared (f : Nat) : Nat :=
  if f = 12 ∨ f = 13 then 160 else if (8 ≤ f ∧ f < 12) ∨ (14 ≤ f ∧ f < 22) then 128 else 192

/-- Cells that an egress-store queue holds. -/
def State.queueCells (s : State) (l : List Frame) : Nat := l.foldl (fun v f => v + s.cellsOf f) 0

/-- Shared cells of fabric output f's store in use. -/
def State.storeUse (s : State) (f : Nat) : Nat :=
  s.egress.foldl (fun v e =>
    if fabricOf (e.1 / 8) = f then v + (s.queueCells e.2 - storeReserve f) else v) 0

/-- Shared cells that a frame of n cells takes in a queue, unless the queue would hold more than 144 (R227). -/
def State.queueTakes (s : State) (f key n : Nat) : Option Nat :=
  let have_ := s.queueCells (s.egressQ key)
  let after := have_ + n - storeReserve f
  if 144 < after then none else some (after - (have_ - storeReserve f))

/-- The store of fabric output f has room for a frame of n cells in the queues of its logical ports. -/
def State.hasRoom (s : State) (f n c : Nat) (ports : List Nat) : Bool :=
  let need := ports.foldl (fun (v : Option Nat) q =>
    v.bind fun x => (s.queueTakes f (egressKey q c) n).map (· + x)) (some 0)
  match need with
  | some x => decide (x + s.storeUse f ≤ storeShared f)
  | none => false

/-! ### Cut-through (R166, R366) -/

/-- A frame that still arrives on port `src` may leave by port q before its end. -/
def State.cutMay (s : State) (f : Frame) (q : Nat) : Bool :=
  decide (q < 16) && decide (s.portSpeed q ≤ s.portSpeed f.src) && (!f.secured || s.isSet (EMAC_CFG_cut_through q))

/-! ### Matchings (R228 to R232) -/

def noPair (_ : Nat) : Option Held := none
def State.pair (s : State) (o : Nat) : Option Held := look noPair s.pairs o
def State.setPair (s : State) (o : Nat) (h : Option Held) : State := { s with pairs := put noPair s.pairs o h }
def State.inputBusy (s : State) (p : Nat) : Bool :=
  s.pairs.any fun e => match e.2 with | some h => h.input == p | none => false

/-- The head of a VOQ may go (R228). -/
def State.headMay (s : State) (k : Nat) : Bool :=
  let o := k % 256 / 8
  match s.voq k with
  | [] => false
  | id :: _ =>
    match s.storedAt id with
    | none => false
    | some st =>
      let ports := ((st.outs.find? fun e => e.1 == o).map (·.2)).getD []
      if o = 26 then !st.arriving
      else (!st.arriving || ports.all fun q => s.cutMay st.frame q) && s.hasRoom o st.cells st.cls ports

/-- Requests of free inputs for free outputs: (input, output, class), the highest class of each pair (R229). -/
def State.requests (s : State) : List (Nat × Nat × Nat) :=
  let ready := (s.voqs.filter fun e =>
    !e.2.isEmpty && s.fportOn (e.1 / 256) && (s.pair (e.1 % 256 / 8)).isNone && !s.inputBusy (e.1 / 256) && s.headMay e.1).map fun e =>
      (e.1 / 256, e.1 % 256 / 8, e.1 % 8)
  ready.filter fun e => !ready.any fun q => q.1 == e.1 && q.2.1 == e.2.1 && decide (e.2.2 < q.2.2)

/-- The candidate at or first after a pointer, counting round 32 ports. -/
def firstFrom (ptr : Nat) (l : List Nat) : Option Nat :=
  (List.range 32).findSome? fun i => l.find? fun x => x == (ptr + i) % 32

/-- The highest class among candidates, and those of that class. -/
def topClass (l : List (Nat × Nat)) : Nat × List Nat :=
  let c := l.foldl (fun m e => max m e.2) 0
  (c, (l.filter fun e => e.2 == c).map (·.1))

/-- One iteration: the accepted (input, output, class) of the requests, ties broken from the pointers given.
[DEDUCED, log entry 65] -/
def matching (reqs : List (Nat × Nat × Nat)) (grantFrom acceptFrom : Nat → Nat) : List (Nat × Nat × Nat) :=
  let grants := (List.range 32).filterMap fun o =>
    let t := topClass ((reqs.filter fun e => e.2.1 == o).map fun e => (e.1, e.2.2))
    (firstFrom (grantFrom o) t.2).map fun p => (p, o, t.1)
  (List.range 32).filterMap fun p =>
    let t := topClass ((grants.filter fun e => e.1 == p).map fun e => (e.2.1, e.2.2))
    (firstFrom (acceptFrom p) t.2).map fun o => (p, o, t.1)

/-- [DEDUCED, log entry 65] -/
def State.iterative (s : State) : Bool := s.isSet SWC_SCHED_STATUS_mode

/-- The matching of this cell time or times (R231, R232). -/
def State.newPairs (s : State) : List (Nat × Nat × Nat) :=
  let reqs := s.requests
  if s.iterative then
    let tie := fun (_ : Nat) => s.round % 32
    (List.range (max 1 (s.fget SWC_SCHED_CTRL_iter_count))).foldl (fun acc _ =>
      let left := reqs.filter fun e => !acc.any fun q => q.1 == e.1 || q.2.1 == e.2.1
      acc ++ matching left tie tie) []
  else matching reqs (fun o => look (fun _ => 0) s.grantPtr o) (fun p => look (fun _ => 0) s.acceptPtr p)

/-- A stored frame's output has read it: its share of the VOQ goes, and its cells after the last output (R225, R239). -/
def State.freeOutput (s : State) (id o : Nat) : State :=
  match s.storedAt id with
  | none => s
  | some st =>
    let k := voqKey st.input o st.cls
    let s := s.setVoqHeld k (s.voqHeld k - st.shared)
    let rest := st.outs.filter fun e => e.1 != o
    if rest.isEmpty then (s.setStored id none).giveCells st.guarOf st.guar st.lane st.shared
    else s.setStored id (some { st with outs := rest })

/-- A copy is written to its egress store and counted (R244); a link-down Ethernet port discards it (R175), and a frame for
lanes is discarded at an output that is no lane (R308). [DEDUCED, log entry 161] -/
def State.toEgress (s : State) (id : Nat) (f : Frame) (c q : Nat) : State :=
  if f.lane && !(decide (16 ≤ q) && decide (q < 64)) then s.fmtDiscard
  else if q < 16 ∧ !s.isSet (EMAC_STATUS_link_up q) then
    s.countHalf (EMAC_CNT q 37) ⟨EMAC_CNT_HALF_HI q, 5, 5⟩ (579 + 16 * q) 1
  else
    let k := egressKey q c
    let s := if q < 16 then s.creditUpdate q else s
    (s.setEgressQ k (s.egressQ k ++ [{ f with out := q, cls := c, sid := some id }])).swcCnt 2

/-- What the mirror sink delivers: the header, which holds the frame's length, and the first bytes that the session keeps
(R209, R210). -/
def mirrorBytes (f : Frame) : List Byte := overlay f.head 4 (beBytes 2 f.len) ++ f.bytes.take (f.keep.getD f.bytes.length)

/-- The mirror sink takes a copy, or drops it when its 32 places are taken (R209). -/
def State.toSink (s : State) (f : Frame) : State :=
  match f.mirror with
  | none => s
  | some n =>
    if s.mirrorSink.length < 32 then
      { s with mirrorSink := s.mirrorSink ++ [{ session := n, dest := f.out, owner := f.owner, bytes := mirrorBytes f }] }
    else
      let a := 0x10130000 + 32 * n
      let s := s.setAperWord (a + 24) (word (min ((s.aperWord (a + 24)).toNat + 1) 0xFFFFFFFF))
      let p := f.recirc.getD 0
      (s.countHalf (FWD_CNT p 26) ⟨FWD_CNT_HALF p, 26, 26⟩ (1036 + 32 * p) 1).raise (1032 + 32 * p)

/-- The logical ports of fabric output o among those that a stored frame still has to reach. -/
def Stored.portsAt (st : Stored) (o : Nat) : List Nat := ((st.outs.find? fun e => e.1 == o).map (·.2)).getD []

/-- A matched pair takes the head frame of its VOQ. Its copies for Ethernet ports may start with the first cell (R230); every other
waits for the last, which may yet be bad (R241). A frame whose owner's key is gone is discarded before the egress store
(R411). [DEDUCED, log entry 66] -/
def State.startPair (s : State) (e : Nat × Nat × Nat) : State :=
  let k := voqKey e.1 e.2.1 e.2.2
  match s.voq k with
  | [] => s
  | id :: rest =>
    let s := s.setVoq k rest
    match s.storedAt id with
    | none => s
    | some st =>
      let w := s.owner st.frame.owner
      if !w.keyValid || w.keyDraw != st.epoch then (s.freeOutput id e.2.1).countSat (SCL_CNT 0)
      else
        let s := s.setPair e.2.1 (some { input := e.1, id := id, cls := e.2.2, left := st.cells })
        ((st.portsAt e.2.1).filter (· < 16)).foldl (fun t q => t.toEgress id st.frame st.cls q) s

/-- Whole cells of a frame that the packet buffer holds so far, short of the ICV that may end its present bytes (R230). -/
def Stored.here (st : Stored) : Nat :=
  if st.arriving then min st.cells ((st.frame.bytes.length - (if st.frame.secured then 16 else 0)) / 64) else st.cells

/-- The last cell of a stored frame has crossed to output o: the copies that waited for it are written. -/
def State.pairEnds (s : State) (o : Nat) (h : Held) : State :=
  let s := match s.storedAt h.id with
    | none => s
    | some st =>
      if o = 26 then s.toSink st.frame
      else ((st.portsAt o).filter (16 ≤ ·)).foldl (fun t q => t.toEgress h.id st.frame st.cls q) s
  (s.setPair o none).freeOutput h.id o

/-- The held pair of output o moves up to `t` cells that the packet buffer holds; with its last cell it parts (R230). -/
def State.movePair (s : State) (t o : Nat) : State :=
  match s.pair o with
  | none => s
  | some h =>
    match s.storedAt h.id with
    | none => s.setPair o none
    | some st =>
      let n := min t (st.here - (st.cells - h.left))
      let s := s.swcCntN 3 n
      if h.left ≤ n then s.pairEnds o h else s.setPair o (some { h with left := h.left - n })

/-- The pointers move past an accepted pair (R231). -/
def State.movePointers (s : State) (e : Nat × Nat × Nat) : State :=
  { s with grantPtr := put (fun _ => 0) s.grantPtr e.2.1 ((e.1 + 1) % 32)
           acceptPtr := put (fun _ => 0) s.acceptPtr e.1 ((e.2.1 + 1) % 32) }

/-- Any cause of iterative mode is active (R233). -/
def State.anyCause (s : State) : Bool :=
  s.isSet SWC_SCHED_STATUS_cause_init || s.isSet SWC_SCHED_STATUS_cause_test || s.isSet SWC_SCHED_STATUS_cause_parity

/-- The mode changes at a matching boundary (R234). -/
def State.modeStep (s : State) : State :=
  let want := b2n s.anyCause
  if s.fget SWC_SCHED_STATUS_mode = want then s else ((s.fset SWC_SCHED_STATUS_mode want).swcCnt 15).raise 961

/-- A parity error in a matching (R235): `source` and `port` as SWC_PAR_LOG has them. -/
def State.schedParity (s : State) (source port : Nat) : State :=
  let s := if s.isSet SWC_PAR_LOG_valid then s
    else s.fsets [(SWC_PAR_LOG_valid, 1), (SWC_PAR_LOG_source, source), (SWC_PAR_LOG_port, port)]
  let s := (s.swcCnt 10).raise 960
  s.fsets [(SWC_SCHED_STATUS_cause_parity, 1), (SWC_SCHED_STATUS_parity_left, 1024), (SWC_SCHED_STATUS_sweep_busy, 1)]

/-- Egress-store queue k becomes `l`. On an Ethernet port the credits are brought up to date first (R255), and a lost head ends the
Hobble hold of its class (R174). [DEDUCED, log entry 165] -/
def State.requeue (s : State) (k : Nat) (l : List Frame) (headLost : Bool) : State :=
  let n := k / 8
  if 16 ≤ n then s.setEgressQ k l
  else
    let s := (s.creditUpdate n).setEgressQ k l
    let s := if headLost then s.setEth n { s.eth n with budgetCls := (s.eth n).budgetCls.filter (· != k % 8) } else s
    s.creditUpdate n

/-- The frames that `keep` refuses leave egress-store queue k. -/
def State.takeOut (s : State) (keep : Frame → Bool) (k : Nat) : State :=
  let l := s.egressQ k
  if l.all keep then s else s.requeue k (l.filter keep) (match l.head? with | some f => !keep f | none => false)

/-- The frames that `keep` refuses leave every egress store. [DEDUCED, log entry 156] -/
def State.takeOutAll (s : State) (keep : Frame → Bool) : State := (s.egress.map (·.1)).foldl (fun t k => t.takeOut keep k) s

/-- The frames on the lines of a port, those that `hit` names as `f` makes them. -/
def onLine (hit : Frame → Bool) (f : Frame → Frame) (e : Eth) : Eth :=
  let g := fun (y : Option (Frame × Nat)) => y.map fun (z : Frame × Nat) => if hit z.1 then (f z.1, z.2) else z
  { e with tx := g e.tx, pre := g e.pre }

/-- A stored frame leaves its VOQs and pairs, and its cells return. -/
def State.dropStored (s : State) (id : Nat) : State :=
  match s.storedAt id with
  | none => s
  | some st =>
    let s := { s with
      voqs := mapVals noIds (fun _ l => l.filter (· != id)) s.voqs
      pairs := mapVals noPair (fun _ h => h.filter fun x => x.id != id) s.pairs }
    st.outs.foldl (fun (u : State) (o : Nat × List Nat) => u.freeOutput id o.1) s

/-- A stored frame is lost (R241): an Ethernet egress that has begun it ends it with the inverted FCS, and every other copy is
discarded. [DEDUCED, log entry 156] -/
def State.frameLost (s : State) (id : Nat) : State :=
  let s := s.takeOutAll fun f => f.sid != some id
  let spoil := onLine (fun f => f.sid == some id) fun (f : Frame) => { f with bad := true }
  State.dropStored { s with eths := mapVals noEth (fun _ e => spoil e) s.eths } id

/-- A cell that output o reads has an ECC error (R241). [DEDUCED, log entry 67] -/
def State.cellError (s : State) (o : Nat) (double : Bool) (cell : Nat) : State :=
  match s.pair o with
  | none => s
  | some h =>
    if !double then (s.swcCnt 8).raise 962
    else
      let s := if s.isSet SWC_ECC_LOG_valid then s else s.fsets [(SWC_ECC_LOG_valid, 1), (SWC_ECC_LOG_cell, cell)]
      ((s.swcCnt 9).raise 963).frameLost h.id

/-- A cycle in which admission or an egress write waits for keystream (R415, R417). [DEDUCED, log entry 67] -/
def State.ksStall (s : State) : State :=
  let first := s.reg (SCL_CNT 2) == 0
  let s := s.countSat (SCL_CNT 2)
  if first then s.raise 1450 else s

/-- SCHEDULER_MATCHING (R229 to R235, R241, R415): one matching, and the cell times it takes. `parity` is a parity error
found in it (source and port), `ecc` an error in a cell that an output reads (output, double, cell index), `stall` a
cycle that waits for keystream. -/
def execSchedulerMatching (parity : Option (Nat × Nat)) (ecc : Option (Nat × Bool × Nat)) (stall : Bool) (s : State) :
    Host.Outcome State Fault Refusal :=
  if !s.coreOn then .next s
  else
    let s := if stall then s.ksStall else s
    let s := s.modeStep
    let times := if s.iterative then max 1 (s.fget SWC_SCHED_CTRL_iter_count) else 1
    let left := s.fget SWC_SCHED_STATUS_parity_left
    let s := s.fset SWC_SCHED_STATUS_parity_left (if left = 0 then 0 else max 1 (left - times))
    let s := match parity with
      | some (src, port) => s.schedParity src port
      | none =>
        let new := s.newPairs
        let s := if s.iterative then { s with round := s.round + 1 }.swcCnt 11 else new.foldl State.movePointers s
        new.foldl State.startPair s
    let s := match ecc with
      | some (o, double, cell) => s.cellError o double cell
      | none => s
    .next ((List.range 32).foldl (State.movePair · times ·) s)

/-- POINTER_SWEEP_END (R233, R235): 64 cell times after its start. The sweep of a running scheduler rewrites the pointers
with values that the specification does not give. -/
def execPointerSweepEnd (s : State) : Host.Outcome State Fault Refusal :=
  if !s.isSet SWC_SCHED_STATUS_sweep_busy then .next s
  else
    let vals := s.freeBytes 64
    let s :=
      if s.isSet SWC_SCHED_STATUS_cause_init then s
      else
        (List.range 32).foldl (fun t i =>
          { t with grantPtr := put (fun _ => 0) t.grantPtr i ((byteAt vals i).toNat % 32)
                   acceptPtr := put (fun _ => 0) t.acceptPtr i ((byteAt vals (32 + i)).toNat % 32) }) (s.drew 64)
    .next (s.fsets [(SWC_SCHED_STATUS_sweep_busy, 0), (SWC_SCHED_STATUS_cause_init, 0)])

/-- PARITY_WINDOW_END (R235): parity_left reaches 0 and the parity cause ends. -/
def execParityWindowEnd (s : State) : Host.Outcome State Fault Refusal :=
  if s.isSet SWC_SCHED_STATUS_cause_parity && decide (s.fget SWC_SCHED_STATUS_parity_left ≤ 1) then
    .next (s.fsets [(SWC_SCHED_STATUS_parity_left, 0), (SWC_SCHED_STATUS_cause_parity, 0)])
  else .next s

/-- HOL_STALL (R245): the head frame of VOQ (p, o, c) has waited longer than SWC_STALL_LIMIT. -/
def execHolStall (p o c : Nat) (s : State) : Host.Outcome State Fault Refusal :=
  if s.fget SWC_STALL_LIMIT_limit = 0 ∨ 32 ≤ p ∨ 32 ≤ o ∨ 8 ≤ c then .next s
  else
    match s.voq (voqKey p o c) with
    | [] => .next s
    | id :: _ =>
      match s.storedAt id with
      | none => .next s
      | some st =>
        if st.stalled then .next s
        else .next (((s.setStored id (some { st with stalled := true })).swcCnt 12).raise 968)

/-! ### The end of a cut-through frame (R167, R237) -/

/-- A copy of the frame that arrives on port n. -/
def arrivesOn (n : Nat) (f : Frame) : Bool := f.cut && f.src == n

/-- What is left of a stored frame's cells once its true length is known: cells returned from each region. -/
def spareCells (st : Stored) (need : Nat) : Nat × Nat × Nat :=
  let spare := st.cells - need
  let sh := min spare st.shared
  let r := min (spare - sh) st.lane
  (min (spare - sh - r) st.guar, r, sh)

/-- The stored frame `id`, arriving on port n, has ended well as `f` makes it. -/
def State.storedEnds (s : State) (n : Nat) (full : Frame → Frame) (id : Nat) : State :=
  match s.storedAt id with
  | none => s
  | some st =>
    if !(st.arriving && st.frame.src == n) then s
    else
      let f := full st.frame
      let need := (f.held f.len + 63) / 64
      let c := spareCells st need
      let s := s.giveCells st.guarOf c.1 c.2.1 c.2.2
      let s := st.outs.foldl (fun (u : State) (o : Nat × List Nat) =>
        let k := voqKey st.input o.1 st.cls
        u.setVoqHeld k (u.voqHeld k - c.2.2)) s
      let s := (List.range 32).foldl (fun (u : State) o =>
        match u.pair o with
        | some h => if h.id = id then u.setPair o (some { h with left := h.left - (st.cells - need) }) else u
        | none => u) s
      s.setStored id (some { st with
        frame := f, cells := min need st.cells, guar := st.guar - c.1, lane := st.lane - c.2.1, shared := st.shared - c.2.2
        arriving := false })

/-- The frame arriving on port n ends well: `k` bytes of it have been presented and `plain` is the whole. Its copies lose what was
presented beyond its end and get the rest, and the cells it did not need return. -/
def State.cutEnds (s : State) (n k : Nat) (plain : List Byte) : State :=
  let full := fun (x : Frame) =>
    { x with bytes := x.bytes.take (x.bytes.length - (k - plain.length)) ++ plain.drop k, cut := false }
  let each := List.map fun x => if arrivesOn n x then full x else x
  let s := { s with
    egress := mapVals noFrames (fun _ l => each l) s.egress
    eths := mapVals noEth (fun _ e => onLine (arrivesOn n) full e) s.eths }
  (s.stored.map (·.1)).foldl (fun t id => t.storedEnds n full id) s

/-- The frame arriving on port n turns out bad: unstarted copies are discarded and its cells return. Copies on a line
are marked to end with an inverted FCS. -/
def State.cutFails (s : State) (n : Nat) : State :=
  let s := s.takeOutAll fun f => !arrivesOn n f
  let s := { s with
    eths := mapVals noEth (fun _ e => onLine (arrivesOn n) (fun (x : Frame) => { x with bad := true, cut := false }) e) s.eths }
  (s.stored.map (·.1)).foldl (fun (t : State) id =>
    match t.storedAt id with
    | some st => if arrivesOn n st.frame then t.dropStored id else t
    | none => t) s

end Sys2Proof.Machine
end

