-- ==== Sys2Proof/Machine/Traffic.lean ====
section
/-!
DEFINITION. Stream filters, stream gates, Martingale policers and Schooling (R248 to R253, R260 to R264), and the
scrubber of the traffic-control tables (R266).
-/

namespace Sys2Proof.Machine

/-- A traffic-control counter counts (R267). -/
def State.stmCnt (s : State) (i : Nat) : State := s.countHalf (STM_CNT i) ⟨STM_CNT_HALF, i, i⟩ 1432 1

/-! ### Martingale policers (R251) -/

def State.bucket (s : State) (i : Nat) : Bucket := look (fun _ => {}) s.buckets i
def State.setBucket (s : State) (i : Nat) (b : Bucket) : State := { s with buckets := put (fun _ => {}) s.buckets i b }

/-- A committed or excess burst of n × 64 bytes, in the units of `Bucket`. -/
def burstUnits (n : Nat) : Nat := n * 64 * 125000

/-- The colours of a metered frame. -/
inductive Colour where
  | green
  | yellow
  | red
deriving DecidableEq, Repr

/-- Policer i is usable: valid, unlocked and of good parity; a bad one is found. -/
def State.policerUsable (s : State) (i : Nat) : State × Bool :=
  let c := s.check .policer i
  let a := Tab.policer.at i
  (c.1, c.2 && c.1.eIs a POL_valid && !c.1.eIs a POL_lock)

/-- A usable policer meters a frame of `len` bytes that may enter as yellow (R251). [DEDUCED, log entry 69] -/
def State.meter (s : State) (i len : Nat) (dei : Bool) : State × Colour :=
  let a := Tab.policer.at i
  let b := s.bucket i
  let cbs := burstUnits (s.eget a POL_cbs)
  let ebs := burstUnits (s.eget a POL_ebs)
  let dt := s.uptime - b.last
  let tc0 := if b.fresh then cbs else b.tc + s.eget a POL_cir * dt
  let spill := tc0 - cbs
  let tc := min cbs tc0
  let te := if b.fresh then ebs
    else min ebs (b.te + s.eget a POL_eir * dt + (if s.eIs a POL_coupling then spill else 0))
  let need := len * 125000
  let inYellow := s.eIs a POL_colour_aware && dei
  let kept := fun (x y : Nat) => s.setBucket i { fresh := false, tc := x, te := y, last := s.uptime }
  if s.eIs a POL_mark_red then (kept tc te, .red)
  else if !inYellow && decide (need ≤ tc) then (kept (tc - need) te, .green)
  else if need ≤ te then (kept tc (te - need), .yellow)
  else
    let t := kept tc te
    if t.eIs a POL_mark_red_en then ((t.eset a POL_mark_red 1).raise 1424, .red) else (t, .red)

/-- The overflow policer, entry 8,191; unusable, it gives red (R252). -/
def State.meterOverflow (s : State) (len : Nat) (dei : Bool) : State × Colour :=
  let u := s.policerUsable 8191
  if u.2 then u.1.meter 8191 len dei else (u.1, .red)

/-! ### Stream gates (R253) -/

/-- Nanoseconds of a stream gate's cycle. -/
def State.sgateCycle (s : State) (g : Nat) : Nat :=
  (List.range (s.fget (STM_SGATE_CTRL_count_m1 g) + 1)).foldl (fun v k => v + s.fget (STM_SGATE_ENT_interval g k)) 0

/-- The first instant base + N × cycle that is not earlier than `now`. [DEDUCED, log entry 70] -/
def firstCycle (base cycle now : Nat) : Nat :=
  if now ≤ base ∨ cycle = 0 then base else base + (now - base + cycle - 1) / cycle * cycle

/-- A stream gate's enable becomes set: its list starts at its first cycle. -/
def State.sgateEnable (s : State) (g : Nat) : State :=
  let base := (s.reg (STM_SGATE_BASE_LO g)).toNat + (s.reg (STM_SGATE_BASE_HI g)).toNat * 2 ^ 32
  let start := firstCycle base (s.sgateCycle g) (s.timeNs (s.fget (STM_SGATE_CTRL_domain g)))
  { s with sgateStart := put (fun _ => 0) s.sgateStart g start
           sgateEntry := put (fun _ => 0) s.sgateEntry g 0 }

/-- The entry in progress at this time, plus 1; 0 before the first cycle. -/
def State.sgateNow (s : State) (g : Nat) : Nat :=
  let now := s.timeNs (s.fget (STM_SGATE_CTRL_domain g))
  let start := look (fun _ => 0) s.sgateStart g
  let cycle := s.sgateCycle g
  if now < start ∨ cycle = 0 then 0
  else
    let l := (List.range (s.fget (STM_SGATE_CTRL_count_m1 g) + 1)).map fun k => (k, s.fget (STM_SGATE_ENT_interval g k))
    match entryAt l 0 ((now - start) % cycle) with
    | some e => e.1 + 1
    | none => 0

/-- STREAM_GATE_ENTRY (R253): an entry's interval ends, and the entry of this time applies. -/
def execStreamGateEntry (g : Nat) (s : State) : Host.Outcome State Fault Refusal :=
  if g = 0 ∨ 32 ≤ g ∨ !s.isSet (STM_SGATE_CTRL_enable g) then .next s
  else .next { s with sgateEntry := put (fun _ => 0) s.sgateEntry g (s.sgateNow g) }

/-- Gate g is open. Before an enabled gate's first cycle the specification gives no state: a free value.
[DEDUCED, log entry 70] -/
def State.sgateOpen (s : State) (g : Nat) : State × Bool :=
  if g = 0 ∨ !s.isSet (STM_SGATE_CTRL_enable g) then (s, true)
  else if !s.inside (s.fget (STM_SGATE_CTRL_domain g)) then (s, s.isSet (STM_SGATE_CTRL_fb_open g))
  else
    match look (fun _ => 0) s.sgateEntry g with
    | 0 => (s.drew 1, bitOf s.free 0)
    | k + 1 => (s, s.isSet (STM_SGATE_ENT_open g k))

/-! ### Schooling (R260 to R264) -/

def State.schooling (s : State) (i : Nat) : School := look (fun _ => {}) s.schools i
def State.setSchool (s : State) (i : Nat) (h : School) : State := { s with schools := put (fun _ => {}) s.schools i h }
def schoolAt (i : Nat) : Nat := Tab.school.at i

/-- An exact quotient, or its floor or the number after it, as a free value says: the specification does not state how
the device rounds. [DEDUCED, log entry 71] -/
def State.roundDiv (s : State) (a b : Nat) : State × Nat :=
  if a % b = 0 then (s, a / b) else (s.drew 1, a / b + s.free % 2)

/-- A learning record sees a frame (R262). -/
def State.schoolLearn (s : State) (i : Nat) : State :=
  let h := s.schooling i
  let a := schoolAt i
  match h.last with
  | none => s.setSchool i { h with count := h.count + 1, last := some s.uptime }
  | some t =>
    let q := s.roundDiv (s.uptime - t) 4000
    let v := min q.2 0xFFFF
    let v := if h.measured then min v (s.eget a SCH_min_ivl) else v
    (q.1.eset a SCH_min_ivl v).setSchool i { h with count := h.count + 1, last := some s.uptime, measured := true }

/-- An enforcing record's frame deviates (R264); `h` counts the frame. -/
def State.deviates (s : State) (i : Nat) (h : School) (prev : Option Nat) : Bool :=
  let a := schoolAt i
  let m := 9 + s.eget a SCH_margin
  decide (s.eget a SCH_rate * m < h.rate * 8) || decide (s.eget a SCH_burst * m < h.count * 8) ||
    (match prev with
     | some t => decide ((s.uptime - t) * m < s.eget a SCH_min_ivl * 4000 * 8)
     | none => false)

/-- One frame's worth of throttle tokens, and the tokens that a full bucket holds. -/
def tokenUnit : Nat := 32000000000
def State.tokenCap (s : State) (i : Nat) : Nat :=
  let a := schoolAt i
  max 1 ((s.eget a SCH_burst * (9 + s.eget a SCH_margin) + 7) / 8) * tokenUnit

/-- A throttle bucket gives one token, if it has one (R264). -/
def State.takeToken (s : State) (i : Nat) : State × Bool :=
  let a := schoolAt i
  let h := s.schooling i
  let add := s.eget a SCH_rate * (9 + s.eget a SCH_margin) * (s.uptime - h.tokTick)
  let level := min (s.tokenCap i) (h.tokens + add)
  if tokenUnit ≤ level then (s.setSchool i { h with tokens := level - tokenUnit, tokTick := s.uptime }, true)
  else (s.setSchool i { h with tokens := level, tokTick := s.uptime }, false)

/-- Discarded by Schooling (R264). -/
def State.schoolDrop (s : State) : State × Bool := (s.stmCnt 10, false)

/-- An enforcing record judges a frame (R264); the flag says that the frame passes. -/
def State.schoolJudge (s : State) (i : Nat) : State × Bool :=
  let a := schoolAt i
  let h := s.schooling i
  let h' := { h with count := h.count + 1, last := some s.uptime }
  let dev := s.deviates i h' h.last
  let s := s.setSchool i h'
  let was := s.eIs a SCH_deviant
  let action := s.eget a SCH_action
  let s :=
    if dev then
      (s.eset a SCH_deviations (min 0xFFFF (s.eget a SCH_deviations + 1))).stmCnt 9
    else s
  let first := dev && !was
  let s :=
    if first then
      let s := s.eset a SCH_deviant 1
      let s := if s.isSet STM_SCHOOL_LOG_valid then s
        else s.fsets [(STM_SCHOOL_LOG_valid, 1), (STM_SCHOOL_LOG_record, i)]
      let s := if action = 0 then s else s.raise 1429
      let s := if action = 2 then s.setSchool i { s.schooling i with tokens := s.tokenCap i, tokTick := s.uptime } else s
      if action = 3 then s.eset a SCH_blocked 1 else s
    else s
  if action = 3 ∧ s.eIs a SCH_blocked then s.schoolDrop
  else if action = 2 ∧ s.eIs a SCH_deviant then
    let t := s.takeToken i
    if t.2 then (t.1, true) else t.1.schoolDrop
  else (s, true)

/-- A frame meets record i (R261, R266): locked, off or bad records let it pass. -/
def State.schoolFrame (s : State) (i : Nat) : State × Bool :=
  let c := s.check .school i
  let s := c.1
  let a := schoolAt i
  if !c.2 || s.eIs a SCH_lock then (s, true)
  else
    match s.eget a SCH_state with
    | 1 => (if s.isSet STM_SCHOOL_CTRL_learning then s.schoolLearn i else s, true)
    | 2 => s.schoolJudge i
    | _ => (s, true)

/-- The 5 key bytes of a lane frame (R260), under the CRC-32 of R195. -/
def laneKeyCrc (lane : Nat) (ide : Bool) (id : Nat) : Nat :=
  crc32 (leBytes 1 (lane % 64) ++ leBytes 1 (b2n ide * 128 + id / 2 ^ 24 % 32) ++ beBytes 3 (id % 2 ^ 24))

/-- The first way of a lane record's bucket (R260). -/
def schoolBucket (lane : Nat) (ide : Bool) (id : Nat) : Nat := 8192 + 4 * (laneKeyCrc lane ide id % 2048)

/-- Record i is the lane record of a key, and is not locked. -/
def State.schoolIs (s : State) (i lane : Nat) (ide : Bool) (id : Nat) : Bool :=
  let a := schoolAt i
  s.eIs a SCH_kind && !s.eIs a SCH_lock && s.eget a SCH_lane == lane && s.eIs a SCH_ide == ide && s.eget a SCH_id == id &&
    !s.isBad a

/-- Bad ways of a bucket that a lookup meets are found (R266). -/
def State.checkWays (s : State) (t : Tab) (first : Nat) : State :=
  (List.range 4).foldl (fun u w => (u.check t (first + w)).1) s

/-- An aggregator copy of a CAN or LIN frame is checked (R260, R262, R264); the flag says that it goes on. -/
def State.schoolLane (s : State) (n : Nat) (f : LaneFrame) : State × Bool :=
  let lanes := (s.reg STM_SCHOOL_LANES_LO).toNat + (s.reg STM_SCHOOL_LANES_HI).toNat % 65536 * 2 ^ 32
  let kind := s.fget (LANE_PHY_CFG_kind n)
  if !bitOf lanes n || kind == 0 || kind == 4 then (s, true)
  else
    let b := schoolBucket n f.ide f.id
    let s := s.checkWays .school b
    match (List.range 4).find? fun w => s.schoolIs (b + w) n f.ide f.id with
    | some w => s.schoolFrame (b + w)
    | none =>
      if s.isSet STM_SCHOOL_CTRL_learning then
        match (List.range 4).find? fun w => memRead s.aper (schoolAt (b + w)) 16 == List.replicate 16 0 with
        | none => (s.stmCnt 12, true)
        | some w =>
          let i := b + w
          let a := schoolAt i
          let o := s.portOwnerOf (16 + n)
          let s := [(SCH_state, 1), (SCH_action, s.fget STM_SCHOOL_CTRL_default_action), (SCH_kind, 1),
            (SCH_margin, s.fget STM_SCHOOL_CTRL_default_margin), (SCH_lane, n), (SCH_owner, o), (SCH_ide, b2n f.ide),
            (SCH_id, f.id)].foldl (fun t e => t.eset a e.1 e.2) s
          let s := { s with tags := put (fun _ => 0) s.tags a o }
          ((s.setSchool i {}).schoolLearn i, true)
      else
        let s := s.stmCnt 11
        match s.fget STM_SCHOOL_CTRL_unknown_action with
        | 0 => (s, true)
        | 1 => (if s.unknownRaised then s else ({ s with unknownRaised := true }).raise 1429, true)
        | _ => (s, false)

/-- The period starts or restarts (R262). -/
def State.schoolStart (s : State) : State :=
  let s := s.fsets [(STM_SCHOOL_CTRL_learning, 1), (STM_SCHOOL_ELAPSED_seconds, 0)]
  let s := { s with schoolWindows := 0 }
  (s.usedEntries .school).foldl (fun t i =>
    let a := schoolAt i
    if t.eget a SCH_state = 1 then
      ((t.eset a SCH_rate 0).eset a SCH_burst 0 |>.eset a SCH_min_ivl 0).setSchool i {}
    else t) s

/-- A write of STM_SCHOOL_CTRL: its RW fields, and start. -/
def State.schoolCtrlWrite (s : State) (v : Word) : State :=
  let s := s.fsets [(STM_SCHOOL_CTRL_default_margin, getField v 12 10), (STM_SCHOOL_CTRL_default_action, getField v 9 8),
    (STM_SCHOOL_CTRL_ewma_shift, getField v 7 4), (STM_SCHOOL_CTRL_unknown_action, getField v 3 2)]
  if getField v 1 1 = 1 then s.schoolStart else s

/-- SCHOOL_START (R262): a write of STM_SCHOOL_CTRL with start set. -/
def execSchoolStart (r : Requester) (v : Word) (s : State) : Host.Outcome State Fault Refusal :=
  .next (s.privWrite r STM_SCHOOL_CTRL fun s => s.schoolCtrlWrite (setField v 1 1 1))

/-- rate + (1,600 × count − rate) / 2^shift, an inexact quotient rounded as a free value says.
[DEDUCED, log entry 71] -/
def State.ewma (s : State) (rate count : Nat) : State × Nat :=
  let sh := 2 ^ max 1 (s.fget STM_SCHOOL_CTRL_ewma_shift)
  let d : Int := 1600 * count - rate
  let q := d / sh
  if d % sh = 0 then (s, min 0xFFFFF (rate + q).toNat)
  else (s.drew 1, min 0xFFFFF (rate + q + (s.free % 2 : Nat)).toNat)

/-- A record's window ends (R262, R264). -/
def State.schoolWindow (s : State) (i : Nat) : State :=
  let a := schoolAt i
  let h := s.schooling i
  match s.eget a SCH_state with
  | 1 =>
    if s.isSet STM_SCHOOL_CTRL_learning then
      let q := s.ewma (s.eget a SCH_rate) h.count
      ((q.1.eset a SCH_rate q.2).eset a SCH_burst (min 0xFFF (max (s.eget a SCH_burst) h.count))).setSchool i { h with count := 0 }
    else s
  | 2 =>
    let q := s.ewma h.rate h.count
    q.1.setSchool i { h with rate := q.2, count := 0 }
  | _ => s

/-- The learning period ends: every learning record becomes enforcing. -/
def State.schoolEnd (s : State) : State :=
  let s := s.fset STM_SCHOOL_CTRL_learning 0
  let s := (s.usedEntries .school).foldl (fun t i =>
    let a := schoolAt i
    if t.eget a SCH_state = 1 then (t.eset a SCH_state 2).setSchool i { last := (t.schooling i).last } else t) s
  s.raise 1430

/-- SCHOOL_WINDOW_END (R262, R263). -/
def execSchoolWindowEnd (s : State) : Host.Outcome State Fault Refusal :=
  if !s.coreOn then .next s
  else
    let s := (s.usedEntries .school).foldl State.schoolWindow { s with unknownRaised := false }
    if !s.isSet STM_SCHOOL_CTRL_learning then .next s
    else if s.schoolWindows < 99 then .next { s with schoolWindows := s.schoolWindows + 1 }
    else
      let e := s.fget STM_SCHOOL_ELAPSED_seconds + 1
      let s := { s with schoolWindows := 0 }.fset STM_SCHOOL_ELAPSED_seconds e
      .next (if s.fget STM_SCHOOL_PERIOD_seconds ≤ e then s.schoolEnd else s)

/-! ### Traffic control at stage 4 (R248, R249) -/

/-- The C-tag's DEI set in a frame's bytes (R251). -/
def setDei (bs : List Byte) (tci : Option Nat) : List Byte :=
  match tci with
  | some o => overlay bs o [byteAt bs o ||| 0x10]
  | none => bs

/-- Step 5's verdict applied: counters, and the frame's bytes if it passes. `drop` is the policer's drop_yellow. -/
def State.colourVerdict (s : State) (c : Colour) (drop : Bool) (bs : List Byte) (tci : Option Nat) :
    State × Option (List Byte) :=
  match c with
  | .green => (s.stmCnt 0, some bs)
  | .yellow => if drop then ((s.stmCnt 1).stmCnt 3, none) else (s.stmCnt 1, some (setDei bs tci))
  | .red => (s.stmCnt 2, none)

/-- Metering by policer i, or by the overflow policer where it is unusable (R249). -/
def State.policeBy (s : State) (i len : Nat) (bs : List Byte) (tci : Option Nat) : State × Option (List Byte) :=
  let dei := match tci with | some o => bitOf (byteAt bs o).toNat 4 | none => false
  let u := if i = 8191 then (s, false) else s.policerUsable i
  if u.2 then
    let m := u.1.meter i len dei
    m.1.colourVerdict m.2 (m.1.eIs (Tab.policer.at i) POL_drop_yellow) bs tci
  else
    let s := if i = 8191 then u.1 else u.1.stmCnt 8
    let m := s.meterOverflow len dei
    m.1.colourVerdict m.2 (m.1.eIs (Tab.policer.at 8191) POL_drop_yellow) bs tci

/-- Steps 2 to 5 for a frame of stream k with a usable filter that its owner may use. [DEDUCED, log entry 69] -/
def State.streamSteps (s : State) (k len : Nat) (bs : List Byte) (tci : Option Nat) : State × Option (List Byte) :=
  let a := Tab.filter.at k
  let cnt := Tab.counters.at k
  let s := s.entCount cnt 0
  let g := s.sgateOpen (s.eget a SFLT_gate)
  let s := g.1
  if !g.2 then ((s.entCount cnt 2).stmCnt 4, none)
  else
    let max := s.eget a SFLT_max_sdu
    let tooLong := max != 0 && decide (max < len)
    if s.eIs a SFLT_blocked then ((s.entCount cnt 2).stmCnt 6, none)
    else if tooLong then
      let s := (s.entCount cnt 2).stmCnt 5
      if s.eIs a SFLT_sdu_block_en then ((s.eset a SFLT_blocked 1).raise 1425, none)
      else (s, none)
    else
      let j := s.schoolFrame k
      let s := j.1
      if !j.2 then (s, none)
      else if !s.eIs a SFLT_pol_en then (s.entCount cnt 1, some bs)
      else
        let v := s.policeBy (s.eget a SFLT_policer) len bs tci
        (v.1.entCount cnt (if v.2.isSome then 1 else 3), v.2)

/-- Traffic control of a frame at stage 4 of pipeline p: its bytes if it goes on. `tci` is where its C-tag's control
field stands, `len` the length of R223. -/
def State.trafficControl (s : State) (p : Nat) (stream : Option Nat) (overflow : Bool) (owner len : Nat)
    (bs : List Byte) (tci : Option Nat) : State × Option (List Byte) :=
  if overflow then (s.stmCnt 7).policeBy 8191 len bs tci
  else
    match stream with
    | none => (s, some bs)
    | some k =>
      let c := s.check .filter k
      let s := c.1
      let a := Tab.filter.at k
      if !c.2 || !s.eIs a SFLT_valid || s.eIs a SFLT_lock then (s.stmCnt 8).policeBy 8191 len bs tci
      else
        let o := s.eget a SFLT_owner
        if o != 0 && o != owner then
          (((s.countHalf (FWD_CNT p 24) ⟨FWD_CNT_HALF p, 24, 24⟩ (1036 + 32 * p) 1).raise (1033 + 32 * p)), none)
        else s.streamSteps k len bs tci

/-! ### Scrubbing (R266) -/

/-- Entry k of the scrubber's order. -/
def stmEntry (k : Nat) : Tab × Nat :=
  if k < 8192 then (.filter, k)
  else if k < 16384 then (.policer, k - 8192)
  else if k < 32768 then (.school, k - 16384)
  else if k < 36864 then (.gate, k - 32768)
  else (.fallback, (k - 36864) % 1024)

/-- STM_SCRUB_READ (R266): the scrubber reads its next entry. `hit` names an entry of its order some of whose bits
have changed in the SRAM since the last command, and those bits. -/
def execStmScrubRead (hit : Option (Nat × List Nat)) (s : State) : Host.Outcome State Fault Refusal :=
  let s := match hit with
    | some (k, bits) => s.upset (stmEntry k).1 (stmEntry k).2 bits
    | none => s
  if !s.cinched ∨ getField (s.reg STM_SCRUB) 15 0 = 0 then .next s
  else
    let e := stmEntry s.stmScrub
    .next { (s.check e.1 e.2).1 with stmScrub := (s.stmScrub + 1) % 37888 }

/-- STM_REPAIR_DONE (R266): the queued repair of entry k of the scrubber's order completes. -/
def execStmRepairDone (k : Nat) (s : State) : Host.Outcome State Fault Refusal :=
  .next (s.repairDone (stmEntry k).1 (stmEntry k).2)

end Sys2Proof.Machine
end

