-- ==== Sys2Proof/Machine/Forward.lean ====
section
/-!
DEFINITION. The forwarding pipelines (R184 to R222): parsing, ingress rules, the FDB with its learning, ageing and peer
queries, stream identification, the decision, FRER, mirror sampling, scrubbing and the table commands.
-/

namespace Sys2Proof.Machine

/-- A counter of pipeline p counts n (R219). -/
def State.fwdCntN (s : State) (p i n : Nat) : State :=
  s.countHalf (FWD_CNT p i) ⟨FWD_CNT_HALF p, i, i⟩ (1036 + 32 * p) n
def State.fwdCnt (s : State) (p i : Nat) : State := s.fwdCntN p i 1
/-- Event k of pipeline p (R220). -/
def State.fwdRaise (s : State) (p k : Nat) : State := s.raise (1024 + 32 * p + k)

def noPipe (_ : Nat) : Pipe := {}
def State.pipe (s : State) (p : Nat) : Pipe := look noPipe s.pipes p
/-- A pipeline's queues replaced, with the levels that FWD_STATUS shows (R221). -/
def State.setPipe (s : State) (p : Nat) (v : Pipe) : State :=
  { s.fsets [(FWD_STATUS_learn_level p, v.learn.length), (FWD_STATUS_peer_busy p, v.asked.length)] with
    pipes := put noPipe s.pipes p v }

/-! ### Parsing (R186) -/

/-- The fields that the parser takes from a frame's first 128 bytes; an absent field is none. -/
structure Parsed where
  da : Nat := 0
  sa : Nat := 0
  /-- where the C-tag's control field stands -/
  ctag : Option Nat := none
  tci : Nat := 0
  /-- where the R-tag stands, and its sequence number -/
  rtag : Option (Nat × Nat) := none
  /-- where a new R-tag would stand: after the VLAN tags -/
  tagEnd : Nat := 12
  etype : Nat := 0
  proto : Nat := 0
  ipDst : Nat := 0
  dport : Nat := 0
  ipv4 : Bool := false
  ipv6 : Bool := false
  avtp : Bool := false
deriving DecidableEq, Repr

/-- A big-endian field of n bytes at o, if it lies wholly within the bytes parsed. -/
def fieldAt (bs : List Byte) (o n : Nat) : Option Nat := if o + n ≤ bs.length then some (beAt bs o n) else none

/-- The IP fields after the EtherType at `o`. [PRESUMED, log entry 64] -/
def parseIp (bs : List Byte) (o : Nat) (p : Parsed) : Parsed :=
  let port := fun (proto at_ : Nat) => if proto = 6 ∨ proto = 17 then (fieldAt bs at_ 2).getD 0 else 0
  if p.etype = 0x0800 then
    let proto := (fieldAt bs (o + 9) 1).getD 0
    let frag := (fieldAt bs (o + 6) 2).getD 0 % 2 ^ 13
    let ihl := 4 * ((fieldAt bs o 1).getD 0 % 16)
    { p with ipv4 := true, proto := proto, ipDst := (fieldAt bs (o + 16) 4).getD 0,
             dport := if frag = 0 then port proto (o + ihl + 2) else 0 }
  else if p.etype = 0x86DD then
    let nh := (fieldAt bs (o + 6) 1).getD 0
    { p with ipv6 := true, proto := nh, ipDst := (fieldAt bs (o + 36) 4).getD 0, dport := port nh (o + 42) }
  else if p.etype = 0x22F0 then { p with avtp := true }
  else p

/-- The fields of an Ethernet frame. [PRESUMED, log entry 64] -/
def parseFrame (frame : List Byte) : Parsed :=
  let bs := frame.take 128
  let o1 := if fieldAt bs 12 2 = some 0x88A8 then 16 else 12
  let c := fieldAt bs o1 2 == some 0x8100 && (fieldAt bs (o1 + 2) 2).isSome
  let o2 := if c then o1 + 4 else o1
  let r := fieldAt bs o2 2 == some 0xF1C1 && (fieldAt bs (o2 + 4) 2).isSome
  let o3 := if r then o2 + 6 else o2
  parseIp bs (o3 + 2)
    { da := (fieldAt bs 0 6).getD 0, sa := (fieldAt bs 6 6).getD 0,
      ctag := if c then some (o1 + 2) else none, tci := if c then beAt bs (o1 + 2) 2 else 0,
      rtag := if r then some (o2, beAt bs (o2 + 4) 2) else none, tagEnd := o2,
      etype := (fieldAt bs o3 2).getD 0 }

def Parsed.vid (p : Parsed) : Nat := p.tci % 4096
/-- The PCP, or default_pcp without a C-tag. -/
def Parsed.pcp (p : Parsed) (dflt : Nat) : Nat := if p.ctag.isSome then p.tci / 2 ^ 13 else dflt
def isGroup (mac : Nat) : Bool := bitOf mac 40

/-! ### Ingress rules (R203 to R205) -/

/-- The 160-bit key of a frame from logical port `src` with initial class c. -/
def ruleKey (p : Parsed) (src c dflt : Nat) : Nat :=
  src % 128 * 2 ^ 153 + c * 2 ^ 150 + p.vid * 2 ^ 138 + p.pcp dflt * 2 ^ 135 + p.etype * 2 ^ 119 + p.da * 2 ^ 71 +
    p.proto * 2 ^ 63 + p.dport * 2 ^ 47 + p.ipDst * 2 ^ 15 + b2n p.ctag.isSome * 2 ^ 14 + b2n p.ipv4 * 2 ^ 13 +
    b2n p.ipv6 * 2 ^ 12 + b2n p.rtag.isSome * 2 ^ 11 + b2n p.avtp * 2 ^ 10

def ruleAt (p i : Nat) : Nat := (Tab.rules p).at i

/-- Rule i of pipeline p matches a key and applies to the frame's owner. -/
def State.ruleHits (s : State) (p i key owner : Nat) : Bool :=
  let a := ruleAt p i
  let words := fun (o : Nat) => (List.range 5).foldl (fun v w => v * 2 ^ 32 + (s.aperWord (a + 4 * (o + w))).toNat) 0
  let o := s.eget a RULE_owner
  s.eIs a RULE_valid && ((key ^^^ words 0) &&& words 5) == 0 && (o == 0 || o == owner)

/-- The first rule that applies, over the entries in use. A bad entry is found and skipped; a locked one that would
match is skipped and counted in locked_miss (R205, R212, R215). [DEDUCED, log entry 63] -/
def State.ruleScan (s : State) (p key owner : Nat) : List Nat → State × Option Nat
  | [] => (s, none)
  | i :: rest =>
    if s.isBad (ruleAt p i) then (s.foundBad (.rules p) i).ruleScan p key owner rest
    else if s.ruleHits p i key owner then
      if s.eIs (ruleAt p i) RULE_lock then (s.fwdCnt p 4).ruleScan p key owner rest else (s, some i)
    else s.ruleScan p key owner rest

/-- Ingress-rule lookup of a frame that is not resolved. [DEDUCED, log entry 63] -/
def State.ruleLookup (s : State) (p key owner : Nat) : State × Option Nat :=
  let r := s.ruleScan p key owner (s.usedEntries (.rules p))
  match r.2 with
  | none => r
  | some i =>
    let a := ruleAt p i
    ((r.1.eset a RULE_hits (min 0xFFFFFFFF (r.1.eget a RULE_hits + 1))).fwdCnt p 17, some i)

/-! ### The FDB (R194 to R201) -/

/-- The bucket of a key (R195). -/
def fdbBucket (k : FdbKey) : Nat :=
  crc32 (beBytes 6 k.mac ++ beBytes 1 (k.vid / 256 % 16) ++ beBytes 1 (k.vid % 256)) % 2 ^ 14

/-- The table and index of position n: 0 to 65,535 the buckets, then the spill CAM. -/
def fdbPos (p n : Nat) : Tab × Nat := if n < 65536 then (.fdb p, n) else (.spill p, n - 65536)
def fdbAddr (p n : Nat) : Nat := (fdbPos p n).1.at (fdbPos p n).2

/-- Positions that a lookup of a key tries, in order: the four ways, then the spill entries in use. -/
def State.fdbTries (s : State) (p : Nat) (k : FdbKey) : List Nat :=
  ((List.range 4).map fun w => 4 * fdbBucket k + w) ++ (s.usedEntries (.spill p)).map (65536 + ·)

def State.fdbKeyAt (s : State) (a : Nat) : FdbKey :=
  { mac := s.eget a FDB_mac_hi * 2 ^ 32 + s.eget a FDB_mac_lo, vid := s.eget a FDB_vid }

/-- The positions of the valid entries with a key, in the order in which a lookup tries them. -/
def State.fdbSame (s : State) (p : Nat) (k : FdbKey) : List Nat :=
  (s.fdbTries p k).filter fun n => s.eIs (fdbAddr p n) FDB_valid && s.fdbKeyAt (fdbAddr p n) == k

/-- The position of the first valid entry with a key. -/
def State.fdbFind (s : State) (p : Nat) (k : FdbKey) : Option Nat := (s.fdbSame p k).head?

/-- What an FDB lookup decides (R195). -/
inductive FdbResult where
  | parity
  | locked
  | hit (pos : Nat)
  | miss
deriving DecidableEq, Repr

def State.fdbLookup (s : State) (p : Nat) (k : FdbKey) : State × FdbResult :=
  let l := s.fdbSame p k
  match l.find? fun n => s.isBad (fdbAddr p n) with
  | some n => (s.foundBad (fdbPos p n).1 (fdbPos p n).2, .parity)
  | none =>
    if l.any fun n => s.eIs (fdbAddr p n) FDB_lock then (s, .locked)
    else
      match l with
      | [] => (s, .miss)
      | n :: _ => (s, .hit n)

/-- Words of an entry written together; parity is good. -/
def State.fdbPut (s : State) (a : Nat) (k : FdbKey) (peer group : Bool) (dest owner : Nat) : State :=
  let w2 := 2 ^ 31 + b2n peer * 2 ^ 28 + b2n group * 2 ^ 23 + (if group then dest % 64 else dest % 128) * 2 ^ 16
  (s.setAper a (leBytes 4 (k.mac % 2 ^ 32) ++ leBytes 4 (k.vid * 2 ^ 16 + k.mac / 2 ^ 32) ++ leBytes 4 w2 ++
    leBytes 4 (owner * 2 ^ 24))).setBad a false

/-- A dynamic entry takes a stream ID of the pipeline's pool while auto_stream is set (R188). Which free ID the
specification does not say. [DEDUCED, log entry 55] -/
def State.autoAssign (s : State) (p a : Nat) : State :=
  if !s.isSet (FWD_CTRL_auto_stream p) then s
  else
    let first := s.fget (FWD_AUTO_STREAM_first p)
    let ids := ((List.range (s.fget (FWD_AUTO_STREAM_count p))).map (first + ·)).filter fun i =>
      look (fun _ => 0) s.autoIds i == 0
    let s := s.eset a FDB_auto 1
    match ids with
    | [] => s.eset a FDB_stream_valid 0
    | i0 :: _ =>
      let i := ids.getD (s.free % ids.length) i0
      let s := s.drew 1
      { (s.eset a FDB_stream i).eset a FDB_stream_valid 1 with autoIds := put (fun _ => 0) s.autoIds i 1 }

/-- Dynamic, unlocked ways of a bucket, lowest first. -/
def State.evictable (s : State) (p b : Nat) : List Nat :=
  ((List.range 4).map fun w => 4 * b + w).filter fun n =>
    !s.eIs (fdbAddr p n) FDB_static && !s.eIs (fdbAddr p n) FDB_lock

/-- The position where a new entry goes by steps 1 and 2 of R198. -/
def State.fdbFree (s : State) (p : Nat) (k : FdbKey) : Option Nat :=
  match ((List.range 4).map fun w => 4 * fdbBucket k + w).find? fun n => !s.eIs (fdbAddr p n) FDB_valid with
  | some n => some n
  | none => ((List.range 256).map (65536 + ·)).find? fun n => !s.eIs (fdbAddr p n) FDB_valid

/-- The way that step 3 of R198 evicts: the oldest, or a random one. [DEDUCED, log entry 55] -/
def State.fdbVictim (s : State) (p : Nat) (l : List Nat) : State × Option Nat :=
  match l with
  | [] => (s, none)
  | n0 :: _ =>
    if bitOf s.fdbEvict p then
      let age := fun n => s.eget (fdbAddr p n) FDB_age
      (s, some (l.foldl (fun m n => if age m < age n then n else m) n0))
    else (s.drew 1, some (l.getD (s.free % l.length) n0))

/-- A new dynamic entry is placed by R198. [DEDUCED, log entry 56] -/
def State.fdbPlace (s : State) (p : Nat) (k : FdbKey) (peer group : Bool) (dest owner : Nat) : State × Bool :=
  match s.fdbFree p k with
  | some n =>
    let s := if 65536 ≤ n then s.fwdCnt p 11 else s
    ((s.fdbPut (fdbAddr p n) k peer group dest owner).autoAssign p (fdbAddr p n), true)
  | none =>
    let v := s.fdbVictim p (s.evictable p (fdbBucket k))
    match v.2 with
    | some n =>
      let a := fdbAddr p n
      ((((v.1.fdbRemove a).fwdCnt p 10).fdbPut a k peer group dest owner).autoAssign p a, true)
    | none => ((v.1.fwdCnt p 8).fwdRaise p 0, false)

/-- A created or moved local key is sent to the other pipeline (R201). -/
def State.notifyMove (s : State) (p : Nat) (k : FdbKey) (dest : Nat) : State :=
  if s.isSet (FWD_CTRL_move_notify p) then
    let q := s.pipe (1 - p)
    s.setPipe (1 - p) { q with moves := q.moves ++ [(k, dest)] }
  else s

/-- A learn request is applied (R197). -/
def State.learnNow (s : State) (p : Nat) (q : LearnReq) : State :=
  let create := fun (s : State) =>
    let r := s.fdbPlace p q.key false false q.dest q.owner
    if r.2 then (r.1.fwdCnt p 7).notifyMove p q.key q.dest else r.1
  let l := s.fdbLookup p q.key
  let s := l.1
  match l.2 with
  | .locked => s
  | .miss => create s
  | .parity => create s
  | .hit n =>
    let a := fdbAddr p n
    if s.eIs a FDB_static then s
    else
      let moved := s.eget a FDB_dest != q.dest || s.eIs a FDB_group
      let peer := s.eIs a FDB_peer
      let words : List (EFld × Nat) := if moved || peer then
        [(FDB_peer, 0), (FDB_group, 0), (FDB_dest, q.dest), (FDB_age, 0), (FDB_owner, q.owner)] else [(FDB_age, 0)]
      let s := words.foldl (fun t e => t.eset a e.1 e.2) s
      let s := if moved then s.fwdCnt p 13 else s
      let s := if moved && !peer then s.fwdRaise p 2 else s
      if moved || peer then s.notifyMove p q.key q.dest else s

/-- A learn request enters the FIFO, or is dropped when its 64 places are taken (R197). -/
def State.learnQueue (s : State) (p : Nat) (q : LearnReq) : State :=
  let v := s.pipe p
  if v.learn.length < 64 then s.setPipe p { v with learn := v.learn ++ [q] } else (s.fwdCnt p 9).fwdRaise p 1

/-- LEARN_APPLY (R197): the learn engine applies the oldest request of pipeline p. -/
def execLearnApply (p : Nat) (s : State) : Host.Outcome State Fault Refusal :=
  match (s.pipe p).learn with
  | [] => .next s
  | q :: rest => if 2 ≤ p then .next s else .next ((s.setPipe p { s.pipe p with learn := rest }).learnNow p q)

/-- PEER_QUERY (R200): pipeline p answers the oldest query of the other pipeline. -/
def execPeerQuery (p : Nat) (s : State) : Host.Outcome State Fault Refusal :=
  match (s.pipe p).queries with
  | [] => .next s
  | k :: rest =>
    if 2 ≤ p then .next s
    else
      let s := s.setPipe p { s.pipe p with queries := rest }
      let l := s.fdbLookup p k
      let s := if l.2 == .locked then l.1.fwdCnt p 4 else l.1
      let hit := match l.2 with
        | .hit n =>
          let a := fdbAddr p n
          if s.eIs a FDB_peer || s.eIs a FDB_drop then none
          else some (if s.eIs a FDB_group then s.eget a FDB_dest % 64 else s.eget a FDB_dest, s.eIs a FDB_group,
            s.eget a FDB_owner)
        | _ => none
      let o := s.pipe (1 - p)
      .next (s.setPipe (1 - p) { o with answers := o.answers ++ [{ key := k, hit := hit }] })

/-- PEER_ANSWER (R200): the oldest answer reaches pipeline p. -/
def execPeerAnswer (p : Nat) (s : State) : Host.Outcome State Fault Refusal :=
  match (s.pipe p).answers with
  | [] => .next s
  | q :: rest =>
    if 2 ≤ p then .next s
    else
      let v := s.pipe p
      let s := s.setPipe p { v with answers := rest, asked := v.asked.filter (· != q.key) }
      match q.hit with
      | none => .next s
      | some (dest, group, owner) =>
        let s := s.fwdCnt p 15
        if (s.fdbFind p q.key).isSome then .next s
        else .next (s.fdbPlace p q.key true group dest owner).1

/-- MOVE_NOTIFY (R201): pipeline p receives the oldest key that the other pipeline has learned. -/
def execMoveNotify (p : Nat) (s : State) : Host.Outcome State Fault Refusal :=
  match (s.pipe p).moves with
  | [] => .next s
  | (k, dest) :: rest =>
    if 2 ≤ p then .next s
    else
      let s := s.setPipe p { s.pipe p with moves := rest }
      match s.fdbFind p k with
      | none => .next s
      | some n =>
        let a := fdbAddr p n
        let peer := s.eIs a FDB_peer
        if s.eIs a FDB_static || s.eIs a FDB_lock || s.isBad a ||
            (peer && s.eget a FDB_dest == dest && !s.eIs a FDB_group) then .next s
        else
          let s := s.fdbRemove a
          .next (if peer then s else (s.fwdCnt p 13).fwdRaise p 2)

/-- One entry's ageing visit (R199). -/
def State.ageEntry (s : State) (p n : Nat) : State :=
  let a := fdbAddr p n
  let c := s.check (fdbPos p n).1 (fdbPos p n).2
  let s := c.1
  if !c.2 || !s.eIs a FDB_valid || s.eIs a FDB_static || s.eIs a FDB_lock then s
  else if 14 ≤ s.eget a FDB_age then (s.fdbRemove a).fwdCnt p 12
  else s.eset a FDB_age (s.eget a FDB_age + 1)

/-- AGEING_TICK (R199): period / 16 seconds have passed in pipeline p. -/
def execAgeingTick (p : Nat) (s : State) : Host.Outcome State Fault Refusal :=
  if 2 ≤ p ∨ s.fget (FWD_AGE_period p) = 0 then .next s
  else
    let l := s.usedEntries (.fdb p) ++ (s.usedEntries (.spill p)).map (65536 + ·)
    .next (l.foldl (State.ageEntry · p ·) s)

/-- STREAM_ID_RELEASE (R188): an auto stream ID returns to its pool 1 s after its entry's removal. -/
def execStreamIdRelease (id : Nat) (s : State) : Host.Outcome State Fault Refusal :=
  if look (fun _ => 0) s.autoIds id = 2 then .next { s with autoIds := put (fun _ => 0) s.autoIds id 0 } else .next s

/-! ### FRER (R206, R207) -/

def frerAt (p i : Nat) : Nat := (Tab.frer p).at i

/-- take_any is kept inverted (R207 gives it the reset value 1). -/
def State.takeAny (s : State) (a : Nat) : Bool := !s.eIs a FRER_take_any
def State.setTakeAny (s : State) (a : Nat) (b : Bool) : State := s.eset a FRER_take_any (b2n !b)

/-- The FRER entry of a stream: the lowest that is valid, unlocked and good. A bad one is found, a locked one counted, and
one whose func is 0 or 3 is ignored (R206). -/
def State.frerScan (s : State) (p stream : Nat) : List Nat → State × Option Nat
  | [] => (s, none)
  | i :: rest =>
    let a := frerAt p i
    let ignored := s.eget a FRER_func == 0 || s.eget a FRER_func == 3
    if !(s.eIs a FRER_valid && s.eget a FRER_stream == stream) then s.frerScan p stream rest
    else if s.isBad a then (s.foundBad (.frer p) i).frerScan p stream rest
    else if s.eIs a FRER_lock then (s.fwdCnt p 4).frerScan p stream rest
    else if ignored then s.frerScan p stream rest
    else (s, some i)

def State.frerFind (s : State) (p : Nat) (stream : Option Nat) : State × Option Nat :=
  match stream with
  | none => (s, none)
  | some k => s.frerScan p k (s.usedEntries (.frer p))

/-- The history of `len` bits shifted by one place, `new` entering; a 0 that leaves counts a lost packet.
[PRESUMED, log entry 58] -/
def State.frerShift (s : State) (a len new : Nat) : State :=
  let h := s.eget a FRER_history
  let s := if bitOf h (len - 1) then s else s.entCount a 12
  s.eset a FRER_history ((2 * h + new) % 2 ^ len)

/-- The vector recovery algorithm of IEEE 802.1CB in recovery entry i: whether the frame passes.
[PRESUMED, log entry 58] -/
def State.frerRecover (s : State) (p i seq : Nat) : State × Bool :=
  let a := frerAt p i
  let len := s.eget a FRER_hist_m1 + 1
  let pass := fun (t : State) => (t.entCount a 8, true)
  let delta := signed 16 (seq + 65536 - s.eget a FRER_rcv_seq)
  if s.takeAny a then
    pass (((s.setTakeAny a false).eset a FRER_rcv_seq seq).eset a FRER_history 1)
  else if (len : Int) ≤ delta ∨ delta ≤ -(len : Int) then
    (((s.entCount a 11).entCount a 9).fwdRaise p 6, false)
  else if delta ≤ 0 then
    let j := delta.natAbs
    if bitOf (s.eget a FRER_history) j then (s.entCount a 9, false)
    else pass ((s.eset a FRER_history (s.eget a FRER_history + 2 ^ j)).entCount a 10)
  else
    let s := if delta = 1 then s else s.entCount a 10
    let s := Nat.repeat (fun t => t.frerShift a len 0) (delta.natAbs - 1) s
    pass ((s.frerShift a len 1).eset a FRER_rcv_seq seq)

/-- Bytes with an R-tag taken out, or put in or rewritten with a sequence number. -/
def stripRtag (bs : List Byte) (p : Parsed) : List Byte :=
  match p.rtag with
  | some (o, _) => bs.take o ++ bs.drop (o + 6)
  | none => bs
def putRtag (bs : List Byte) (p : Parsed) (seq : Nat) : List Byte :=
  match p.rtag with
  | some (o, _) => overlay bs (o + 4) (beBytes 2 seq)
  | none => bs.take p.tagEnd ++ beBytes 2 0xF1C1 ++ beBytes 2 0 ++ beBytes 2 seq ++ bs.drop p.tagEnd

/-- Recovery at stage 4 (R206): whether the frame passes, and its bytes. A frame without an R-tag, or whose rcv_index
names no valid recover entry, passes and is rogue. -/
def State.frerStage (s : State) (p i : Nat) (bs : List Byte) (q : Parsed) : State × Option (List Byte) :=
  let a := frerAt p i
  if s.eget a FRER_func ≠ 2 then (s, some bs)
  else
    let r := s.eget a FRER_rcv_index
    let c := s.check (.frer p) r
    let s := c.1
    let good := c.2 && s.eIs (frerAt p r) FRER_valid && s.eget (frerAt p r) FRER_func == 2
    match q.rtag, good with
    | some (_, seq), true =>
      let v := s.frerRecover p r seq
      if v.2 then (v.1, some (if s.eIs a FRER_strip then stripRtag bs q else bs)) else (v.1.fwdCnt p 21, none)
    | _, _ => ((s.entCount a 11).fwdRaise p 6, some (if s.eIs a FRER_strip then stripRtag bs q else bs))

/-- FRER_RESET (R206): the reset timeout of recovery entry i of pipeline p expires. -/
def execFrerReset (p i : Nat) (s : State) : Host.Outcome State Fault Refusal :=
  let a := frerAt p i
  if 2 ≤ p ∨ 1024 ≤ i ∨ !(s.eIs a FRER_valid && s.eget a FRER_func == 2) ∨ s.eget a FRER_reset_ms = 0 then .next s
  else
    .next ((((s.setTakeAny a true).eset a FRER_history 0).eset a FRER_rcv_seq 65535).entCount a 13 |>.fwdRaise p 7)

/-! ### The decision (R190 to R193) -/

/-- The logical ports of a three-word mask at a register address; the bits of absent ones read 0 (R220). -/
def State.maskPorts (s : State) (a : Nat) : List Nat :=
  (List.range 86).filter fun q =>
    getField (s.reg (a + 4 * (q / 32))) (q % 32) (q % 32) == 1 && logicalPresent s.variant q

/-- Flood and group bits of lanes that are not 10BASE-T1S are ignored (R190). -/
def State.floodable (s : State) (q : Nat) : Bool :=
  if 16 ≤ q ∧ q < 64 then s.fget (LANE_PHY_CFG_kind (q - 16)) == 4 else true

/-- An owner is active: from the cinch a draining or absent owner's frames pass no owner check (R411). -/
def State.ownerActive (s : State) (o : Nat) : Bool := o == 0 || (s.owner o).state == 1

/-- A frame of owner a may reach logical port q (R407). -/
def State.mayReach (s : State) (a q : Nat) : Bool :=
  let b := if q < 64 then s.portOwnerOf q else 0
  s.ownerActive a && (a == 0 || b == 0 || a == b)

/-- Outputs that name no present port are removed and counted (R190 step 3, R191). -/
def State.dropAbsent (s : State) (p : Nat) (outs : List Nat) : State × List Nat :=
  let n := (outs.filter fun q => !logicalPresent s.variant q).length
  (if n = 0 then s else Nat.repeat (fun t => t.fwdRaise p 10) n (s.fwdCntN p 23 n), outs.filter fun q => logicalPresent s.variant q)

/-- Outputs that the frame's owner may not reach are removed and counted (R190 step 4). -/
def State.dropForeign (s : State) (p owner : Nat) (outs : List Nat) : State × List Nat :=
  let n := (outs.filter fun q => !s.mayReach owner q).length
  (if n = 0 then s else Nat.repeat (fun t => t.fwdRaise p 9) n (s.fwdCntN p 24 n), outs.filter fun q => s.mayReach owner q)

/-- The output set before the adjustments (R190): its ports, whether it is a flood or group set, and whether it is a
unicast FDB result. -/
def State.baseOutputs (s : State) (p : Nat) (f : Frame) (rule : Option Nat) (dst : FdbResult) :
    State × List Nat × Bool × Bool :=
  match f.resolved with
  | some l => (s, l, false, false)
  | none =>
    let out := rule.bind fun i =>
      if s.eIs (ruleAt p i) RULE_out_en then some (s.eget (ruleAt p i) RULE_out, s.eIs (ruleAt p i) RULE_out_group) else none
    match out with
    | some (o, true) => (s, (s.maskPorts (FWD_MCGRP p (o % 64))).filter s.floodable, true, false)
    | some (o, false) => (s, [o], false, false)
    | none =>
      match dst with
      | .hit n =>
        let a := fdbAddr p n
        let d := s.eget a FDB_dest
        if s.eIs a FDB_group then (s, (s.maskPorts (FWD_MCGRP p (d % 64))).filter s.floodable, true, false)
        else (s, [d], false, true)
      | _ => (s.fwdCnt p 6, (s.maskPorts (FWD_FLOOD_LO p)).filter s.floodable, true, false)

/-- FRER generation (R206): the entry's ports, the tagged bytes and the next sequence number.
[DEDUCED, log entry 149] -/
def State.frerGenerate (s : State) (p i : Nat) (bs : List Byte) (q : Parsed) : State × List Byte × List Nat :=
  let a := frerAt p i
  let seq := s.eget a FRER_gen_seq
  let outs := [s.eget a FRER_port_a, s.eget a FRER_port_b].filter (· != 127)
  let d := (s.eset a FRER_gen_seq ((seq + 1) % 65536)).dropAbsent p outs
  (d.1, putRtag bs q seq, d.2.eraseDups)

/-- The output set after every adjustment, with the bytes that FRER generation leaves (R190).
[DEDUCED, log entry 57; DEDUCED, log entry 149] -/
def State.outputs (s : State) (p : Nat) (f : Frame) (rule frer : Option Nat) (dst : FdbResult) (bs : List Byte)
    (q : Parsed) : State × List Byte × List Nat :=
  let b := s.baseOutputs p f rule dst
  let s := b.1
  let outs := b.2.1
  let copy := match rule with | some i => s.eIs (ruleAt p i) RULE_copy_ostler | none => false
  let outs := if copy && !outs.contains 83 then outs ++ [83] else outs
  let outs := if b.2.2.1 then outs.filter (· != f.src) else if b.2.2.2 && b.2.1 == [f.src] then [] else outs
  let a := s.dropAbsent p outs
  let o := a.1.dropForeign p f.owner a.2
  let s := o.1
  match frer with
  | some i => if s.eget (frerAt p i) FRER_func = 1 then s.frerGenerate p i bs q else (s, bs, o.2)
  | none => (s, bs, o.2)

/-! ### Mirror sampling (R208 to R211) -/

def mirAt (n : Nat) : Nat := Tab.mirror.at n

/-- Session n selects a frame. -/
def State.mirSelects (s : State) (n p : Nat) (f : Frame) (rule : Option Nat) (outs : List Nat) (dropped : Bool) : Bool :=
  let a := mirAt n
  let mask := s.eget a MIR_mask_lo + s.eget a MIR_mask_mid * 2 ^ 32 + s.eget a MIR_mask_hi * 2 ^ 64
  let named := match rule with
    | some i => s.eIs (ruleAt p i) RULE_mirror_en && s.eget (ruleAt p i) RULE_mirror == n
    | none => false
  let o := s.eget a MIR_owner
  let d := s.eget a MIR_dest
  s.eIs a MIR_valid && s.eget a MIR_n != 0 && s.eget a MIR_trunc != 3 && (d == 80 || d == 81 || d == 83) &&
    (o == 0 || o == f.owner) &&
    (if s.eIs a MIR_sel_out then !dropped && outs.any fun q => bitOf mask q else bitOf mask f.src || named)

/-- The metadata header of a copy (R210); its sink writes the original length into bytes 4 and 5. -/
def mirHeader (n p : Nat) (selOut dropped overflow : Bool) (f : Frame) (cls ts : Nat) (stream : Option Nat)
    (outs : List Nat) : List Byte :=
  let low := outs.foldl min 127
  beBytes 1 (n * 32 + b2n selOut * 16 + b2n dropped * 8 + cls) ++ beBytes 1 (p * 128 + f.src) ++ beBytes 1 f.owner ++
    beBytes 1 (b2n (decide (1 < outs.length)) * 128 + low) ++ beBytes 2 0 ++
    beBytes 2 (b2n stream.isSome * 2 ^ 15 + b2n overflow * 2 ^ 14 + stream.getD 0) ++ beBytes 8 ts

/-- Session n counts a frame it selects, and samples it when its phase reaches n (R208). The copy of a frame that still arrives
waits for its end, and for the verdict of a protected one (R366). [DEDUCED, log entry 59] -/
def State.mirSample (s : State) (n p inPort : Nat) (f : Frame) (header : List Byte) : State :=
  let a := mirAt n
  let ph := s.eget a MIR_phase + 1
  if ph < s.eget a MIR_n then s.eset a MIR_phase ph
  else
    let s := ((s.eset a MIR_phase 0).entCount a 5).fwdCnt p 25
    let c : Frame := { bytes := f.bytes, lane := f.lane, src := f.src, owner := s.eget a MIR_owner, mirror := some n,
                       head := header, keep := some (64 * 2 ^ s.eget a MIR_trunc), cut := f.cut, secured := f.secured,
                       out := s.eget a MIR_dest, recirc := some p }
    let r := s.admitMirror c inPort
    if r.2 then r.1 else (r.1.entCount a 6).fwdCnt p 26

/-- Every session that selects the frame (R208); a bad session is found and does not sample.
[DEDUCED, log entry 59] -/
def State.mirrorAll (s : State) (p inPort : Nat) (f : Frame) (rule : Option Nat) (outs : List Nat) (dropped overflow : Bool)
    (cls : Nat) (stream : Option Nat) : State :=
  (s.usedEntries .mirror).foldl (fun t n =>
    if !t.eIs (mirAt n) MIR_valid then t
    else
      let c := t.check .mirror n
      let t := c.1
      if c.2 && t.mirSelects n p f rule outs dropped then
        t.mirSample n p inPort f (mirHeader n p (t.eIs (mirAt n) MIR_sel_out) dropped overflow f cls f.rx0 stream outs)
      else t) s

/-! ### A frame through a pipeline (R185) -/

/-- The stream ID of a frame (R187). -/
def State.streamOf (s : State) (p : Nat) (f : Frame) (rule : Option Nat) (dst : FdbResult) : Option Nat :=
  match rule with
  | some i =>
    if s.eIs (ruleAt p i) RULE_stream_en then some (s.eget (ruleAt p i) RULE_stream) else fromFdb s
  | none => if f.resolved.isSome then f.stream else fromFdb s
where
  /-- The stream of the destination's entry. -/
  fromFdb (s : State) : Option Nat :=
    match dst with
    | .hit n => if s.eIs (fdbAddr p n) FDB_stream_valid then some (s.eget (fdbAddr p n) FDB_stream) else none
    | _ => none

/-- A destination hit on an auto entry without a stream ID: the overflow flag, its counter and event, and a new try at
an ID (R188). -/
def State.overflowCheck (s : State) (p : Nat) (dst : FdbResult) : State × Bool :=
  match dst with
  | .hit n =>
    let a := fdbAddr p n
    if s.eIs a FDB_auto && !s.eIs a FDB_stream_valid then
      let s := s.fwdCnt p 22
      let s := if look (fun _ => false) s.ovfRaised a then s
        else ({ s with ovfRaised := put (fun _ => false) s.ovfRaised a true }).fwdRaise p 5
      (s.autoAssign p a, true)
    else (s, false)
  | _ => (s, false)

/-- A destination miss asks the other pipeline (R200). -/
def State.askPeer (s : State) (p : Nat) (k : FdbKey) : State :=
  let v := s.pipe p
  if !s.isSet (FWD_CTRL_peer_query p) || isGroup k.mac || v.asked.contains k then s
  else if 16 ≤ v.asked.length then s.fwdCnt p 16
  else
    let s := s.setPipe p { v with asked := v.asked ++ [k] }
    let o := s.pipe (1 - p)
    (s.setPipe (1 - p) { o with queries := o.queries ++ [k] }).fwdCnt p 14

/-- Lookup of the destination with its counters, refresh and query (R195, R199, R200, R219). -/
def State.destLookup (s : State) (p : Nat) (k : FdbKey) : State × FdbResult :=
  let l := s.fdbLookup p k
  let s := l.1
  match l.2 with
  | .hit n =>
    let a := fdbAddr p n
    (if s.eIs a FDB_peer && !s.eIs a FDB_static then (s.eset a FDB_age 0).fwdCnt p 2 else s.fwdCnt p 2, l.2)
  | .locked => (s.fwdCnt p 4, l.2)
  | .parity => (s.fwdCnt p 5, l.2)
  | .miss => ((s.fwdCnt p 3).askPeer p k, l.2)

/-- The learn request of a frame, if the pipeline learns from it (R197). -/
def State.learnReq (s : State) (p : Nat) (f : Frame) (q : Parsed) (rule : Option Nat) : Option LearnReq :=
  let noLearn := match rule with | some i => s.eIs (ruleAt p i) RULE_no_learn | none => false
  let bit := getField (s.reg (FWD_LEARN_LO p + 4 * (f.src / 32))) (f.src % 32) (f.src % 32) == 1
  if f.lane || f.resolved.isSome || f.recirc.isSome || isGroup q.sa || q.sa == 0 || !s.isSet (FWD_CTRL_learn_en p) || !bit ||
      noLearn then none
  else some { key := { mac := q.sa, vid := q.vid }, dest := f.src, owner := f.owner }

/-- Learning beside the stages: the source lookup, and a request unless the entry is static or locked (R197). A frame
still arriving under cut-through waits for its good end. [DEDUCED, log entry 56] -/
def State.learnFrom (s : State) (p : Nat) (f : Frame) (r : Option LearnReq) : State :=
  match r with
  | none => s
  | some q =>
    let l := s.fdbLookup p q.key
    let s := if l.2 == .locked then l.1.fwdCnt p 4 else l.1
    let none_ := match l.2 with
      | .locked => true
      | .hit n => s.eIs (fdbAddr p n) FDB_static
      | _ => false
    if none_ then s
    else if f.cut then s.setEth f.src { s.eth f.src with cutLearn := some q }
    else s.learnQueue p q

/-- The frame of R190 that a rule recirculates goes to f27 (R205); once only. -/
def State.recircTo (s : State) (p : Nat) (f : Frame) (rule : Option Nat) : State × Option Nat :=
  match rule with
  | none => (s, none)
  | some i =>
    if !s.eIs (ruleAt p i) RULE_recirc then (s, none)
    else if f.hops = 0 then (s.fwdCnt p 30, some (s.eget (ruleAt p i) RULE_recirc_pipe))
    else ((s.fwdCnt p 31).fwdRaise p 14, none)

/-- The end of a discarded frame: sampled by the sessions that select it at ingress (R192). A cut-through frame leaves
nothing. -/
def State.discardAt (s : State) (p inPort : Nat) (f : Frame) (rule : Option Nat) (overflow : Bool) (cls : Nat)
    (stream : Option Nat) : State :=
  s.mirrorAll p inPort f rule [] true overflow cls stream

/-- Stages 5 to 7 of a frame that stage 4 has passed with bytes `bs`. [DEDUCED, log entry 57] -/
def State.decide_ (s : State) (p inPort : Nat) (f : Frame) (bs : List Byte) (rule frer : Option Nat) (dst : FdbResult)
    (cls : Nat) (stream : Option Nat) (overflow : Bool) : State :=
  let q := if f.lane then {} else parseFrame bs
  let dropRule := match rule with | some i => s.eIs (ruleAt p i) RULE_drop | none => false
  let dropFdb := match dst with | .hit n => f.resolved.isNone && s.eIs (fdbAddr p n) FDB_drop | _ => false
  if dropRule then (s.fwdCnt p 18).discardAt p inPort f rule overflow cls stream
  else if dropFdb then (s.fwdCnt p 19).discardAt p inPort f rule overflow cls stream
  else
    let r := s.recircTo p f rule
    let s := r.1
    match r.2 with
    | some pipe =>
      let s := s.mirrorAll p inPort f rule [] false overflow cls stream
      s.takeIn { f with bytes := bs, cls := cls, recirc := some pipe, hops := 1 } inPort cls [85]
    | none =>
      let o := s.outputs p f rule frer dst bs q
      let s := o.1
      if o.2.2.isEmpty then (s.fwdCnt p 20).discardAt p inPort f rule overflow cls stream
      else
        let s := s.mirrorAll p inPort f rule o.2.2 false overflow cls stream
        s.takeIn { f with bytes := o.2.1, cls := cls } inPort cls o.2.2

/-- A frame passes pipeline p, having entered the fabric at `inPort` (R185). -/
def State.pipeline (s : State) (p inPort : Nat) (f : Frame) : State :=
  let s := s.fwdCnt p 0
  let s := if f.resolved.isSome then s.fwdCnt p 1 else s
  let q := if f.lane then {} else parseFrame f.bytes
  let dflt := if f.src < 16 then s.fget (EMAC_CTRL_default_pcp f.src) else 0
  let rl := if f.resolved.isSome then (s, none) else s.ruleLookup p (ruleKey q f.src f.cls dflt) f.owner
  let s := rl.1
  let rule := rl.2
  let dl := if f.resolved.isSome then (s, FdbResult.miss) else s.destLookup p { mac := q.da, vid := q.vid }
  let s := dl.1
  let dst := dl.2
  let s := s.learnFrom p f (s.learnReq p f q rule)
  let stream := s.streamOf p f rule dst
  let ov := if f.resolved.isSome then (s, false) else s.overflowCheck p dst
  let s := ov.1
  let cls := match rule with
    | some i => if s.eIs (ruleAt p i) RULE_class_en then s.eget (ruleAt p i) RULE_class else f.cls
    | none => f.cls
  let fr := s.frerFind p stream
  let s := fr.1
  let rec_ := match fr.2 with
    | some i => s.frerStage p i f.bytes q
    | none => (s, some f.bytes)
  match rec_.2 with
  | none => rec_.1.discardAt p inPort f rule ov.2 cls stream
  | some bs =>
    let q' := if f.lane then ({} : Parsed) else parseFrame bs
    let len := if f.cut then s.fget (EMAC_CFG_max_len f.src) else ({ f with bytes := bs } : Frame).len
    let v := rec_.1.trafficControl p stream ov.2 f.owner len bs q'.ctag
    match v.2 with
    | none => v.1.discardAt p inPort f rule ov.2 cls stream
    | some bs => v.1.decide_ p inPort f bs rule fr.2 dst cls stream ov.2

/-- The pipeline that serves frames of fabric port f (R29); a recirculated frame's is named by its action. -/
def pipelineOf (f : Nat) (fr : Frame) : Nat :=
  if f = 27 then fr.recirc.getD 0 else if f < 8 ∨ f = 22 ∨ f = 23 ∨ f = 25 then 0 else 1

/-- The next frame of logical port q for its pipeline: an Ethernet port's receive queues in strict priority, those under
cut-through in their places (R164, R166), the recirculation queue, or the frames that another endpoint has offered. -/
def State.takeFrame (s : State) (q : Nat) : State × Option Frame :=
  let f := fabricOf q
  if q = 85 then
    match ((List.range 8).reverse.map (egressKey 85)).find? fun k => !(s.egressQ k).isEmpty with
    | some k => (s.setEgressQ k ((s.egressQ k).drop 1), (s.egressQ k).head?)
    | none => (s, none)
  else
    match (s.offeredTo f).find? fun x => x.src == q with
    | some x => (s.setOffered f ((s.offeredTo f).erase x), some x)
    | none =>
      if 64 ≤ q ∧ q < 80 then
        -- FQ1 transmits before FQ0 (R278)
        let k := if (look noFrames s.teams.fqTx (2 * (q - 64) + 1)).isEmpty then 2 * (q - 64) else 2 * (q - 64) + 1
        let l := look noFrames s.teams.fqTx k
        ({ s with teams := { s.teams with fqTx := put noFrames s.teams.fqTx k (l.drop 1) } }, l.head?)
      else
      if 16 ≤ q then (s, none)
      else
        let get := fun k => look (fun _ => ([] : List (Frame × Bool))) s.rxQueues k
        match ((List.range 8).reverse.map (8 * q + ·)).find? fun k => !(get k).isEmpty with
        | some k => ({ s with rxQueues := put (fun _ => []) s.rxQueues k ((get k).drop 1) }, (get k).head?.map (·.1))
        | none => (s, none)

/-- PIPELINE_FRAME (R185): the pipeline takes the next frame of logical port q. `wraps` packet-buffer cells that it
writes reach the last line generation (R413). -/
def execPipelineFrame (q wraps : Nat) (s : State) : Host.Outcome State Fault Refusal :=
  if !s.routingReady ∨ !s.coreOn ∨ 86 ≤ q then .next s
  else
    let t := s.takeFrame q
    match t.2 with
    | none => .next s
    | some f =>
      let p := pipelineOf (fabricOf q) f
      let s := t.1.pipeline p (fabricOf q) f
      .next (Nat.repeat (fun u => (u.countSat (SCL_CNT 1)).raise 1449) wraps s)

/-- MIRROR_COPY_DELIVER (R209): the sink delivers its oldest copy to the session's endpoint, whose class 0 egress queue
it enters. -/
def execMirrorCopyDeliver (s : State) : Host.Outcome State Fault Refusal :=
  match s.mirrorSink with
  | [] => .next s
  | c :: rest =>
    let s := { s with mirrorSink := rest }
    let k := egressKey c.dest 0
    .next (s.setEgressQ k (s.egressQ k ++ [{ bytes := c.bytes, owner := c.owner, out := c.dest, mirror := some c.session }]))

/-! ### Scrubbing (R212, R213) -/

/-- Entry k of pipeline p's scrubbing order. -/
def fwdEntry (p k : Nat) : Tab × Nat :=
  if k < 65536 then (.fdb p, k)
  else if k < 65792 then (.spill p, k - 65536)
  else if k < 66304 then (.rules p, k - 65792)
  else if k < 67328 then (.frer p, k - 66304)
  else (.mirror, (k - 67328) % 8)

/-- FWD_SCRUB_READ (R213): pipeline p's scrubber reads its next entry. `hit` names an entry of its order some of whose
bits have changed in the SRAM since the last command, and those bits. -/
def execFwdScrubRead (p : Nat) (hit : Option (Nat × List Nat)) (s : State) : Host.Outcome State Fault Refusal :=
  if 2 ≤ p then .next s
  else
    let s := match hit with
      | some (k, bits) => s.upset (fwdEntry p k).1 (fwdEntry p k).2 bits
      | none => s
    if !s.cinched ∨ s.fget (FWD_SCRUB_period p) = 0 then .next s
    else
      let v := s.pipe p
      let e := fwdEntry p v.scrub
      let last := if p = 0 then 67336 else 67328
      .next ((s.setPipe p { v with scrub := (v.scrub + 1) % last }).check e.1 e.2).1

/-- FWD_REPAIR_DONE (R212): the queued repair of entry k of pipeline p's order completes. -/
def execFwdRepairDone (p k : Nat) (s : State) : Host.Outcome State Fault Refusal :=
  if 2 ≤ p then .next s else .next (s.repairDone (fwdEntry p k).1 (fwdEntry p k).2)

/-! ### Table commands (R218, R222) -/

/-- The table that a command names, if pipeline p has it. -/
def cmdTable (p t : Nat) : Option Tab :=
  match t with
  | 0 => some (.fdb p)
  | 1 => some (.spill p)
  | 2 => some (.rules p)
  | 3 => some (.frer p)
  | 4 => if p = 0 then some .mirror else none
  | _ => none

/-- The bytes in FWD_TBL_DATA, n of them. -/
def State.tblData (s : State) (p n : Nat) : List Byte :=
  (List.range (n / 4)).flatMap fun i => leBytes 4 (s.reg (FWD_TBL_DATA p i)).toNat

/-- Entry i of a table into FWD_TBL_DATA; an entry of another owner reads 0 (R216). -/
def State.tblShow (s : State) (r : Requester) (p : Nat) (t : Tab) (i : Nat) : State :=
  (List.range (t.size / 4)).foldl (fun u w => u.setReg (FWD_TBL_DATA p w) (s.tabRead r t i w)) s

/-- A command runs to a status, shown when it ends. [DEDUCED, log entry 62] -/
def State.tblRuns (s : State) (p status : Nat) : State :=
  (s.fset (FWD_TBL_STATUS_busy p) 1).setPipe p { s.pipe p with command := some status }

/-- The key in FWD_TBL_DATA. -/
def State.tblKey (s : State) (p : Nat) : FdbKey :=
  { mac := getField (s.reg (FWD_TBL_DATA p 1)) 15 0 * 2 ^ 32 + (s.reg (FWD_TBL_DATA p 0)).toNat,
    vid := getField (s.reg (FWD_TBL_DATA p 1)) 27 16 }

/-- The entry is replaced as a whole by a command, or refused under R216. -/
def State.tblPut (s : State) (r : Requester) (p : Nat) (t : Tab) (i : Nat) (bs : List Byte) : State :=
  if s.entryBreach r t i 0 bs then (s.tabBreach r t (t.at i)).tblRuns p 0x2A
  else (s.entryStore r t i 0 bs false).tblRuns p 0

/-- What each command does (R218): opcode, table and index of the word written. -/
def State.tblDo (s : State) (r : Requester) (p op : Nat) (t : Tab) (i : Nat) : State :=
  match op with
  | 1 => if i < t.count then (s.tblShow r p t i).tblRuns p 0 else s.tblRuns p 0x17
  | 2 => if i < t.count then s.tblPut r p t i (s.tblData p t.size) else s.tblRuns p 0x17
  | 3 =>
    let bs := overlay (s.tblData p 16) 11 [byteAt (s.tblData p 16) 11 ||| 0x80]
    match s.fdbFind p (s.tblKey p) with
    | some n => s.tblPut r p (fdbPos p n).1 (fdbPos p n).2 bs
    | none =>
      match s.fdbFree p (s.tblKey p) with
      | some n => s.tblPut r p (fdbPos p n).1 (fdbPos p n).2 bs
      | none => s.tblRuns p 0x29
  | 4 =>
    match s.fdbFind p (s.tblKey p) with
    | none => s.tblRuns p 0x28
    | some n =>
      let e := fdbPos p n
      if s.isSealed (e.1.at e.2) || !s.mayUse r (s.tagOf e.1 e.2) then (s.tabBreach r e.1 (e.1.at e.2)).tblRuns p 0x2A
      else ((s.fdbRemove (e.1.at e.2)).setBad (e.1.at e.2) false).tblRuns p 0
  | _ =>
    match s.fdbFind p (s.tblKey p) with
    | none => s.tblRuns p 0x28
    | some n =>
      let e := fdbPos p n
      ((s.tblShow r p e.1 e.2).fsets [(FWD_TBL_RESULT_table p, if n < 65536 then 0 else 1), (FWD_TBL_RESULT_index p, e.2)]).tblRuns p 0

/-- The requester may use FWD_TBL_CMD (R218): the owner bound to PF0, the service port and Ostler firmware. -/
def State.tblMay (s : State) (r : Requester) : Bool :=
  (s.ownerOf r).isSome &&
    match r with
    | .svc | .ostler => true
    | .func _ => s.ownerOf r == s.boundOwner 0

/-- A write of FWD_TBL_CMD (R218). [DEDUCED, log entry 62] -/
def State.tblWrite (s : State) (r : Requester) (p : Nat) (v : Word) : State :=
  if !s.tblMay r then s.rejectWrite r 0 (FWD_TBL_CMD p / 4)
  else if s.isSet (FWD_TBL_STATUS_busy p) then s.fset (FWD_TBL_STATUS_status p) 0x10
  else
    let op := getField v 3 0
    match cmdTable p (getField v 27 25) with
    | some t => if op = 0 ∨ 5 < op ∨ (3 ≤ op ∧ 2 ≤ getField v 27 25) then s.tblRuns p 0x17 else s.tblDo r p op t (getField v 19 4)
    | none => s.tblRuns p 0x17

/-- TBL_READ (R218). -/
def execTblRead (r : Requester) (p : Nat) (v : Word) (s : State) : Host.Outcome State Fault Refusal :=
  if 2 ≤ p then .next s else .next (s.tblWrite r p (setField v 3 0 1))
/-- TBL_WRITE (R218). -/
def execTblWrite (r : Requester) (p : Nat) (v : Word) (s : State) : Host.Outcome State Fault Refusal :=
  if 2 ≤ p then .next s else .next (s.tblWrite r p (setField v 3 0 2))
/-- TBL_INSERT (R218). -/
def execTblInsert (r : Requester) (p : Nat) (v : Word) (s : State) : Host.Outcome State Fault Refusal :=
  if 2 ≤ p then .next s else .next (s.tblWrite r p (setField v 3 0 3))
/-- TBL_DELETE (R218). -/
def execTblDelete (r : Requester) (p : Nat) (v : Word) (s : State) : Host.Outcome State Fault Refusal :=
  if 2 ≤ p then .next s else .next (s.tblWrite r p (setField v 3 0 4))
/-- TBL_SEARCH (R218). -/
def execTblSearch (r : Requester) (p : Nat) (v : Word) (s : State) : Host.Outcome State Fault Refusal :=
  if 2 ≤ p then .next s else .next (s.tblWrite r p (setField v 3 0 5))

/-- TBL_CMD_COMPLETE (R222): the running command of pipeline p ends. -/
def execTblCmdComplete (p : Nat) (s : State) : Host.Outcome State Fault Refusal :=
  match (s.pipe p).command with
  | none => .next s
  | some st =>
    if 2 ≤ p then .next s
    else
      let s := s.setPipe p { s.pipe p with command := none }
      .next ((s.fsets [(FWD_TBL_STATUS_status p, st), (FWD_TBL_STATUS_done p, 1), (FWD_TBL_STATUS_busy p, 0)]).fwdRaise p 11)

end Sys2Proof.Machine
end

