-- ==== Sys2Proof/Machine/Macsec.lean ====
section
/-!
DEFINITION. The inline MACsec units (R360 to R367): security associations, the SecTAG, the checks of a received frame
and the protection of a transmitted one. Key slots are read here as the Tack Room shows them to a consumer (R371,
R384 to R386).
-/

namespace Sys2Proof.Machine

/-- A cipher counter counts (R381). -/
def State.cipCnt (s : State) (i : Nat) : State := s.countHalf (CIP_CNT i) ⟨CIP_CNT_HALF, i, i⟩ 1131 1

def noKey (_ : Nat) : Option KeySlot := none
def State.keySlot (s : State) (k : Nat) : Option KeySlot := look noKey s.keySlots k
def State.setKeySlot (s : State) (k : Nat) (v : Option KeySlot) : State := { s with keySlots := put noKey s.keySlots k v }

/-- Key slot k lies in the key range of owner o (R46, R385). [DEDUCED, log entry 102] -/
def State.keyInRange (s : State) (o k : Nat) : Bool :=
  let w := s.owner o
  o == 0 || (decide (w.keyFirst ≤ k) && decide (k < w.keyFirst + w.keyCount))

def State.setSaPn (s : State) (i pn : Nat) : State :=
  (s.eset (saAt i) SA_next_pn_lo (pn % 2 ^ 32)).eset (saAt i) SA_next_pn_hi (pn / 2 ^ 32)

/-- The key that an SA uses, unless it is treated as absent (R360): usage, length, range and presence, and an open
Tack Room. -/
def State.saKey (s : State) (i : Nat) : Option (List Byte) :=
  let a := saAt i
  let k := s.eget a SA_key
  if s.isSet KEY_STATUS_closed || !s.keyInRange (s.eget a SA_owner) k then none
  else
    match s.keySlot k with
    | none => none
    | some v =>
      let tx := s.eIs a SA_dir
      if v.usage == (if tx then 0 else 1) && v.len256 == (s.eget a SA_suite % 2 == 1) then some v.key else none

/-- SAs that hold anything, in index order, each checked for parity (a bad one is invalidated, R360). -/
def State.saScan (s : State) : State := (s.usedEntries .sa).foldl (fun t i => (t.check .sa i).1) s

/-- The SAs of a direction, port and AN that are valid, en and unlocked, lowest index first. -/
def State.saMatches (s : State) (tx : Bool) (port an : Nat) (sci : Option Nat) : List Nat :=
  (s.usedEntries .sa).filter fun i =>
    let a := saAt i
    s.eIs a SA_valid && s.eIs a SA_en && !s.eIs a SA_lock && s.eIs a SA_dir == tx && s.eget a SA_port == port &&
      s.eget a SA_an == an &&
      (match sci with
       | some v => s.eget a SA_sci_hi * 2 ^ 32 + s.eget a SA_sci_lo == v
       | none => true)

/-- The initialisation vector of a packet (IEEE 802.1AE-2018): SCI then PN, or the salted SSCI and PN for XPN. -/
def State.saIv (s : State) (i pn : Nat) : List Byte :=
  let a := saAt i
  if s.saXpn i then
    let salt := s.eget a SA_salt_hi * 2 ^ 64 + s.eget a SA_salt_mid * 2 ^ 32 + s.eget a SA_salt_lo
    beBytes 12 ((s.eget a SA_ssci * 2 ^ 64 + pn) ^^^ salt)
  else beBytes 4 (s.eget a SA_sci_hi) ++ beBytes 4 (s.eget a SA_sci_lo) ++ beBytes 4 (pn % 2 ^ 32)

/-! ### Receive (R362) -/

/-- The SecTAG of a frame: whether encrypted, its AN, its PN, its SCI and where the secure data starts. -/
structure SecTag where
  enc : Bool
  an : Nat
  pn : Nat
  sci : Option Nat
  data : Nat
deriving DecidableEq, Repr

def isSecured (bs : List Byte) : Bool := beAt bs 12 2 == 0x88E5

/-- [PRESUMED, log entry 94] -/
def secTag (bs : List Byte) : SecTag :=
  let tci := beAt bs 14 1
  let sc := bitOf tci 5
  { enc := bitOf tci 3, an := tci % 4, pn := beAt bs 16 4, sci := if sc then some (beAt bs 20 8) else none,
    data := if sc then 28 else 20 }

/-- The recovered PN: the 32 bits received, under the upper half that the XPN suites recover from next_pn.
[PRESUMED, log entry 94] -/
def State.recoverPn (s : State) (i pn : Nat) : Nat :=
  if s.saXpn i then
    let low := s.saPn i - s.eget (saAt i) SA_window
    let hi := low / 2 ^ 32
    if 2 ^ 31 ≤ low % 2 ^ 32 ∧ pn < 2 ^ 31 then (hi + 1) * 2 ^ 32 + pn else hi * 2 ^ 32 + pn
  else pn

/-- Steps 1 and 2 of R362 on port n: what the inline unit loads for a frame that passes them. -/
def State.secCheck (s : State) (n : Nat) (bs : List Byte) : State × Option RxSec :=
  let t := secTag bs
  let s := s.saScan
  let noSa := fun (s : State) => (((s.cipCnt 10).raise 1127), (none : Option RxSec))
  match (s.saMatches false n t.an t.sci).head? with
  | none => noSa s
  | some i =>
    match s.saKey i with
    | none => noSa (s.cipCnt 2)
    | some key =>
      let pn := s.recoverPn i t.pn
      let a := saAt i
      let old := s.eIs a SA_replay_en && decide (pn < s.saPn i - s.eget a SA_window)
      if old || pn == 0 then (((s.entCount a 13).cipCnt 9).raise 1126, none)
      else (s, some { sa := i, pn := pn, key := key, iv := s.saIv i pn })

/-- Bytes of secure data under a frame's key stream: the data of a frame that is not encrypted passes as it stands. -/
def streamed (enc : Bool) (key iv body : List Byte) : List Byte :=
  if enc then Config.aesCtr key (iv ++ beBytes 4 2) body else body

/-- The secure data of a whole protected frame, between its SecTAG and its ICV. -/
def secBody (bs : List Byte) : List Byte := (bs.drop (secTag bs).data).take (bs.length - (secTag bs).data - 16)

/-- The plaintext frame of a protected one: addresses, then the decrypted secure data without its ICV. -/
def RxSec.plain (x : RxSec) (bs : List Byte) : List Byte :=
  bs.take 12 ++ streamed (secTag bs).enc x.key x.iv (secBody bs)

/-- The plaintext of the bytes of a protected frame that CUT_THROUGH_PRESENT brings: fewer than 128 are the whole frame, whose
last 16 are its ICV (R166, R366). [PRESUMED, log entry 99] -/
def RxSec.start (x : RxSec) (bs : List Byte) : List Byte :=
  if bs.length < 128 then x.plain bs
  else bs.take 12 ++ streamed (secTag bs).enc x.key x.iv (bs.drop (secTag bs).data)

/-- The ICV verifies (step 3 of R362). -/
def RxSec.icvGood (x : RxSec) (bs : List Byte) : Bool :=
  let t := secTag bs
  let aad := if t.enc then bs.take t.data else bs.take t.data ++ secBody bs
  (Config.aesGcmOpen x.key x.iv aad (if t.enc then secBody bs else []) (bs.drop (bs.length - 16))).isSome

/-- A frame passes all three steps: counts, and next_pn moves on. `len` is its length of DA to FCS. -/
def State.secPass (s : State) (i pn len : Nat) : State :=
  let a := saAt i
  let s := (s.entCount a 10).setAperWord (a + 44) (word (min ((s.eget a SA_octets) + len) 0xFFFFFFFF))
  (s.setSaPn i (max (s.saPn i) (pn + 1))).cipCnt 7

/-- The ICV fails (step 3 of R362). -/
def State.secFail (s : State) (i : Nat) : State := (((s.entCount (saAt i) 12).cipCnt 8).raise 1124)

/-- R362 and R363 on a whole frame of port n: the frame that goes on to steering, and whether it came protected. -/
def State.secReceive (s : State) (n : Nat) (bs : List Byte) : State × Option (List Byte × Bool) :=
  if isSecured bs then
    let c := s.secCheck n bs
    match c.2 with
    | none => (c.1, none)
    | some x =>
      if x.icvGood bs then (c.1.secPass x.sa x.pn ((x.plain bs).length + 4), some (x.plain bs, true))
      else (c.1.secFail x.sa, none)
  else if s.isSet (EMAC_CFG_macsec_required n) && beAt bs 12 2 != 0x888E then (s.cipCnt 11, none)
  else (s, some (bs, false))

/-! ### Transmit (R364, R365) -/

/-- The PN space of an SA is used up, or PN_WARN is due (R365). -/
def State.saAdvance (s : State) (i : Nat) : State :=
  let pn := s.saPn i
  let s :=
    if s.saTop i ≤ pn then
      (({ s with pnSpent := put (fun _ => false) s.pnSpent i true }.eset (saAt i) SA_en 0).cipCnt 16).raise 1129
    else s.setSaPn i (pn + 1)
  if (s.reg CIP_CFG).toNat < s.saPnPart i ∧ !(look (fun _ => false) s.pnWarned i) then
    ({ s with pnWarned := put (fun _ => false) s.pnWarned i true }).raise 1128
  else s

/-- The SecTAG of a protected frame, which carries the SCI; its short length counts secure data of fewer than 48 bytes. -/
def TxSec.tag (x : TxSec) (bs : List Byte) : List Byte :=
  let n := (bs.drop 12).length
  beBytes 2 0x88E5 ++ beBytes 1 (0x20 + (if x.conf then 0x0C else 0) + x.an) ++ beBytes 1 (if n < 48 then n else 0) ++
    beBytes 4 (x.pn % 2 ^ 32) ++ x.sci

/-- The protected form of a whole frame, with its ICV. -/
def TxSec.seal (x : TxSec) (bs : List Byte) : List Byte :=
  let head := bs.take 12 ++ x.tag bs
  let body := bs.drop 12
  if x.conf then head ++ Config.aesGcmSeal x.key x.iv head body
  else head ++ body ++ Config.aesGcmSeal x.key x.iv (head ++ body) []

/-- The protected form of the bytes so far of a frame that ends before its ICV. -/
def TxSec.part (x : TxSec) (bs : List Byte) : List Byte := bs.take 12 ++ x.tag bs ++ streamed x.conf x.key x.iv (bs.drop 12)

/-- The key of transmit SA i, unless the SA is treated as absent or has used the last PN of its space (R360, R365).
[DEDUCED, log entry 158] -/
def State.txKey (s : State) (i : Nat) : Option (List Byte) :=
  if look (fun _ => false) s.pnSpent i && decide (s.saTop i ≤ s.saPn i) then none else s.saKey i

/-- The transmit SA of port n in force, with its key: the lowest that is not treated as absent (R364). A frame that meets one
treated as absent before it counts key_refused (R360). -/
def State.txSa (s : State) (n : Nat) : State × Option (Nat × List Byte) :=
  let s := s.saScan
  let l := s.saMatches true n (s.fget (CIP_PORT_CFG_tx_an n)) none
  let absent := (l.takeWhile fun i => (s.txKey i).isNone).any fun i => (s.saKey i).isNone
  (if absent then s.cipCnt 2 else s, l.findSome? fun i => (s.txKey i).map fun key => (i, key))

/-- What the inline unit loads for a frame of port n under transmit SA i, whose next PN it uses (R364, R389).
[DEDUCED, log entry 157] -/
def State.txLoad (s : State) (i : Nat) (key : List Byte) : State × TxSec :=
  let a := saAt i
  (s.saAdvance i, { sa := i, key := key, an := s.eget a SA_an, conf := s.eIs a SA_conf, iv := s.saIv i (s.saPn i),
                    sci := beBytes 4 (s.eget a SA_sci_hi) ++ beBytes 4 (s.eget a SA_sci_lo), pn := s.saPn i })

/-- A frame of `len` bytes, DA to FCS, has been protected under SA i (R360). -/
def State.txProtected (s : State) (i len : Nat) : State :=
  let a := saAt i
  ((s.entCount a 10).setAperWord (a + 44) (word (min (s.eget a SA_octets + len) 0xFFFFFFFF))).cipCnt 12

/-- A frame that port n begins to transmit meets the inline unit (R364): discarded (none), or sent under what the unit
loads, or unprotected. -/
def State.secBegin (s : State) (n : Nat) (bs : List Byte) : State × Option (Option TxSec) :=
  if beAt bs 12 2 == 0x888E then (s, some none)
  else
    let t := s.txSa n
    match t.2 with
    | some (i, key) => ((t.1.txLoad i key).1, some (some (t.1.txLoad i key).2))
    | none => if s.isSet (EMAC_CFG_macsec_required n) then (t.1.cipCnt 13, none) else (t.1, some none)

/-- Bytes that the inline unit adds to a frame of port n (R257, R361). EAPOL frames stay unprotected (R364). -/
def State.secOverhead (s : State) (n : Nat) (bs : List Byte) : Nat :=
  let sas := s.saMatches true n (s.fget (CIP_PORT_CFG_tx_an n)) none
  if beAt bs 12 2 != 0x888E && sas.any fun i => (s.txKey i).isSome then 32 else 0

end Sys2Proof.Machine
end

