-- ==== Sys2Proof/Machine/Ethernet.lean ====
section
/-!
DEFINITION. The Ethernet ports (R157 to R183): frame acceptance, steering and the receive FIFO, cut-through and the late
MACsec verdict, preemption, egress with its shaper, gates and Hobble budget, links, and the changes of gate lists.
-/

namespace Sys2Proof.Machine

/-! ### Counters and events (R178, R179) -/

/-- Counter i of port n counts k. -/
def State.emacCntN (s : State) (n i k : Nat) : State :=
  if k = 0 then s else s.countHalf (EMAC_CNT n i) (emacHalf n i) (579 + 16 * n) k
def State.emacCnt (s : State) (n i : Nat) : State := s.emacCntN n i 1
/-- Event k of port n. -/
def State.emacRaise (s : State) (n k : Nat) : State := s.raise (576 + 16 * n + k)

/-- The size counter of a frame of `len` bytes, counted from that of 64 bytes. -/
def sizeBin (len : Nat) : Nat :=
  if len ≤ 64 then 0 else if len ≤ 127 then 1 else if len ≤ 255 then 2 else if len ≤ 511 then 3
  else if len ≤ 1023 then 4 else if len ≤ 1518 then 5 else 6

def isBroadcast (bs : List Byte) : Bool := beAt bs 0 6 == 0xFFFFFFFFFFFF
def isGroupFrame (bs : List Byte) : Bool := beAt bs 0 1 % 2 == 1

/-- The unicast, multicast or broadcast counter of a frame, counted from the unicast one. -/
def castBin (bs : List Byte) : Nat := if isBroadcast bs then 2 else if isGroupFrame bs then 1 else 0

/-- The port's link is up, with power and its die link (R20, R25). -/
def State.portUp (s : State) (n : Nat) : Bool :=
  portPresent s.variant n && s.portPowered n && s.isSet (EMAC_STATUS_link_up n)

/-- The EtherType after every tag: S-tag, C-tag and R-tag (R161, R186). -/
def typeAfterTags (bs : List Byte) : Nat := beAt bs (tagsEnd [(0x88A8, 4), (0x8100, 4), (0xF1C1, 6)] bs 8 12) 2

/-- A MAC control frame (R160). -/
def isMacControl (bs : List Byte) : Bool := beAt bs 12 2 == 0x8808

/-! ### Steering (R161 to R163) -/

/-- Where the C-tag's control field stands, directly or after an S-tag. -/
def ctagAt (bs : List Byte) : Option Nat :=
  let o := if beAt bs 12 2 = 0x88A8 then 16 else 12
  if beAt bs o 2 = 0x8100 then some (o + 2) else none

/-- Steering rule i of port n matches a frame. -/
def State.steerMatches (s : State) (n i : Nat) (bs : List Byte) : Bool :=
  let stag := beAt bs 12 2 == 0x88A8
  let tci := (ctagAt bs).map fun o => beAt bs o 2
  let mask := s.fget (EMAC_STEER_vid_mask n i)
  let pcp := match tci with | some t => t / 8192 | none => s.fget (EMAC_CTRL_default_pcp n)
  s.isSet (EMAC_STEER_en n i) &&
    (match s.fget (EMAC_STEER_stag_mode n i) with
     | 0 => true
     | 1 => !stag
     | 2 => stag
     | _ => stag && beAt bs 14 2 % 4096 == s.fget (EMAC_STEER_svid n i)) &&
    (!s.isSet (EMAC_STEER_vid_cmp n i) ||
      match tci with | some t => t % 4096 &&& mask == s.fget (EMAC_STEER_vid n i) &&& mask | none => false) &&
    (!s.isSet (EMAC_STEER_pcp_cmp n i) || pcp == s.fget (EMAC_STEER_pcp n i)) &&
    (!s.isSet (EMAC_STEER_etype_cmp n i) || typeAfterTags bs == s.fget (EMAC_STEER_etype n i))

/-- The pipeline that serves port n (R29). -/
def portPipe (n : Nat) : Nat := if n < 8 then 0 else 1

/-- The receive queue of a frame: that of the first rule that matches, else the default class (R162). -/
def State.ethSteer (s : State) (n : Nat) (bs : List Byte) : State × Nat :=
  match (List.range 64).find? fun i => s.steerMatches n i bs with
  | some i => (s, s.fget (EMAC_STEER_queue n i))
  | none =>
    let pcp := match ctagAt bs with | some o => beAt bs o 2 / 8192 | none => s.fget (EMAC_CTRL_default_pcp n)
    (s.emacCnt n 60, look (fun _ => 0) s.defaultClass (8 * portPipe n + pcp))

/-- A write of a steering word 1 or 2 is held (R163). -/
def State.steerHold (s : State) (addr : Nat) (v : Word) : State :=
  { s with steerHeld := put (fun _ => (0 : Word)) s.steerHeld addr v }

/-- A write of steering word 0 commits the rule (R163). -/
def State.steerCommit (s : State) (n i : Nat) (v : Word) : State :=
  let a := EMAC_STEER n i
  let held := fun (x : Nat) => look (fun _ => (0 : Word)) s.steerHeld x
  ((s.setReg (a + 4) (held (a + 4))).setReg (a + 8) (held (a + 8))).setReg a (v &&& 0x87FFFFFF)

/-- A word that writes hold until another word commits it: words 1 and 2 of a steering rule and word 0 of an endpoint's address entry
(R163, R170). -/
def heldAddr (a : Nat) : Bool :=
  let n := (a - EMAC_CFG 0) / 0x1000
  (a / 0x10000 == 0x14 && decide (EMAC_STEER n 0 ≤ a) && decide (a < EMAC_STEER n 64) && (a % 16 == 4 || a % 16 == 8)) ||
    (decide (HST_EP_ADDR 0 0 ≤ a) && decide (a < 0x4E300) && decide (0x80 ≤ a % 0x100) && a % 8 == 0)

/-- A register as software sees it: of a held word, the value last written (R163). [DEDUCED, log entry 48] -/
def State.regLast (s : State) (a : Nat) : Word := if heldAddr a then look (fun _ => (0 : Word)) s.steerHeld a else s.reg a

/-- A write to port n's window: R9 for an absent port, R183 for the owner. [DESIGN CHOICE, log entry 137] -/
def State.macWrite (s : State) (r : Requester) (n addr : Nat) (f : State → State) : State :=
  if !portPresent s.variant n then s.absentWrite else s.ownedWrite r (s.portOwnerOf n) addr f

/-- STEERING_RULE_COMMIT (R163): a write of word 0 of rule i of port n. -/
def execSteeringRuleCommit (r : Requester) (n i : Nat) (v : Word) (s : State) : Host.Outcome State Fault Refusal :=
  if 16 ≤ n ∨ 64 ≤ i then .next s
  else .next (s.macWrite r n (EMAC_STEER n i) fun s => s.steerCommit n i v)

/-! ### The receive FIFO (R165) -/

def noRx (_ : Nat) : List (Frame × Bool) := []
def State.rxQ (s : State) (n q : Nat) : List (Frame × Bool) := look noRx s.rxQueues (8 * n + q)

/-- Bytes of the reserve, or of the shared space, that a queue's frames use. [DEDUCED, log entry 46] -/
def rxUse (l : List (Frame × Bool)) (shared : Bool) : Nat :=
  l.foldl (fun v x => if x.2 = shared then v + x.1.len else v) 0

/-- A steered frame enters its receive queue, or is dropped; one under cut-through with the bytes that have been received.
[DEDUCED, log entry 46] -/
def State.ethRxStore (s : State) (n q : Nat) (f : Frame) : State :=
  let l := s.rxQ n q
  let shared := (List.range 8).foldl (fun v k => v + rxUse (s.rxQ n k) true) 0
  let add := fun (b : Bool) => { s with rxQueues := put noRx s.rxQueues (8 * n + q) (l ++ [(f, b)]) }
  if rxUse l false + f.len ≤ 2048 then add false
  else if shared + f.len ≤ 16384 then add true
  else (s.emacCnt n (11 + q)).emacRaise n 4

/-! ### gPTP timestamps (R349, R350) -/

/-- A MAC takes a timestamp of a recognised message on port n, `age` ns ago. [DEDUCED, log entry 53] -/
def State.ptpTake (s : State) (n : Nat) (tx : Bool) (bs : List Byte) (age : Nat) : State :=
  if !isPtpEvent bs || isSecured bs then s
  else
    let l := s.ptpFifo n tx
    if 16 ≤ l.length then (s.emacCnt n 58).emacRaise n 10
    else (s.setPtp n tx (l ++ [s.ptpStampOf bs age])).emacCnt n (if tx then 57 else 56)

/-! ### Frame acceptance (R160) -/

/-- The counter and, for an oversize frame, the further event of a frame that R160 discards.
[DEDUCED, log entry 45] -/
def State.rxFault (s : State) (n : Nat) (bs : List Byte) (info : RxInfo) : Option Nat :=
  if !info.fcsOk then some 5
  else if info.phyErr then some 6
  else if bs.length + 4 < 64 then some 7
  else if s.fget (EMAC_CFG_max_len n) < bs.length + 4 then some 8
  else if isMacControl bs then some 10
  else none

/-- The counters that a MAC reports with a frame. -/
def State.rxReport (s : State) (n : Nat) (i : RxInfo) : State :=
  ((((s.emacCntN n 27 i.fragments).emacCntN n 28 i.smdErr).emacCntN n 29 i.assemblyErr).emacCntN n 30 i.assemblyOk).emacCntN n 62 i.pcsErr

/-- A frame discarded under R160, which may be above max_len whichever counter it takes (R179). -/
def State.rxDiscard (s : State) (n k : Nat) (long : Bool) : State :=
  let s := (s.emacCnt n k).emacRaise n 5
  if long then s.emacRaise n 15 else s

/-- The counters of an accepted frame. -/
def State.rxCount (s : State) (n : Nat) (bs : List Byte) : State :=
  let len := bs.length + 4
  let tagged := ctagged bs || beAt bs 12 2 == 0x88A8
  let s := ((s.emacCntN n 0 len).emacCnt n 1).emacCnt n (2 + castBin bs)
  (if tagged then s.emacCnt n 19 else s).emacCnt n (20 + sizeBin len)

/-- A consent-ring message on a ring port is also delivered to logical port 83, queue 0 (R432). -/
def State.ringArrives (s : State) (n : Nat) (bs : List Byte) : State :=
  if s.ringEn && bitOf (s.plan 0x2E 2) n && beAt bs 12 2 == s.plan 0x28 2 && bs.take 6 == slice s.wakePlan 0x30 6 then
    s.toOstler 0 bs
  else s

/-- An accepted, unsecured frame of port n goes into the fabric: timestamped, steered and queued.
[DEDUCED, log entry 45] -/
def State.rxAccept (s : State) (n : Nat) (bs : List Byte) (secured : Bool) (rx0 : Nat) : State :=
  let s := s.ringArrives n bs
  let t := s.ethSteer n bs
  t.1.ethRxStore n t.2 { bytes := bs, src := n, owner := t.1.portOwnerOf n, cls := t.2, secured := secured, rx0 := rx0 }

/-- The frame that arrives on port n under cut-through leaves its receive queue, if pipeline A has not taken it yet: the frame and
its queue. -/
def State.rxCutTake (s : State) (n : Nat) : State × Option (Nat × Frame) :=
  let there := (List.range 8).findSome? fun q => ((s.rxQ n q).find? fun x => arrivesOn n x.1).map fun x => (q, x.1)
  match there with
  | some (q, f) =>
    ({ s with rxQueues := put noRx s.rxQueues (8 * n + q) ((s.rxQ n q).filter fun x => !arrivesOn n x.1) }, some (q, f))
  | none => (s, none)

/-- Nothing arrives on port n under cut-through any more. -/
def State.cutClear (s : State) (n : Nat) : State :=
  s.setEth n { s.eth n with cutPrefix := none, late := none, lateBytes := [], lateGone := false, cutLearn := none }

/-- The frame that arrives on port n under cut-through is discarded, wherever it stands, and so is what pipeline A would have
learnt. [DEDUCED, log entry 47] -/
def State.cutGone (s : State) (n : Nat) : State :=
  let s := (s.rxCutTake n).1.cutFails n
  s.setEth n { s.eth n with cutLearn := none }

/-- The cut-through frame of port n ends badly. [DEDUCED, log entry 47] -/
def State.cutBad (s : State) (n : Nat) : State := (s.cutGone n).cutClear n

/-- The cut-through frame of port n ends well, `k` bytes of it presented and `plain` the whole. One that still waits in its receive
queue takes the place of a whole frame, or is dropped (R165). Pipeline A learns from one that it has seen (R197).
[DEDUCED, log entry 155] -/
def State.cutGood (s : State) (n k : Nat) (plain : List Byte) : State :=
  let s := s.ringArrives n plain
  let t := s.rxCutTake n
  let s := match t.2 with
    | some (q, f) => t.1.ethRxStore n q { f with bytes := plain, cut := false }
    | none => t.1.cutEnds n k plain
  let q := (s.eth n).cutLearn
  let s := s.cutClear n
  match q with
  | some l => s.learnQueue 0 l
  | none => s

/-- The end of a frame that has passed R160 and the owner check: a presented one gets the rest of its bytes, or waits for its ICV
verdict, unless a tamper has discarded it (R377); any other is checked by MACsec (R362, R363) and steered. -/
def State.rxEnd (s : State) (n : Nat) (bs : List Byte) (rx0 : Nat) : State :=
  match (s.eth n).cutPrefix with
  | some k =>
    if (s.eth n).lateGone then s.cutClear n
    else if (s.eth n).late.isSome then s.setEth n { s.eth n with lateBytes := bs }
    else s.cutGood n k bs
  | none =>
    let r := s.secReceive n bs
    match r.2 with
    | none => r.1
    | some (plain, secured) => r.1.rxAccept n plain secured rx0

/-- Bits of an SA entry that have changed in the SRAM since the last frame (R360). -/
def State.saUpset (s : State) (u : Option (Nat × List Nat)) : State :=
  match u with
  | some (i, bits) => if i < 1024 then s.upset .sa i bits else s
  | none => s

/-- ETH_FRAME_RECEIVED (R160 to R167, R349, R362, R363, R432): a frame of destination address to last data byte ends on
port n; its first bit after the delimiter was at the pins `age` ns ago. -/
def execEthFrameReceived (n : Nat) (bs : List Byte) (info : RxInfo) (age : Nat) (s : State) :
    Host.Outcome State Fault Refusal :=
  let s := s.saUpset info.saUpset
  if !s.portUp n then .next s
  else
    let s := s.rxReport n info
    let presented := (s.eth n).cutPrefix.isSome
    match s.rxFault n bs info with
    | some k =>
      let s := s.rxDiscard n k (decide (s.fget (EMAC_CFG_max_len n) < bs.length + 4))
      .next (if presented then s.cutBad n else s)
    | none =>
      let s := s.rxCount n bs
      if !s.ownerActive (s.portOwnerOf n) then
        let s := (s.emacCnt n 59).emacRaise n 11
        .next (if presented then s.cutBad n else s)
      else
        let s := s.ptpTake n false bs age
        .next (s.rxEnd n bs (s.timeNs 0 - age))

/-- RX_JABBER (R160): a frame is still arriving after 2 × max_len byte times. -/
def execRxJabber (n : Nat) (s : State) : Host.Outcome State Fault Refusal :=
  if !s.portUp n then .next s
  else
    let s := s.rxDiscard n 9 true
    .next (if (s.eth n).cutPrefix.isSome then s.cutBad n else s)

/-! ### Cut-through (R166, R366, R367) -/

/-- The frame that port n presents to pipeline A from its first bytes, with what the inline unit loads for a protected one. A frame
that fails steps 1 and 2 of R362 is not presented; its end finds the failure again. -/
def State.cutPlain (s : State) (n : Nat) (bs : List Byte) : Option (List Byte × Option RxSec) :=
  if isMacControl bs then none
  else if isSecured bs then (s.secCheck n bs).2.map fun x => (x.start bs, some x)
  else if s.isSet (EMAC_CFG_macsec_required n) && beAt bs 12 2 != 0x888E then none
  else some (bs, none)

/-- CUT_THROUGH_PRESENT (R166): the first 128 bytes of a frame, or a shorter frame, have been received on port n. The frame goes to
pipeline A through its receive queue (R164, R165). [DEDUCED, log entry 155] -/
def execCutThroughPresent (n : Nat) (bs : List Byte) (s : State) : Host.Outcome State Fault Refusal :=
  if 4 ≤ n || !s.portUp n || !s.isSet (EMAC_CFG_cut_through n) || (s.eth n).cutPrefix.isSome ||
      !s.ownerActive (s.portOwnerOf n) then .next s
  else
    match s.cutPlain n bs with
    | none => .next s
    | some (plain, sa) =>
      let s := s.setEth n { s.eth n with cutPrefix := some plain.length, late := sa }
      let t := (s.emacCnt n 31).ethSteer n plain
      .next (t.1.ethRxStore n t.2
        { bytes := plain, src := n, owner := t.1.portOwnerOf n, cls := t.2, secured := sa.isSome, cut := true,
          rx0 := t.1.timeNs 0 })

/-- A copy of the frame that arrives on port n is on some line (R367). -/
def State.cutStarted (s : State) (n : Nat) : Bool :=
  s.eths.any fun e => [e.2.tx, e.2.pre].any fun y => y.any fun x => arrivesOn n x.1

/-- MACSEC_ICV_VERDICT (R367): the ICV verdict of the protected frame presented on port n, whose end has arrived. -/
def execMacsecIcvVerdict (n : Nat) (s : State) : Host.Outcome State Fault Refusal :=
  let e := s.eth n
  match e.late, e.cutPrefix with
  | some x, some k =>
    if e.lateBytes.isEmpty then .next s
    else if x.icvGood e.lateBytes then
      let plain := x.plain e.lateBytes
      .next ((s.secPass x.sa x.pn (plain.length + 4)).cutGood n k plain)
    else
      let started := s.cutStarted n
      let s := s.secFail x.sa
      let s := if started then (s.cipCnt 15).raise 1125 else s
      .next (s.cutBad n)
  | _, _ => .next s

/-! ### Preemption (R171 to R173) -/

/-- Class c of port n is sent by the express MAC. -/
def State.express (s : State) (n c : Nat) : Bool :=
  !s.isSet (EMAC_STATUS_preempt_active n) || !bitOf (s.fget (EMAC_PREEMPT_CTRL_preemptable n)) c

/-- preempt_active takes a value; a change raises PREEMPT_STATUS. -/
def State.setPreempt (s : State) (n v : Nat) : State :=
  if s.fget (EMAC_STATUS_preempt_active n) = v then s else (s.fset (EMAC_STATUS_preempt_active n) v).emacRaise n 7

/-- PREEMPT_VERIFY_DONE (R171). -/
def execPreemptVerifyDone (n : Nat) (s : State) : Host.Outcome State Fault Refusal :=
  if !s.portUp n || !(s.eth n).verifying then .next s
  else .next ((s.setEth n { s.eth n with verifying := false }).setPreempt n 1)

/-- PREEMPT_VERIFY_TIMEOUT (R171): an attempt fails; after the third, verification fails. -/
def execPreemptVerifyTimeout (n : Nat) (s : State) : Host.Outcome State Fault Refusal :=
  let e := s.eth n
  if !s.portUp n || !e.verifying then .next s
  else
    let s := s.emacCnt n 43
    if e.attempts + 1 < 3 then .next (s.setEth n { e with attempts := e.attempts + 1 })
    else .next ((s.setEth n { e with attempts := 3, verifying := false }).emacRaise n 7)

/-- Verification starts afresh on a port with the preemption flag. [DEDUCED, log entry 49] -/
def State.verifyStart (s : State) (n : Nat) : State :=
  (s.setPreempt n 0).setEth n { s.eth n with verifying := s.isSet (EMAC_CFG_preemption n), attempts := 0 }

/-- Bytes on the wire of a stretch of a frame, with preamble and gap, are charged to the port (R485). -/
def State.chargeWire (s : State) (n len : Nat) : State := s.charge n (8 + len + 12)

/-- Bytes that a frame takes on the line, with its SecTAG and ICV (R361). -/
def lineLen (f : Frame) : Nat := f.len + (if f.sec.isSome then 32 else 0)

/-- The preemptable frame on the line, of whose present fragment `sent` bytes have gone, may be cut now (R172). -/
def cutAllowed (e : Eth) (sent : Nat) : Bool :=
  match e.pre with
  | some y => !e.preCut && decide (60 ≤ sent) && decide (64 + e.preSent + sent ≤ lineLen y.1)
  | none => false

/-- The preemptable frame is cut: its fragment ends with an mCRC. -/
def State.preCutNow (s : State) (n sent : Nat) : State :=
  let s := s.creditUpdate n
  let e := s.eth n
  let s := if e.fragments = 0 then s.emacCnt n 40 else s
  let s := s.setEth n { e with preCut := true, preSent := e.preSent + sent, fragments := e.fragments + 1 }
  s.chargeWire n (sent + 4)

/-- While a hold is in force the preemptable MAC cuts the frame in progress, `sent` bytes of whose fragment have gone, as soon as R172
allows (R173). -/
def State.holdCut (s : State) (n sent : Nat) : State :=
  if (s.gate n).hold && cutAllowed (s.eth n) sent then s.preCutNow n sent else s

/-- GATE_HOLD_APPLY (R173): hold_adv before a hold operation, the preemptable MAC starts no frame and cuts the frame in
progress at its next allowed point. -/
def execGateHoldApply (n sent : Nat) (s : State) : Host.Outcome State Fault Refusal :=
  if !s.portUp n || !s.isSet (EMAC_STATUS_preempt_active n) || !s.isSet (STM_GCL_CTRL_enable n) then .next s
  else
    .next (((s.setGate n { s.gate n with hold := true }).emacCnt n 42).holdCut n sent)

/-! ### Egress (R174, R254 to R257) -/

/-- The length that a frame counts with: a frame still arriving under cut-through counts max_len. -/
def State.wireLen (s : State) (f : Frame) : Nat := if f.cut then s.fget (EMAC_CFG_max_len f.src) else f.len

/-- The transmit time of a frame of port n is at most t ns. -/
def State.fitsIn (s : State) (n : Nat) (f : Frame) (t : Nat) : Bool :=
  decide ((8 + s.wireLen f + 12 + s.secOverhead n f.bytes) * 8000 ≤ t * s.portSpeed n)

/-- Head frames of class c that can never fit are discarded and counted (R257). -/
def State.dropTooLong (s : State) (n c : Nat) : State :=
  match ((s.gate n).longest.getD c none) with
  | none => s
  | some t =>
    let l := s.egressQ (8 * n + c)
    let keep := l.dropWhile fun f => !s.fitsIn n f t
    let s := Nat.repeat (fun (u : State) => u.stmCnt 13) (l.length - keep.length) s
    if keep.length = l.length then s else s.requeue (8 * n + c) keep true

/-- The head of class c may be picked (R254). [DEDUCED, log entry 49] -/
def State.mayPick (s : State) (n c : Nat) : Bool :=
  match s.egressQ (8 * n + c) with
  | [] => false
  | f :: _ =>
    bitOf (s.gate n).gates c &&
      (match s.openLeft n c with | some t => s.fitsIn n f t | none => true) &&
      (!s.isSet (STM_CBS_SLOPE_en n c) || decide (0 ≤ s.cbsAt n c)) &&
      (s.express n c || ((s.eth n).pre.isNone && !(s.gate n).hold))

/-- The class that the MAC of port n picks. -/
def State.picked (s : State) (n : Nat) : Option Nat := (List.range 8).reverse.find? fun c => s.mayPick n c

/-- The picked frame of class c waits for the Hobble budget; each hold is counted once, and ends those of lower classes, which the
frame displaces (R174). [DEDUCED, log entry 165] -/
def State.budgetHolds (s : State) (n c : Nat) : State :=
  let l := (s.eth n).budgetCls.filter (c ≤ ·)
  if l.contains c then s.setEth n { s.eth n with budgetCls := l }
  else ((s.setEth n { s.eth n with budgetCls := l ++ [c] }).emacCnt n 38).emacRaise n 12

/-- The head frame of class c starts on port n's line, under the transmit SA in force (R364), or is discarded for want of one. A
frame sent protected is no gPTP message (R349). -/
def State.startFrame (s : State) (n c : Nat) : State :=
  match s.egressQ (8 * n + c) with
  | [] => s
  | f :: rest =>
    let e := s.eth n
    let s := (s.setEgressQ (8 * n + c) rest).setEth n { e with budgetCls := e.budgetCls.filter (c < ·) }
    let p := s.secBegin n f.bytes
    match p.2 with
    | none => p.1.creditUpdate n
    | some x =>
      let g := { f with sec := x }
      let s := if f.cut && f.secured then p.1.cipCnt 14 else p.1
      let s := if x.isSome then s else s.ptpTake n true f.bytes 0
      if s.express n c then s.setEth n { s.eth n with tx := some (g, c) }
      else s.setEth n { s.eth n with pre := some (g, c), preSent := 0, preCut := false, fragments := 0 }

/-- A cut frame goes on with its next fragment. [PRESUMED, log entry 50] -/
def State.resume (s : State) (n : Nat) : State :=
  let e := s.eth n
  if e.pre.isSome && e.preCut && !(s.gate n).hold then (s.setEth n { e with preCut := false }).emacCnt n 41 else s

/-- EGRESS_FRAME_START (R254, R172 to R174): the MAC of port n starts the frame it picks. `sent` bytes of the present
fragment of a preemptable frame on the line have gone; a hold or an express frame cuts it where R172 allows. -/
def execEgressFrameStart (n sent : Nat) (s : State) : Host.Outcome State Fault Refusal :=
  if !s.portUp n || (s.eth n).tx.isSome then .next s
  else
    let s := (s.holdCut n sent).creditUpdate n
    let s := (List.range 8).foldl (fun (u : State) c => u.dropTooLong n c) s
    let e := s.eth n
    let busy := e.pre.isSome && !e.preCut
    match s.picked n with
    | none => .next (if busy then s else s.resume n)
    | some c =>
      if s.budgetOut n then .next (s.budgetHolds n c)
      else if busy then
        .next (if cutAllowed e sent then (s.preCutNow n sent).startFrame n c else s)
      else .next (s.startFrame n c)

/-- The frame on the line of port n, and whether it is the preemptable one. -/
def onWire (e : Eth) : Option (Frame × Bool) :=
  match e.tx with
  | some y => some (y.1, false)
  | none => if e.preCut then none else e.pre.map fun y => (y.1, true)

/-- The counters of a transmitted frame. [PRESUMED, log entry 50] -/
def State.txCount (s : State) (n : Nat) (bs : List Byte) : State :=
  let len := bs.length + 4
  (((s.emacCntN n 32 len).emacCnt n 33).emacCnt n (34 + castBin bs)).emacCnt n (44 + sizeBin len)

/-- The bytes of a frame on the line at its end: a protected one with its SecTAG, and with its ICV unless it ends badly (R361,
R364). [DEDUCED, log entry 157] -/
def lineBytes (f : Frame) : List Byte :=
  match f.sec with
  | some x => if f.bad then x.part f.bytes else x.seal f.bytes
  | none => f.bytes

/-- A frame protected under its SA ends well (R360, R364). -/
def State.sealCount (s : State) (f : Frame) : State :=
  match f.sec with
  | some x => if f.bad then s else s.txProtected x.sa f.len
  | none => s

/-- EGRESS_FRAME_END (R485, R167): the frame on port n's line ends, with an inverted FCS if it has turned out bad, and
the Hobble credit is charged. A frame whose last byte has not arrived does not end. -/
def execEgressFrameEnd (n : Nat) (s : State) : Host.Outcome State Fault Refusal :=
  let s1 := s.creditUpdate n
  match onWire (s.eth n) with
  | none => .next s
  | some (f, isPre) =>
    if f.cut then .next s
    else
      let bs := lineBytes f
      let s := s1.sealCount f
      let sent := if isPre then (s.eth n).preSent else 0
      let s := if f.bad then (s.emacCnt n 39).emacRaise n 6 else s.txCount n bs
      let s := (s.emit (.portFrame n bs f.bad)).chargeWire n (bs.length + 4 - sent)
      let e := s.eth n
      let s := if isPre then s.setEth n { e with pre := none, preSent := 0, fragments := 0 } else s.setEth n { e with tx := none }
      .next (s.creditUpdate n)

/-! ### Links (R158, R175 to R177, R351) -/

/-- Dynamic, unlocked FDB entries of pipeline p whose port is En (R176). -/
def State.fdbOfPort (s : State) (p n : Nat) : List Nat :=
  let pick := fun (t : Tab) => ((s.usedEntries t).map t.at).filter fun a =>
    s.eIs a FDB_valid && !s.eIs a FDB_static && !s.eIs a FDB_lock && !s.eIs a FDB_group && s.eget a FDB_dest == n
  pick (.fdb p) ++ pick (.spill p)

/-- Step 1 of R176. -/
def State.fdbFlush (s : State) (n : Nat) : State :=
  let l := s.fdbOfPort 0 n ++ s.fdbOfPort 1 n
  (l.foldl (fun (u : State) a => (u.fdbRemove a).setBad a false) s).emacCntN n 53 l.length

/-- Step 2 of R176: receive SAs of En are disabled. -/
def State.rxSaOff (s : State) (n : Nat) : State :=
  (s.usedEntries .sa).foldl (fun (u : State) i =>
    let a := saAt i
    if u.eIs a SA_valid && !u.eIs a SA_dir && u.eget a SA_port == n then u.eset a SA_en 0 else u) s

/-- Step 3 of R176 (R351). -/
def State.ptpReset (s : State) (n : Nat) : State :=
  ((s.fset (TMB_PTP_PORT_as_capable n) 0).setPtp n false []).setPtp n true []

/-- The frames on the line and those delivered for the port are discarded and counted (R175).
[DEDUCED, log entry 51] -/
def State.egressDrain (s : State) (n : Nat) : State :=
  let s := s.creditUpdate n
  let e := s.eth n
  let waiting := (List.range 8).foldl (fun v c => v + (s.egressQ (8 * n + c)).length) 0
  let s := s.emacCntN n 37 (b2n e.tx.isSome + b2n e.pre.isSome + waiting)
  let s := s.setEth n { e with tx := none, pre := none, preSent := 0, preCut := false, fragments := 0, budgetCls := [] }
  let s := (List.range 8).foldl (fun (u : State) c => u.setEgressQ (8 * n + c) []) s
  s.creditUpdate n

/-- The link of port n goes down (R176); `arriving` says that a frame was being received. [DEDUCED, log entry 51] -/
def State.linkDown (s : State) (n : Nat) (arriving : Bool) : State :=
  if !s.isSet (EMAC_STATUS_link_up n) then s
  else
    let s := s.fsets [(EMAC_STATUS_link_up n, 0), (EMAC_PHY_STATUS_speed n, 0)]
    let s := (s.emacCnt n 51).emacRaise n 1
    let cutIn := (s.eth n).cutPrefix.isSome
    let s := if arriving || cutIn then s.rxDiscard n 6 false else s
    let s := if cutIn then s.cutBad n else s
    let s := s.egressDrain n
    let s := ((s.fdbFlush n).rxSaOff n).ptpReset n
    (s.setGate n { s.gate n with hold := false }).verifyStart n

/-- The device takes down the link of port n, if it is up, and the PHY does not train. Whether a frame was arriving no command says:
a free value (R160). [DESIGN CHOICE, log entry 151] -/
def State.linkDrop (s : State) (n : Nat) : State :=
  let s := if s.isSet (EMAC_STATUS_link_up n) then (s.drew 1).linkDown n (bitOf s.free 0) else s
  s.fset (EMAC_PHY_STATUS_training n) 0

/-- LINK_DOWN (R176). -/
def execLinkDown (n : Nat) (arriving : Bool) (s : State) : Host.Outcome State Fault Refusal :=
  if !s.portUp n then .next s
  else .next ((s.linkDown n arriving).fset (EMAC_PHY_STATUS_training n) (b2n (s.isSet (EMAC_CTRL_enable n))))

/-- The PHY of port n starts training in its role (R86, R177); until the cinch it is silent (R27). -/
def State.trainStart (s : State) (n : Nat) : State :=
  if !s.cinched then s
  else s.fsets [(EMAC_PHY_STATUS_training n, 1), (EMAC_PHY_STATUS_role n, s.fget (EMAC_CFG_phy_master n))]

/-- LINK_UP (R158, R176): the PHY of an enabled port reports link with the local receiver OK, from the cinch on (R27). -/
def execLinkUp (n : Nat) (s : State) : Host.Outcome State Fault Refusal :=
  if !portPresent s.variant n || !s.cinched || !s.portPowered n || !s.isSet (EMAC_CTRL_enable n) || (s.link n).down ||
      s.isSet (EMAC_STATUS_link_up n) || (s.eth n).hot then .next s
  else
    let again := (s.eth n).linked
    let s := s.fsets [(EMAC_STATUS_link_up n, 1), (EMAC_PHY_STATUS_speed n, s.fget (EMAC_CFG_speed n)),
      (EMAC_PHY_STATUS_training n, 0)]
    let s := (s.setEth n { s.eth n with linked := true }).emacRaise n 0
    let s := if again then ((s.fset (EMAC_STATUS_relinked n) 1).emacCnt n 52).emacRaise n 2 else s
    .next (s.verifyStart n)

/-- TRAINING_FAIL (R158): training has not reached link-up in time, and restarts. -/
def execTrainingFail (n : Nat) (s : State) : Host.Outcome State Fault Refusal :=
  if !portPresent s.variant n || !s.portPowered n || !s.isSet (EMAC_PHY_STATUS_training n) then .next s
  else .next ((s.emacCnt n 55).emacRaise n 9)

/-- SQI_LOW (R158): the signal quality index becomes `sqi`; falling below sqi_min it is counted and raised.
[DEDUCED, log entry 54] -/
def execSqiLow (n sqi : Nat) (s : State) : Host.Outcome State Fault Refusal :=
  if !portPresent s.variant n || !s.portPowered n then .next s
  else
    let was := s.fget (EMAC_PHY_STATUS_sqi n)
    let min_ := s.fget (EMAC_PHY_CTRL_sqi_min n)
    let s := s.fset (EMAC_PHY_STATUS_sqi n) (sqi % 8)
    .next (if sqi % 8 < min_ ∧ min_ ≤ was then (s.emacCnt n 54).emacRaise n 8 else s)

/-- PHY_THERMAL (R179): the PHY shuts down at 170 °C, or restarts below 150 °C. -/
def execPhyThermal (n : Nat) (shut : Bool) (s : State) : Host.Outcome State Fault Refusal :=
  if !portPresent s.variant n || !s.portPowered n || (s.eth n).hot == shut then .next s
  else if shut then
    let s := ((s.emacCnt n 63).emacRaise n 14).linkDrop n
    .next (s.setEth n { s.eth n with hot := true })
  else
    let s := s.setEth n { s.eth n with hot := false }
    .next (if s.isSet (EMAC_CTRL_enable n) then s.trainStart n else s)

/-- EMAC_CTRL.enable takes a value (R177). -/
def State.portEnable (s : State) (n : Nat) (on : Bool) : State :=
  if s.isSet (EMAC_CTRL_enable n) == on then s
  else if on then
    let s := s.fset (EMAC_CTRL_enable n) 1
    if s.portPowered n && !(s.eth n).hot then s.trainStart n else s
  else (s.fset (EMAC_CTRL_enable n) 0).linkDrop n

/-- PORT_DISABLE (R177). -/
def execPortDisable (r : Requester) (n : Nat) (s : State) : Host.Outcome State Fault Refusal :=
  if 16 ≤ n then .next s else .next (s.macWrite r n (EMAC_CTRL n) fun s => s.portEnable n false)

/-- PORT_ENABLE (R177). -/
def execPortEnable (r : Requester) (n : Nat) (s : State) : Host.Outcome State Fault Refusal :=
  if 16 ≤ n then .next s else .next (s.macWrite r n (EMAC_CTRL n) fun s => s.portEnable n true)

/-! ### Gate lists (R256 to R259, R266) -/

/-- The table and index of a gate-list entry's address. -/
def gateTab (a : Nat) : Option (Tab × Nat) := tabAt a

/-- GATE_LIST_ENTRY (R256, R257, R266): an entry of the list in force of port n begins. A release operation ends a hold;
an entry bad in parity is found and opens every gate. -/
def execGateListEntry (n : Nat) (s : State) : Host.Outcome State Fault Refusal :=
  if !portPresent s.variant n || !s.isSet (STM_GCL_CTRL_enable n) then .next s
  else
    match s.gateEntryNow n with
    | none => .next (s.gateBegin n)
    | some (_, a) =>
      let s := match gateTab a with | some (t, i) => (s.check t i).1 | none => s
      let s := s.gateBegin n
      let release := !s.isBad a && s.eget a GATE_op == 2 && s.isSet (EMAC_STATUS_preempt_active n)
      .next (if release then s.setGate n { s.gate n with hold := false } else s)

/-- The admin values of port n pass the checks of R258. -/
def State.adminGood (s : State) (n : Nat) : Bool :=
  let start := s.fget (STM_GCL_ADMIN_start n)
  let len := s.fget (STM_GCL_ADMIN_len_m1 n)
  decide (start + len ≤ 255) && (s.reg (STM_GCL_CYCLE n)).toNat != 0 &&
    (List.range (len + 1)).all fun i => decide (64 ≤ s.eget (gateAt n (start + i)) GATE_interval)

/-- A change of gate list is requested (R258). -/
def State.gclChange (s : State) (n : Nat) : State :=
  if s.adminGood n then
    let base := (s.reg (STM_GCL_BASE_HI n)).toNat * 2 ^ 32 + (s.reg (STM_GCL_BASE_LO n)).toNat
    let at_ := firstCycle base (s.reg (STM_GCL_CYCLE n)).toNat (s.timeNs (s.gclDomain n))
    (s.fsets [(STM_GCL_STATUS_pending n, 1), (STM_GCL_STATUS_error n, 0)]).setGate n { s.gate n with changeAt := at_ }
  else (s.fsets [(STM_GCL_STATUS_error n, 1), (STM_GCL_STATUS_pending n, 0)]).raise 1428

/-- enable of STM_GCL_CTRL takes a value: the list in force follows the domain's guard. -/
def State.gclEnable (s : State) (n : Nat) (on : Bool) : State :=
  if s.isSet (STM_GCL_CTRL_enable n) == on then s
  else
    let s := s.fset (STM_GCL_CTRL_enable n) (b2n on)
    if on && !s.inside (s.gclDomain n) then s.gateFallback n
    else if on then s.gateForce n
    else ((s.fset (STM_GCL_STATUS_fallback n) 0).setGate n { s.gate n with hold := false }).gateForce n

/-- A write of STM_GCL_CTRL (R258, R270): enable takes its bit; change requests a change. -/
def State.gclWrite (s : State) (n : Nat) (v : Word) : State :=
  let s := s.gclEnable n (getField v 31 31 == 1)
  if getField v 30 30 = 1 then s.gclChange n else s

/-- GCL_CHANGE_REQUEST (R258): a write of STM_GCL_CTRL with change set. -/
def execGclChangeRequest (r : Requester) (n : Nat) (v : Word) (s : State) : Host.Outcome State Fault Refusal :=
  if 16 ≤ n then .next s
  else if !portPresent s.variant n then .next s.absentWrite
  else .next (s.privWrite r (STM_GCL_CTRL n) fun s => s.gclWrite n (setField v 30 30 1))

/-- The admin list becomes the oper list, its first cycle starting at `base` (R258). -/
def State.gclTake (s : State) (n base : Nat) : State :=
  let s := s.fsets [(STM_GCL_STATUS_pending n, 0), (STM_GCL_STATUS_oper_start n, s.fget (STM_GCL_ADMIN_start n)),
    (STM_GCL_STATUS_oper_len_m1 n, s.fget (STM_GCL_ADMIN_len_m1 n))]
  let s := s.setReg (STM_GCL_OPER_CYCLE n) (s.reg (STM_GCL_CYCLE n))
  ((s.setGate n { s.gate n with operBase := base }).gateForce n).raise 1428

/-- GCL_CHANGE_APPLY (R258): the instant of a pending change. While the fallback list is in force it waits for the
return (R259). -/
def execGclChangeApply (n : Nat) (s : State) : Host.Outcome State Fault Refusal :=
  if !portPresent s.variant n || !s.isSet (STM_GCL_STATUS_pending n) || s.onFallback n then .next s
  else .next (s.gclTake n (s.gate n).changeAt)

/-- GATE_RESUME (R259): the oper list's next cycle start after the domain is inside its guard again. A change whose
instant has passed meanwhile is applied now. -/
def execGateResume (n : Nat) (s : State) : Host.Outcome State Fault Refusal :=
  if !portPresent s.variant n || !s.onFallback n || !s.inside (s.gclDomain n) then .next s
  else
    let now := s.timeNs (s.gclDomain n)
    let s := (s.fset (STM_GCL_STATUS_fallback n) 0).raise 1427
    if s.isSet (STM_GCL_STATUS_pending n) && decide ((s.gate n).changeAt ≤ now) then .next (s.gclTake n now)
    else .next (s.gateForce n)

end Sys2Proof.Machine
end

