-- ==== Sys2Proof/Machine/HostPort.lean ====
section
/-!
DEFINITION. The PCIe host port (R85, R168 to R170, R510 to R519, R550): its link, its functions, the queue pairs and the
privileged endpoints. The service port is in Service.lean.
-/

namespace Sys2Proof.Machine

/-! ### Link and reset (R26, R85, R510, R550) -/

/-- PERST_N reads low: the pin, or VIO below 1.6 V. -/
def State.perst (s : State) : Bool := s.perstLow || s.host.vioLow

/-- Boot BIST has ended, or none runs. -/
def State.bistEnded (s : State) : Bool :=
  match s.boot with
  | .down | .aonUp | .railsUp | .bist _ => false
  | _ => true

/-- The link may run: CORE is on, BIST has ended, PERST_N is high, the power-down has not silenced it (R425), and in
Paddock the Wake Plan names the host port (R420). -/
def State.pcieOn (s : State) : Bool :=
  s.coreOn && s.bistEnded && !s.perst && s.pwk.downStep < 4 &&
    (s.fget PWK_STATE_state != 1 || bitOf (s.plan 0x0C 1) 2)

def State.linkState (s : State) : Nat := s.fget HST_LINK_STATUS_state

/-- The link carries transactions: L0, or L1, which it leaves for them. -/
def State.linkRuns (s : State) : Bool := s.linkState == 2 || s.linkState == 3

/-- Training starts where nothing holds it back. -/
def State.linkTrain (s : State) : State :=
  if s.pcieOn && s.linkState == 0 then s.fset HST_LINK_STATUS_state 1 else s

/-- The link is down: counted and raised when it was up. -/
def State.linkLost (s : State) : State :=
  let was := s.linkState
  let s := s.setReg HST_LINK_STATUS 0
  if 2 ≤ was then (s.countSat (HST_CNT 8)).raise 1521 else s

/-- HOST_LINK_UP (R527): the link reaches L0 at a width and a speed. -/
def execHostLinkUp (width gen : Nat) (s : State) : Host.Outcome State Fault Refusal :=
  if !s.pcieOn || s.linkRuns then .next s
  else
    .next ((s.fsets [(HST_LINK_STATUS_state, 2), (HST_LINK_STATUS_width, width), (HST_LINK_STATUS_gen, gen)]).raise 1520)

/-- HOST_LINK_DOWN (R527): the link goes down and trains again. -/
def execHostLinkDown (s : State) : Host.Outcome State Fault Refusal :=
  if s.linkState = 0 then .next s else .next s.linkLost.linkTrain

/-- PME_TURN_OFF (R510): the link enters L2. -/
def execPmeTurnOff (s : State) : Host.Outcome State Fault Refusal :=
  if s.linkRuns then .next (s.fset HST_LINK_STATUS_state 4) else .next s

/-- PERST_N reads low from now on (R26): configuration space, queue-pair registers and DMA in flight are reset. A DMA is one
command, so none stands between commands. -/
def State.perstFell (s : State) : State :=
  if !s.coreOn then s
  else
    let s := s.linkLost
    let s := { s.resetRegs (HST_QP_CFG 0) (HST_QP_CFG 64 - 1) with host := { s.host with numVfs := 0, config := [] } }
    (s.countSat (HST_CNT 9)).raise 1522

/-- PERST_N_LOW (R26). [DESIGN CHOICE, log entry 14] -/
def execPerstNLow (s : State) : Host.Outcome State Fault Refusal :=
  let was := s.perst
  let s := { s with perstLow := true }
  if was then .next s else .next s.perstFell

/-- PERST_N_RISE (R85). -/
def execPerstNRise (s : State) : Host.Outcome State Fault Refusal := .next ({ s with perstLow := false } : State).linkTrain

/-- VIO_LOW (R550): the VIO outputs go to high impedance, and PERST_N reads low. -/
def execVioLow (s : State) : Host.Outcome State Fault Refusal :=
  let was := s.perst
  let s := { s with host := { s.host with vioLow := true } }
  if was then .next s else .next s.perstFell

/-- VIO_RESTORED (R550). -/
def execVioRestored (s : State) : Host.Outcome State Fault Refusal :=
  .next ({ s with host := { s.host with vioLow := false } } : State).linkTrain

/-- Configuration requests complete normally: since CORE power-up the first cinch has come, or the device has settled in state 0
or 3 (R85). [DEDUCED, log entry 132] -/
def State.configReady (s : State) : Bool := s.host.configOpen

/-- The device exposes no function but PF0: it has settled in state 0 or 3 (R85, R511). -/
def State.pf0Alone (s : State) : Bool := s.boot == .settled

/-- Functions beside PF0 that configuration requests reach. -/
def State.vfsExposed (s : State) : Nat := if s.pf0Alone then 0 else s.host.numVfs

/-- A word of a function's configuration space: what a request has written there, else a free value. -/
def State.configWord (s : State) (f i : Nat) : Word := look (fun _ => word s.free) s.host.config (1024 * f + i % 1024)

/-- What a configuration write of `v` changes: a word of the function's space, and NumVFs of PF0 (R511), which takes no VF where PF0
alone is exposed. -/
def State.configWrite (s : State) (f : Nat) (q : ConfigReq) (v : Word) : State :=
  let n := if f = 0 && !s.pf0Alone then (q.numVfs.map (min 31)).getD s.host.numVfs else s.host.numVfs
  let m := s.host.config.filter fun e => e.1 != 1024 * f + q.at_ % 1024
  { s with host := { s.host with numVfs := n, config := (1024 * f + q.at_ % 1024, v) :: m } }

/-- CONFIG_REQUEST (R85, R511): a configuration request to a function. [DEDUCED, log entry 132] -/
def execConfigRequest (f : Nat) (q : ConfigReq) (s : State) : Host.Outcome State Fault Refusal :=
  if !s.linkRuns then .next s
  else if !s.configReady then .next (s.emit (.pcieCompletion f 2 none))
  else if s.vfsExposed < f then .next (s.emit (.pcieCompletion f 1 none))
  else
    match q.value with
    | some v => .next ((s.configWrite f q v).emit (.pcieCompletion f 0 none))
    | none => .next ((s.drew 1).emit (.pcieCompletion f 0 (some (s.configWord f q.at_))))

/-! ### Queue pairs (R514 to R518) -/

def State.ringSize (s : State) (q : Nat) : Nat := 2 ^ (s.fget (HST_QP_CFG_ring_log2 q) + 3)

/-- The owner of a queue pair: that of its function (R514). -/
def State.qpOwner (s : State) (q : Nat) : Option Nat := s.boundOwner (s.fget (HST_QP_CFG_func q))

/-- A queue pair carries frames: enabled, outside states 0 and 3 (R511). -/
def State.qpRuns (s : State) (q : Nat) : Bool :=
  s.isSet (HST_QP_CFG_enable q) && s.fget GLB_IMAGE_STATUS_state != 0 && s.fget GLB_IMAGE_STATUS_state != 3

/-- Descriptors between a head and a tail, counted modulo twice the ring size (R514). -/
def State.qpDepth (s : State) (q tail head : Nat) : Nat :=
  let n := 2 * s.ringSize q
  ((s.reg tail).toNat % n + n - (s.reg head).toNat % n) % n

/-- An index register moves on by one, modulo twice the ring size. -/
def State.qpAdvance (s : State) (q head : Nat) : State :=
  s.setReg head (word (((s.reg head).toNat + 1) % (2 * s.ringSize q)))

/-- Host address of the descriptor at a ring's head. -/
def State.qpDesc (s : State) (q lo hi head : Nat) : Nat :=
  (s.reg lo).toNat + (s.reg hi).toNat * 2 ^ 32 + 16 * ((s.reg head).toNat % s.ringSize q)

/-- A write of a base or tail register of queue pair q (R514): the privileged requesters and the bound function. -/
def State.qpWrite (s : State) (r : Requester) (q addr : Nat) (f : State → State) : State :=
  if s.privileged r || ((s.ownerOf r).isSome && r == .func (s.fget (HST_QP_CFG_func q))) then f s else s.rejectWrite r 0 (addr / 4)

/-- A write of HST_QP_CFG: writing enable 0 and then 1 resumes a stopped queue pair (R514, R518). -/
def State.qpCfgWrite (s : State) (r : Requester) (q : Nat) (v : Word) : State :=
  s.privWrite r (HST_QP_CFG q) fun s =>
    let rise := !s.isSet (HST_QP_CFG_enable q) && bitOf v.toNat 31
    let s := s.setReg (HST_QP_CFG q) (v &&& 0xFFC7C000)
    if rise then s.fsets [(HST_QP_STATUS_tx_error q, 0), (HST_QP_STATUS_rx_stalled q, 0)] else s

/-- QP_TX_POST (R516): a write of TX_TAIL. -/
def execQpTxPost (r : Requester) (q tail : Nat) (s : State) : Host.Outcome State Fault Refusal :=
  if 64 ≤ q then .next s
  else .next (s.qpWrite r q (HST_QP_TX_TAIL q) fun s => s.setReg (HST_QP_TX_TAIL q) (word (tail % 2048)))

/-- The status of a transmit descriptor (R516): its length, then its owner. [DEDUCED, log entry 133] -/
def State.txStatus (s : State) (q w2 : Nat) : Nat :=
  let len := bitsOf w2 13 0
  let o := bitsOf w2 29 22
  let f := s.fget (HST_QP_CFG_func q)
  if len < 60 ∨ 9212 < len then 0x17
  else if f = 0 then (if (s.owner o).state = 1 then 0 else 0x2B)
  else if s.qpOwner q = some o then 0
  else 0x2B

/-- TX_DESCRIPTOR (R516): the device takes the next transmit descriptor of queue pair q, whose word 2 and whose buffer the
DMA returns. -/
def execTxDescriptor (q w2 : Nat) (buffer : List Byte) (s : State) : Host.Outcome State Fault Refusal :=
  if 64 ≤ q || !s.qpRuns q || s.isSet (HST_QP_STATUS_tx_error q) || !s.linkRuns ||
      s.qpDepth q (HST_QP_TX_TAIL q) (HST_QP_TX_HEAD q) == 0 then .next s
  else
    let e := s.fget (HST_QP_CFG_ep q)
    let f := s.fget (HST_QP_CFG_func q)
    let len := bitsOf w2 13 0
    let bs := slice buffer 0 len
    let status := s.txStatus q w2
    let s := s.fset HST_LINK_STATUS_state 2
    let s :=
      if status != 0 then (s.countSat (HST_CNT 4)).raise 1526
      else
        let s := (s.addSat (HST_CNT 0) 1).addSat (HST_CNT 1) len
        if s.epMaySend e bs then s.offer (22 + e) { bytes := bs, src := 80 + e, owner := bitsOf w2 29 22, cls := bitsOf w2 21 19,
                                                                 rx0 := s.timeNs 0 }
        else s.countSat (HST_EP_REJECT e)
    let s := s.emit (.hostWrite (s.qpDesc q (HST_QP_TX_BASE_LO q) (HST_QP_TX_BASE_HI q) (HST_QP_TX_HEAD q) + 12)
      (leBytes 4 (status * 2 ^ 16)))
    let s := s.qpAdvance q (HST_QP_TX_HEAD q)
    if bitOf w2 31 then .next (s.raise (1488 + f)) else .next s

/-- Buffer bytes of a receive descriptor. -/
def State.qpBuffer (s : State) (q : Nat) : Nat :=
  match s.fget (HST_QP_CFG_buf_size q) with
  | 0 => 2048
  | 1 => 4096
  | _ => 10240

/-- A frame accepted into queue k of endpoint e (R515). `buf` and `irq` are what the receive descriptor holds.
[DEDUCED, log entry 133] -/
def State.qpReceive (s : State) (e k : Nat) (f : Frame) (buf : Nat) (irq : Bool) : State :=
  let pick := (List.range 64).find? fun q =>
    s.qpRuns q && s.fget (HST_QP_CFG_ep q) == e && s.fget (HST_QP_CFG_rxq q) == k && s.qpOwner q == some f.owner
  match pick with
  | none => (s.countSat (HST_CNT 5)).raise 1524
  | some q =>
    if !s.linkRuns || s.isSet (HST_QP_STATUS_rx_stalled q) || s.qpDepth q (HST_QP_RX_TAIL q) (HST_QP_RX_HEAD q) == 0 then
      (s.countSat (HST_CNT 6)).raise 1525
    else
      let room := s.qpBuffer q
      let bs := f.bytes.take room
      let word3 := 2 ^ 31 + b2n (decide (room < f.bytes.length)) * 2 ^ 30 + f.owner % 256 * 2 ^ 22 + f.cls % 8 * 2 ^ 19 + bs.length
      let s := (s.addSat (HST_CNT 2) 1).addSat (HST_CNT 3) bs.length
      let s := (s.fset HST_LINK_STATUS_state 2).emit (.hostWrite buf bs)
      let s := s.emit (.hostWrite (s.qpDesc q (HST_QP_RX_BASE_LO q) (HST_QP_RX_BASE_HI q) (HST_QP_RX_HEAD q) + 12) (leBytes 4 word3))
      let s := s.qpAdvance q (HST_QP_RX_HEAD q)
      if irq then s.raise (1488 + s.fget (HST_QP_CFG_func q)) else s

/-- The queue that takes a frame at endpoint e (R168): a mirror copy, which begins with its metadata, goes to queue 0.
[DEDUCED, log entry 134] -/
def State.epQueue (s : State) (e : Nat) (f : Frame) : Option Nat :=
  let da := beAt f.bytes 0 6
  if f.mirror.isSome then some 0
  else if f.lane then none
  else
    match s.epMatch e da with
    | some k => some k
    | none =>
      if da == 2 ^ 48 - 1 && s.isSet (HST_EP_CTRL_bc_accept e) then some 0
      else if bitOf (leAt f.bytes 0 1) 0 && s.isSet (HST_EP_CTRL_mc_accept e) then some 0
      else none

/-- ENDPOINT_FRAME_DELIVERY (R168): the next frame delivered to endpoint e, highest class first. `buf` and `irq` are what
the receive descriptor that it takes holds. -/
def execEndpointFrameDelivery (e buf : Nat) (irq : Bool) (s : State) : Host.Outcome State Fault Refusal :=
  if 3 ≤ e then .next s
  else
    let port := if e = 2 then 83 else 80 + e
    match ((List.range 8).reverse.map (egressKey port)).find? fun k => !(s.egressQ k).isEmpty with
    | none => .next s
    | some k =>
      match s.egressQ k with
      | [] => .next s
      | f :: rest =>
        let s := s.setEgressQ k rest
        if e = 2 && !s.ostlerRuns then .next (s.fcount GLB_OSTLER_STATUS_drops)
        else
          match s.epQueue e f with
          | none => .next (s.countSat (HST_EP_REJECT e))
          | some q => if e = 2 then .next (s.emit (.ostlerFrame q f.bytes)) else .next (s.qpReceive e q f buf irq)

/-- DMA_ERROR (R518): a DMA of queue pair q's transmit or receive side completes with an error. -/
def execDmaError (q : Nat) (tx : Bool) (s : State) : Host.Outcome State Fault Refusal :=
  if 64 ≤ q || !s.qpRuns q || !s.linkRuns then .next s
  else
    .next (((s.fset (if tx then HST_QP_STATUS_tx_error q else HST_QP_STATUS_rx_stalled q) 1).countSat (HST_CNT 7)).raise 1523)

/-! ### Function-level reset (R513) -/

/-- The queue pairs of function f are disabled; for PF0 those of every function, and NumVFs is cleared. -/
def State.funcReset (s : State) (f : Nat) : State :=
  let s := (List.range 64).foldl (fun (u : State) q =>
    if f = 0 || u.fget (HST_QP_CFG_func q) == f then u.fset (HST_QP_CFG_enable q) 0 else u) s
  let s := if f = 0 then { s with host := { s.host with numVfs := 0 } } else s
  (s.countSat (HST_CNT 10)).raise 1530

/-- FLR (R513). -/
def execFlr (f : Nat) (s : State) : Host.Outcome State Fault Refusal :=
  if 32 ≤ f || !s.linkRuns then .next s else .next (s.funcReset f)

/-! ### HRB (R525) -/

/-- The sources that hold HRB low: enabled, with hrb set, and pending (R500). -/
def State.hrbSources (s : State) : List Nat :=
  (List.range 1536).filter fun n => s.isSet (EVC_SRC_enable n) && s.isSet (EVC_SRC_hrb n) && s.isSet (pendFld n)

/-- HRB is low (R525): between the always-on power-up or a wake and the service port's readiness, by the hrb route, and
while the service port is busy. It is high in Stable. [DEDUCED, log entry 130] -/
def State.hrbLow (s : State) : Bool :=
  if s.coreOn then !s.host.ready || !s.hrbSources.isEmpty || s.host.run.isSome
  else s.boot != .down || s.pwk.wakeOpen

/-- The HRB pin: none while VIO is below 1.6 V (R550). [DEDUCED, log entry 130] -/
def State.hrbPin (s : State) : Option Bool := if s.host.vioLow then none else some (!s.hrbLow)

end Sys2Proof.Machine
end

