-- ==== Sys2Proof/Machine/Loads.lean ====
section
/-!
DEFINITION. Load outputs and their profiles (R446 to R459), the converter (R461, R462) and the battery monitor (R463 to
R465). What an output does with its causes is in Outputs.lean.
-/

namespace Sys2Proof.Machine

/-! ### Commands (R446 to R449) -/

/-- A write to a register of output j: R9 for an absent output, the output's owner otherwise (R446). -/
def State.outWrite (s : State) (r : Requester) (j addr : Nat) (f : State → State) : State :=
  if !outputPresent s.variant j then s.absentWrite else s.ownedWrite r (s.fget (PWR_OUT_CFG_owner j)) addr f

/-- Output j and, in an H-bridge, its other half follow their commanded state. -/
def State.pairRefresh (s : State) (j : Nat) : State :=
  if s.fget (PWR_OUT_CFG_mode j) = 4 then (s.outRefresh (j / 2 * 2)).outRefresh (j / 2 * 2 + 1) else s.outRefresh j

/-- What PWR_OUT_CMD holds commands output j on (R446, R448): a duty where the register gives it, a direction for a
half-bridge, and for an H-bridge the direction in its even record unless a slot gives it. -/
def State.commandsOn (s : State) (j : Nat) : Bool :=
  let source := s.fget (PWR_OUT_CFG_source j)
  let dir := s.fget (PWR_OUT_CMD_dir j)
  match s.fget (PWR_OUT_CFG_mode j) with
  | 1 | 2 => source == 0 && s.fget (PWR_OUT_CMD_duty j) != 0
  | 3 => dir == 1 || dir == 2
  | 4 => j % 2 == 0 && source != 2 && dir != 0
  | _ => false

/-- A write of PWR_OUT_CMD (R448, R452): a turn-on during the minimum off-time is held and counted. -/
def State.outCommand (s : State) (j : Nat) (v : Word) : State :=
  let s := s.setReg (PWR_OUT_CMD j) (v &&& 0x000CFFFF)
  let s := if s.offTime j && s.commandsOn j then s.countSat (PWR_CNT 7) else s
  s.pairRefresh j

/-- OUTPUT_COMMAND (R448). -/
def execOutputCommand (r : Requester) (j : Nat) (v : Word) (s : State) : Host.Outcome State Fault Refusal :=
  if 20 ≤ j then .next s else .next (s.outWrite r j (PWR_OUT_CMD j) fun s => s.outCommand j v)

/-- The duty that a PWM period produces, 65,536 fully on (R447): pulses under 4 µs are not produced. -/
def pwmDrive (duty hz : Nat) : Nat :=
  if duty = 0 ∨ duty * 10 ^ 9 < 4000 * hz * 65536 then 0
  else if duty = 65535 ∨ (65536 - duty) * 10 ^ 9 < 4000 * hz * 65536 then 65536
  else duty

/-- Output j's profile may advance: it runs, and neither Paddock nor a power-down holds it (R457). -/
def State.profRuns (s : State) (j : Nat) : Bool :=
  s.isSet (PWR_PROF_STATUS_running j) && s.pwk.downStep == 0 &&
    !(s.fget PWK_STATE_state == 1 && !bitOf (s.plan 0x0C 1) 0)

/-- The update of output j (R448, R458): a profile sample falls due, and a source-2 output reads its slot. -/
def State.outUpdate (s : State) (j : Nat) : State :=
  let s := if s.profRuns j then s.setOut j { s.outp j with due := (s.outp j).due + 1 } else s
  if s.fget (PWR_OUT_CFG_source j) = 2 then s.outReadSlot j else s

/-- The duty of a new period (R447, R452): the commanded one, clipped to the slew limit while the output is on.
[DEDUCED, log entry 118] -/
def State.periodDuty (s : State) (j : Nat) : State :=
  let target := s.outDuty j
  let o := s.outp j
  let held := s.outHeld j || o.tripped || o.latched || o.minOff
  let limit := s.hobLow (0x410 + 32 * j + 12) 2 65535
  let prev := if o.on then o.cmdDuty else 0
  let duty := if held then target else min (max target (prev - limit)) (prev + limit)
  let s := s.setOut j { o with cmdDuty := duty }
  if duty = target then s else (s.fset (PWR_OUT_FAULT_slew_limited j) 1).countSat (PWR_CNT 6)

/-- One half or channel at the start of its period. [DEDUCED, log entry 118] -/
def State.periodOut (s : State) (j : Nat) : State :=
  let s := (s.periodDuty j).outRefresh j
  let o := s.outp j
  if o.on then
    (s.setOut j { o with drive := pwmDrive o.cmdDuty (s.fget (PWR_OUT_PWM_pwm_hz j)) }).fset (PWR_OUT_STATUS_duty_now j) o.cmdDuty
  else s

/-- PWM_PERIOD (R447): a period of a PWM output, a half-bridge or an H-bridge (by its even record) starts. -/
def execPwmPeriod (j : Nat) (s : State) : Host.Outcome State Fault Refusal :=
  let mode := s.fget (PWR_OUT_CFG_mode j)
  if 20 ≤ j || !outputPresent s.variant j || mode < 2 || (mode == 4 && j % 2 == 1) then .next s
  else
    let s := s.setOut j { s.outp j with cmdDir := (s.outp j).srcDir }
    let s := if mode = 4 then (s.periodOut j).periodOut (j + 1) else s.periodOut j
    .next (if s.isSet (PWR_OUT_CFG_trig_en j) then s else s.outUpdate j)

/-! ### Protection (R450 to R454) -/

/-- A cause of an immediate trip (R451): nothing happens to an output that is off. -/
def State.outFault (s : State) (j : Nat) (cause : Fld) : State :=
  if j < 20 && outputPresent s.variant j && (s.outp j).on then s.outTrip j cause else s

/-- SHORT_CIRCUIT (R451). -/
def execShortCircuit (j : Nat) (s : State) : Host.Outcome State Fault Refusal := .next (s.outFault j (PWR_OUT_FAULT_short_circuit j))
/-- INRUSH (R451). -/
def execInrush (j : Nat) (s : State) : Host.Outcome State Fault Refusal := .next (s.outFault j (PWR_OUT_FAULT_inrush j))
/-- OUTPUT_THERMAL (R451). -/
def execOutputThermal (j : Nat) (s : State) : Host.Outcome State Fault Refusal := .next (s.outFault j (PWR_OUT_FAULT_thermal j))

/-- An energy accumulator after 10 µs at current `i` with nominal current `n`, both in 10 mA, in 10^-11 A²s (R450). -/
def energyNext (e i n : Nat) : Nat := if n < i then e + 100 * (i * i - n * n) else e - 100 * (n * n - i * i)

/-- One output's sample (R450): its accumulator, which may trip it. -/
def State.sampleOut (s : State) (j i : Nat) : State :=
  if !outputPresent s.variant j then s
  else
    let o := s.outp j
    let e := energyNext o.energy i (25 * s.fget (PWR_OUT_CFG_inom j))
    let s := s.setOut j { o with energy := e }
    let s := s.fsets [(PWR_OUT_MEAS_current j, min i 65535), (PWR_OUT_MEAS_energy j, min (e / 10 ^ 9) 65535)]
    let lim := s.outLimit j
    if o.on && decide (lim.1 ≤ e) then
      if lim.2 then ((s.outTrip j (PWR_OUT_FAULT_hobble_energy j)).countSat (PWR_CNT 5)).raise (1283 + 4 * j)
      else s.outTrip j (PWR_OUT_FAULT_fuse j)
    else s

/-- The outputs in scope g: VLOAD group 0 to 3, or 4 for the package (R454). -/
def scopeOuts (g : Nat) : List Nat := if g < 4 then (List.range 4).map (4 * g + ·) else List.range 20

def groupAt (g : Nat) : Nat := if g < 4 then PWR_GROUP_I g else PWR_PKG_I
def groupFld (g : Nat) : Fld := if g < 4 then ⟨PWR_STATUS, g, g⟩ else PWR_STATUS_pkg_shed

/-- The output in scope g that carries the most current is shed: off, recorded, and latched (R454). -/
def State.shed (s : State) (g : Nat) : State :=
  let most := (scopeOuts g).foldl (fun (best : Option Nat) j =>
    let i := s.fget (PWR_OUT_MEAS_current j)
    if !(s.outp j).on || i == 0 then best
    else
      match best with
      | none => some j
      | some b => if s.fget (PWR_OUT_MEAS_current b) < i then some j else best) none
  match most with
  | none => s
  | some j =>
    let s := (s.outOff j).fset (if g < 4 then PWR_OUT_FAULT_shed_group j else PWR_OUT_FAULT_shed_pkg j) 1
    let s := s.setOut j { s.outp j with latched := true }
    ((s.outShow j).raise (1280 + 4 * j)).countSat (PWR_CNT 2)

/-- The sample of a scope's accumulator (R454): a shed when it comes to its limit. -/
def State.sampleScope (s : State) (g : Nat) : State :=
  let sum := (scopeOuts g).foldl (fun v j => v + (if outputPresent s.variant j then s.fget (PWR_OUT_MEAS_current j) else 0)) 0
  let e := energyNext (look (fun _ => 0) s.groupEnergy g) sum (if g < 4 then 1200 else 3200)
  let s := { s with groupEnergy := put (fun _ => 0) s.groupEnergy g e }
  let s := s.setReg (groupAt g) (word (min (e / 10 ^ 9) 65535 * 65536 + min sum 65535))
  let full := decide ((if g < 4 then 32 else 64) * 10 ^ 11 ≤ e)
  let was := s.isSet (groupFld g)
  let s := s.fset (groupFld g) (b2n full)
  if full && !was then s.shed g else s

/-- CURRENT_SAMPLE (R450, R454): the currents of the 20 outputs, in 10 mA. -/
def execCurrentSample (currents : List Nat) (s : State) : Host.Outcome State Fault Refusal :=
  if !s.pdieOn then .next s
  else
    let s := (List.range 20).foldl (fun (u : State) j => u.sampleOut j (currents.getD j 0)) s
    .next ((List.range 5).foldl (fun (u : State) g => u.sampleScope g) s)

/-- SHED_REEVALUATE (R454): 1 ms after a shed in scope g. -/
def execShedReevaluate (g : Nat) (s : State) : Host.Outcome State Fault Refusal :=
  if g < 5 && s.isSet (groupFld g) then .next (s.shed g) else .next s

/-- MAX_ON_EXPIRY (R452). -/
def execMaxOnExpiry (j : Nat) (s : State) : Host.Outcome State Fault Refusal :=
  if 20 ≤ j || !(s.outp j).on then .next s
  else .next ((((s.fset (PWR_OUT_FAULT_hobble_on j) 1).outOff j).outShow j).countSat (PWR_CNT 5) |>.raise (1283 + 4 * j))

/-- MIN_OFF_EXPIRY (R452): held commands apply. -/
def execMinOffExpiry (j : Nat) (s : State) : Host.Outcome State Fault Refusal :=
  if 20 ≤ j || !(s.outp j).minOff then .next s
  else .next ((s.setOut j { s.outp j with minOff := false }).pairRefresh j)

/-- OUTPUT_RETRY (R453): a tripped output switches on again once its energy has halved and its minimum off-time has passed;
the command says that a thermal trip's junction has cooled. -/
def execOutputRetry (j : Nat) (s : State) : Host.Outcome State Fault Refusal :=
  let o := s.outp j
  if 20 ≤ j || !o.tripped || o.minOff || decide ((s.outLimit j).1 < 2 * o.energy) then .next s
  else
    let s := s.setOut j { o with tripped := false, retryTick := some s.ticks }
    .next ((s.outRefresh j).countSat (PWR_CNT 1))

/-- RETRY_BUDGET_RESTORE (R453). -/
def execRetryBudgetRestore (j : Nat) (s : State) : Host.Outcome State Fault Refusal :=
  if 20 ≤ j then .next s else .next (s.setOut j { s.outp j with used := 0, retryTick := none })

/-- Bits of PWR_OUT_FAULT whose condition the model holds as present (R471). -/
def State.faultNow (s : State) (j bit : Nat) : Bool :=
  match bit with
  | 0 | 8 => decide ((s.outLimit j).1 ≤ (s.outp j).energy)
  | 4 => s.isSet (groupFld (j / 4))
  | 5 => s.isSet (groupFld 4)
  | 10 => s.outDuty j != (s.outp j).cmdDuty && (s.outp j).on
  | _ => false

/-- A write of PWR_OUT_FAULT (R453, R471). `active` has a bit set for each condition that persists outside the model: the
junction, an open load or a short to VLOAD. An output whose trip causes are all clear leaves its latch.
[DEDUCED, log entry 119] -/
def State.faultClear (s : State) (j v active : Nat) : State :=
  let s := (List.range 11).foldl (fun (u : State) i =>
    if bitOf v i && !bitOf active i && !u.faultNow j i then u.fset ⟨PWR_OUT_FAULT j, i, i⟩ 0 else u) s
  let causes := (s.reg (PWR_OUT_FAULT j)).toNat
  let s := if causes &&& 0x13F = 0 then s.setOut j { s.outp j with tripped := false, latched := false } else s
  s.outRefresh j

/-- OUTPUT_FAULT_CLEAR (R453). -/
def execOutputFaultClear (r : Requester) (j v active : Nat) (s : State) : Host.Outcome State Fault Refusal :=
  if 20 ≤ j then .next s else .next (s.outWrite r j (PWR_OUT_FAULT j) fun s => s.faultClear j v active)

/-! ### Diagnostics (R455) -/

def State.openLoad (s : State) (j : Nat) : State :=
  ((s.fset (PWR_OUT_FAULT_open_load j) 1).raise (1281 + 4 * j)).countSat (PWR_CNT 3)

/-- OPEN_LOAD (R455): a current below open_ma for 10 ms of on-time. -/
def execOpenLoad (j : Nat) (s : State) : Host.Outcome State Fault Refusal :=
  if j < 20 && outputPresent s.variant j && (s.outp j).on then .next (s.openLoad j) else .next s

/-- OFF_STATE_CHECK (R455): the voltage of an off output with no pull-up, above 4.0 V or not. -/
def execOffStateCheck (j : Nat) (above : Bool) (s : State) : Host.Outcome State Fault Refusal :=
  if 20 ≤ j || !outputPresent s.variant j || !s.pdieOn || (s.outp j).on then .next s
  else if above then .next (((s.fset (PWR_OUT_FAULT_short_vload j) 1).raise (1282 + 4 * j)).countSat (PWR_CNT 4))
  else .next (s.setOut j { s.outp j with pullup := true })

/-- OFF_STATE_PULLUP_END (R455). -/
def execOffStatePullupEnd (j : Nat) (above : Bool) (s : State) : Host.Outcome State Fault Refusal :=
  if 20 ≤ j || !(s.outp j).pullup then .next s
  else
    let s := s.setOut j { s.outp j with pullup := false }
    .next (if above then s.openLoad j else s)

/-- PLK_LOST_CLEAR (R456): a write of PWR_STATUS.plk_lost, which clears once PLK runs. -/
def execPlkLostClear (s : State) : Host.Outcome State Fault Refusal :=
  if (s.link 17).down then .next s else .next (s.fset PWR_STATUS_plk_lost 0).outsRefresh

/-! ### Profiles (R458, R459) -/

/-- The duty of sample i of a segment of n samples (R458). -/
def profDuty (first last n i : Nat) : Nat :=
  if n ≤ 1 then last
  else (Int.ofNat first + Int.tdiv ((Int.ofNat last - Int.ofNat first) * Int.ofNat i) (Int.ofNat (n - 1))).toNat

/-- The duty of a profile goes to an output whose source is its profile. -/
def State.profApply (s : State) (j duty : Nat) : State :=
  if s.fget (PWR_OUT_CFG_source j) = 1 then
    let s := s.setOut j { s.outp j with srcDuty := duty }
    if s.fget (PWR_OUT_CFG_mode j) = 1 then s.outRefresh j else s
  else s

/-- Sample i of segment g of output j. -/
def State.profAt (s : State) (j g i : Nat) : State :=
  let duty := profDuty (s.fget (PWR_PROF_SEG_start j g)) (s.fget (PWR_PROF_SEG_end j g)) (s.fget (PWR_PROF_SEG_samples j g)) i
  (s.fsets [(PWR_PROF_STATUS_segment j, g), (PWR_PROF_STATUS_sample j, i)]).profApply j duty

/-- A segment begins; one that is not valid stops the profile. [DEDUCED, log entry 120] -/
def State.profBegin (s : State) (j g : Nat) : State :=
  if s.isSet (PWR_PROF_SEG_valid j g) && s.fget (PWR_PROF_SEG_samples j g) != 0 then s.profAt j g 0
  else s.fset (PWR_PROF_STATUS_running j) 0

/-- One sample of a profile (R458, R459). [DEDUCED, log entry 120] -/
def State.profStep (s : State) (j : Nat) : State :=
  let o := s.outp j
  if o.starting then (s.setOut j { o with starting := false }).profBegin j (s.fget (PWR_PROF_CTRL_start_seg j))
  else
    let g := s.fget (PWR_PROF_STATUS_segment j)
    let i := s.fget (PWR_PROF_STATUS_sample j)
    if i + 1 < s.fget (PWR_PROF_SEG_samples j g) then s.profAt j g (i + 1)
    else if s.isSet (PWR_PROF_STATUS_jump_pending j) then
      (s.fset (PWR_PROF_STATUS_jump_pending j) 0).profBegin j (s.fget (PWR_PROF_CTRL_jump_target j))
    else if s.isSet (PWR_PROF_SEG_end_flag j g) then s.fset (PWR_PROF_STATUS_running j) 0
    else s.profBegin j (s.fget (PWR_PROF_SEG_next j g))

/-- A write of PWR_PROF_CTRL (R458, R459): run starts a profile that does not run, clear stops it, jump requests a jump. -/
def State.profCtrl (s : State) (j : Nat) (v : Word) : State :=
  let s := s.setReg (PWR_PROF_CTRL j) (v &&& 0x9F00001F)
  let s := if bitOf v.toNat 30 then s.fset (PWR_PROF_STATUS_jump_pending j) 1 else s
  let o := s.outp j
  if !bitOf v.toNat 31 then
    (s.setOut j { o with due := 0, starting := false }).fset (PWR_PROF_STATUS_running j) 0
  else if s.isSet (PWR_PROF_STATUS_running j) then s
  else (s.setOut j { o with starting := true }).fset (PWR_PROF_STATUS_running j) 1

/-- A write of PWR_PROF_CTRL by a requester. -/
def State.profWrite (s : State) (r : Requester) (j : Nat) (v : Word) : State :=
  s.outWrite r j (PWR_PROF_CTRL j) fun s => s.profCtrl j v

/-- PROFILE_RUN (R458): a write with run set and without a jump. -/
def execProfileRun (r : Requester) (j : Nat) (v : Word) (s : State) : Host.Outcome State Fault Refusal :=
  if 20 ≤ j then .next s else .next (s.profWrite r j (setField (setField v 31 31 1) 30 30 0))

/-- PROFILE_STOP (R458): a write with run clear. -/
def execProfileStop (r : Requester) (j : Nat) (v : Word) (s : State) : Host.Outcome State Fault Refusal :=
  if 20 ≤ j then .next s else .next (s.profWrite r j (setField v 31 31 0))

/-- PROFILE_JUMP (R459): a write with jump set. -/
def execProfileJump (r : Requester) (j : Nat) (v : Word) (s : State) : Host.Outcome State Fault Refusal :=
  if 20 ≤ j then .next s else .next (s.profWrite r j (setField v 30 30 1))

/-- PROFILE_SAMPLE (R458): a sample that is due. -/
def execProfileSample (j : Nat) (s : State) : Host.Outcome State Fault Refusal :=
  let o := s.outp j
  if 20 ≤ j || o.due == 0 then .next s
  else
    let s := s.setOut j { o with due := o.due - 1 }
    .next (if s.isSet (PWR_PROF_STATUS_running j) then s.profStep j else s)

/-! ### The converter (R461, R462) -/

def State.setConv (s : State) (c : Conv) : State := { s with conv := c }

/-- The monitor and the converter work: PDIE is powered, the image has cinched, and in Paddock the Wake Plan names them
(R420). -/
def State.convOn (s : State) : Bool :=
  s.pdieOn && s.cinched && (s.fget PWK_STATE_state != 1 || bitOf (s.plan 0x0C 1) 1)

/-- A sequence starts, waits, or is dropped (R461). -/
def State.seqStart (s : State) (q : Nat) : State :=
  let c := s.conv
  if !s.convOn || s.fget (BAT_SEQ_CTRL_count q) == 0 then s
  else if c.run == some q || c.pend.contains q then (s.countSat (BAT_CNT 7)).raise 1256
  else if c.run.isNone then s.setConv { c with run := some q }
  else s.setConv { c with pend := c.pend.filter (· < q) ++ q :: c.pend.filter (q < ·) }

/-- A write of a sequence's BAT_SEQ_GO: owner 0, the owner bound to PF0, and the sequence's owner (R473). -/
def State.seqGo (s : State) (r : Requester) (q : Nat) : State :=
  if s.privileged r || s.mayUse r (s.fget (BAT_SEQ_CTRL_owner q)) then
    (if s.fget (BAT_SEQ_CTRL_mode q) = 0 then s.seqStart q else s)
  else s.rejectWrite r 0 (BAT_SEQ_GO q / 4)

/-- SAR_SEQUENCE_GO (R461). -/
def execSarSequenceGo (r : Requester) (q : Nat) (s : State) : Host.Outcome State Fault Refusal :=
  if 8 ≤ q then .next s else .next (s.seqGo r q)

/-- SAR_PERIOD (R461): period_us of a mode-2 sequence has passed. -/
def execSarPeriod (q : Nat) (s : State) : Host.Outcome State Fault Refusal :=
  if q < 8 && s.fget (BAT_SEQ_CTRL_mode q) == 2 then .next (s.seqStart q) else .next s

/-- Result i of a sequence, and its slot write where slot_en asks for one (R462). [DEDUCED, log entry 121] -/
def State.seqResult (s : State) (q batch i value : Nat) : State :=
  let a := BAT_SEQ_RES q (i / 2)
  let s := s.fset (if i % 2 = 0 then ⟨a, 11, 0⟩ else ⟨a, 27, 16⟩) value
  if !s.isSet (BAT_SEQ_CTRL_slot_en q) then s
  else
    let slot := s.fget (BAT_SEQ_SLOT_slot_first q) + i
    let owner := s.fget (BAT_SEQ_CTRL_owner q)
    if s.slotOwner slot = owner then s.sendSig { kind := .hWr, slot := slot, owner := owner, value := value % 4096, batch := batch }
    else s.raise 1257

/-- SEQUENCE_DONE (R461, R462): the converting sequence ends with its 12-bit results. -/
def execSequenceDone (results : List Nat) (s : State) : Host.Outcome State Fault Refusal :=
  match s.conv.run with
  | none => .next s
  | some q =>
    let b := s.newBatch
    let s := (List.range (s.fget (BAT_SEQ_CTRL_count q))).foldl (fun (u : State) i => u.seqResult q b.2 i (results.getD i 0)) b.1
    let s := (s.countSat (BAT_CNT 6)).raise (1248 + q)
    let c := s.conv
    .next (s.setConv { c with run := c.pend.head?, pend := c.pend.drop 1 })

/-! ### The battery monitor (R463 to R465) -/

/-- The monitor works: it is present and has cells to measure. -/
def State.batOn (s : State) : Bool := batPresent s.variant && s.convOn && s.fget BAT_CFG_cell_count != 0

/-- The cells that balance change: BAL_CHANGE (R464). -/
def State.balSet (s : State) (mask : Nat) : State :=
  if s.fget BAT_BAL_ACTIVE_active = mask then s else (s.fset BAT_BAL_ACTIVE_active mask).raise 1222

/-- Reading of cell j in units of 5 V / 65,536. [DEDUCED, log entry 121] -/
def State.cell (s : State) (j : Nat) : Nat := (s.reg (BAT_CELL j)).toNat % 65536

/-- A reading exceeds a number of mV. -/
def aboveMv (raw mv : Nat) : Bool := mv * 65536 < raw * 5000
def atLeastMv (raw mv : Nat) : Bool := mv * 65536 ≤ raw * 5000

/-- Automatic balancing marks and unmarks each cell after a measurement (R464). [DEDUCED, log entry 122] -/
def State.balMark (s : State) : State :=
  let n := s.fget BAT_CFG_cell_count
  let low := (List.range n).foldl (fun m j => min m (s.cell j)) 65535
  let delta := s.fget BAT_BAL_CFG_bal_delta_mv
  let mark := fun (j : Nat) =>
    let up := s.cell j - low
    if atLeastMv (s.cell j) (s.fget BAT_BAL_CFG_bal_min_mv) && atLeastMv up delta then true
    else if !atLeastMv (2 * up) delta then false
    else bitOf s.conv.marked j
  let v := (List.range n).foldl (fun v j => if mark j then v + 2 ^ j else v) 0
  s.setConv { s.conv with marked := if s.isSet BAT_CTRL_bal_auto then v else 0 }

/-- The set of cells that balance now, none while the monitor idles (R420, R464). [DEDUCED, log entry 122] -/
def State.balEval (s : State) : State :=
  let n := s.fget BAT_CFG_cell_count
  let wires := s.fget BAT_OW_RESULT_wire
  let want := (List.range n).filter fun j =>
    ((s.isSet BAT_CTRL_bal_auto && bitOf s.conv.marked j) || bitOf (s.fget BAT_BAL_MASK_mask) j) && atLeastMv (s.cell j) 2000 &&
      !bitOf wires j && !bitOf wires (j + 1)
  let clash := want.any fun j => want.contains (j + 1)
  let parity := s.fget BAT_STATUS_meas_count % 2
  let now := if clash then want.filter fun j => j % 2 == parity else want
  if !s.batOn || s.conv.measuring || s.conv.test.isSome || !s.isSet BAT_STATUS_meas_valid then s.balSet 0
  else s.balSet (now.foldl (fun v j => v + 2 ^ j) 0)

/-- A cell measurement starts, or waits for the open-wire test (R463, R465). -/
def State.measStart (s : State) : State :=
  if !s.batOn || s.conv.measuring then s
  else if s.conv.test.isSome then s.setConv { s.conv with measDue := true }
  else (s.setConv { s.conv with measuring := true, measDue := false }).balSet 0

/-- BAT_MEAS_START (R463): a write of BAT_CTRL.meas_start. -/
def execBatMeasStart (r : Requester) (s : State) : Host.Outcome State Fault Refusal :=
  if !batPresent s.variant then .next s.absentWrite else .next (s.privWrite r BAT_CTRL fun s => s.measStart)

/-- BAT_PERIOD (R463). -/
def execBatPeriod (s : State) : Host.Outcome State Fault Refusal := .next s.measStart

/-- One cell against its limits (R463). -/
def State.cellCheck (s : State) (j : Nat) : State :=
  let s :=
    if aboveMv (s.cell j) (s.fget BAT_LIMITS_ov_mv) then
      ((s.fset ⟨BAT_CELL_FLAGS, j, j⟩ 1).raise 1217).countSat (BAT_CNT 1)
    else s
  if !atLeastMv (s.cell j) (s.fget BAT_LIMITS_uv_mv) then
    ((s.fset ⟨BAT_CELL_FLAGS, 16 + j, 16 + j⟩ 1).raise 1218).countSat (BAT_CNT 2)
  else s

/-- BAT_MEAS_DONE (R463): the readings of the cells and of VPACK, the latter in units of 80 V / 65,536. -/
def execBatMeasDone (cells : List Nat) (vpack : Nat) (s : State) : Host.Outcome State Fault Refusal :=
  if !s.conv.measuring then .next s
  else
    let n := s.fget BAT_CFG_cell_count
    let s := s.setConv { s.conv with measuring := false }
    let s := (List.range n).foldl (fun (u : State) j => u.setReg (BAT_CELL j) (word (cells.getD j 0 % 65536))) s
    let s := s.fset BAT_VPACK_vpack vpack
    let s := s.fsets [(BAT_STATUS_meas_valid, 1), (BAT_STATUS_meas_count, s.fget BAT_STATUS_meas_count + 1)]
    let s := s.countSat (BAT_CNT 0)
    let s := (List.range n).foldl (fun (u : State) j => u.cellCheck j) s
    let sum := (List.range n).foldl (fun v j => v + s.cell j) 0
    let diff := (Int.ofNat (sum * 5000) - Int.ofNat (vpack % 65536 * 80000)).natAbs
    let bad := decide (s.fget BAT_THRESH_sum_thresh_mv * 65536 < diff)
    let s := s.fset BAT_STATUS_sum_mismatch (b2n bad)
    let s := if bad then (s.raise 1221).countSat (BAT_CNT 5) else s
    .next (s.raise 1216).balMark.balEval

/-- The open-wire test starts (R465). -/
def State.testStart (s : State) : State :=
  if !s.batOn || s.conv.test.isSome then s
  else ((s.setConv { s.conv with test := some (0, 0), before := [] }).fset BAT_STATUS_ow_busy 1).countSat (BAT_CNT 3) |>.balSet 0

/-- OPEN_WIRE_START (R465): a write of BAT_CTRL.ow_start. -/
def execOpenWireStart (r : Requester) (s : State) : Host.Outcome State Fault Refusal :=
  if !batPresent s.variant then .next s.absentWrite else .next (s.privWrite r BAT_CTRL fun s => s.testStart)

/-- A shift in mV, which the specification does not state for one below 0. -/
def State.shiftMv (s : State) (f : Fld) (raw : Int) : State :=
  if raw < 0 then (s.drew 1).fset f (s.free % 65536) else s.fset f (raw.toNat * 5000 / 65536)

/-- The shifts of wire k, and its flag (R465). -/
def State.wireResult (s : State) (k : Nat) (after : List Nat) : State :=
  let n := s.fget BAT_CFG_cell_count
  let delta := fun (j : Nat) => Int.ofNat (s.conv.before.getD j 0) - Int.ofNat (after.getD j 0)
  let fall := if k = 0 then 0 else delta (k - 1)
  let rise := if n ≤ k then 0 else -delta k
  let s := (s.shiftMv (BAT_OW_SHIFT_fall k) fall).shiftMv (BAT_OW_SHIFT_rise k) rise
  let limit := Int.ofNat (s.fget BAT_THRESH_ow_thresh_mv * 65536)
  let bad := decide (limit < fall * 5000) || decide (limit < rise * 5000)
  let s := s.fset ⟨BAT_OW_RESULT, k, k⟩ (b2n bad)
  if bad then (s.raise 1220).countSat (BAT_CNT 4) else s

/-- OPEN_WIRE_PHASE (R465): phase 0 measures, 1 sinks current, 2 measures again, 3 waits; `cells` is what a measuring phase
has read. -/
def execOpenWirePhase (cells : List Nat) (s : State) : Host.Outcome State Fault Refusal :=
  match s.conv.test with
  | none => .next s
  | some (k, p) =>
    if p = 0 then .next (s.setConv { s.conv with test := some (k, 1), before := cells.map (· % 65536) })
    else if p = 1 then .next (s.setConv { s.conv with test := some (k, 2) })
    else if p = 2 then
      let s := s.wireResult k (cells.map (· % 65536))
      .next (s.setConv { s.conv with test := some (k, 3) })
    else if k < s.fget BAT_CFG_cell_count then .next (s.setConv { s.conv with test := some (k + 1, 0) })
    else
      let s := (s.setConv { s.conv with test := none, before := [] }).fsets [(BAT_STATUS_ow_busy, 0), (BAT_OW_RESULT_valid, 1)]
      let s := s.raise 1219
      .next (if s.conv.measDue then s.measStart else s.balEval)

end Sys2Proof.Machine
end

