-- ==== Sys2Proof/Machine/Cipher.lean ====
section
/-!
DEFINITION. The bulk cipher engines (R368 to R383): jobs from their submission to the completion record, their
suspension, frame jobs, and what a tamper or an owner's teardown does to them.
-/

namespace Sys2Proof.Machine

/-! ### The descriptor (R369, R370) -/

def jobWord (d : List Byte) (i : Nat) : Nat := leAt d (4 * i) 4
def jobMode (d : List Byte) : Nat := bitsOf (jobWord d 0) 31 28
/-- The job decrypts or verifies. -/
def jobOp (d : List Byte) : Bool := bitOf (jobWord d 0) 27
def jobPrio (d : List Byte) : Nat := bitsOf (jobWord d 0) 26 24
def jobEngine (d : List Byte) : Nat := bitsOf (jobWord d 0) 23 21
def jobTag (d : List Byte) : Nat := bitsOf (jobWord d 0) 20 16
def jobKey (d : List Byte) : Nat := bitsOf (jobWord d 0) 11 0
def jobLen (d : List Byte) : Nat := jobWord d 1
def jobAad (d : List Byte) : Nat := if jobMode d = 3 ∨ jobMode d = 4 then bitsOf (jobWord d 2) 15 0 else 0
def jobIrq (d : List Byte) : Bool := bitOf (jobWord d 3) 0
def jobSrc (d : List Byte) : Nat := leAt d 16 8
def jobDst (d : List Byte) : Nat := leAt d 24 8
def jobCmpl (d : List Byte) : Nat := leAt d 32 8
def jobIv (d : List Byte) : List Byte := slice d 40 16
/-- The job uses a key. -/
def jobKeyed (d : List Byte) : Bool := jobMode d != 8 && jobMode d != 10
/-- Tag bytes at the end of the source. -/
def jobTail (d : List Byte) : Nat :=
  if jobOp d && (jobMode d == 3 || jobMode d == 4 || jobMode d == 7 || jobMode d == 9) then jobTag d else 0

/-- Bytes that the job writes to its destination (R370). -/
def jobOutLen (d : List Byte) : Nat :=
  match jobMode d with
  | 3 | 4 => jobLen d - jobAad d - jobTail d + (if jobOp d then 0 else jobTag d)
  | 7 | 9 => if jobOp d then 0 else jobTag d
  | 8 => 32
  | 10 => 0
  | _ => jobLen d

/-- Destination bytes written once `p` source bytes are done; a tag or digest is written at the end. -/
def jobProduced (d : List Byte) (p : Nat) : Nat :=
  match jobMode d with
  | 3 | 4 => min (p - jobAad d) (jobLen d - jobAad d - jobTail d)
  | 7 | 8 | 9 | 10 => 0
  | _ => min p (jobLen d)

/-- The rules of R370 hold: a mode, its lengths, and for a Courser its addresses. [DEDUCED, log entry 96] -/
def jobFormat (requester : Nat) (d : List Byte) : Bool :=
  let n := jobLen d
  let tag := jobTag d
  let fits := decide (jobAad d + jobTail d ≤ n)
  let modeOk :=
    match jobMode d with
    | 1 => n % 16 == 0
    | 2 => true
    | 3 => 12 ≤ tag && tag ≤ 16 && fits
    | 4 => 4 ≤ tag && tag ≤ 16 && tag % 2 == 0 && fits
    | 5 => true
    | 6 => true
    | 7 => 4 ≤ tag && tag ≤ 16 && fits
    | 8 => !jobOp d
    | 9 => 16 ≤ tag && tag ≤ 32 && fits
    | 10 => jobOp d && n == 160
    | _ => false
  let inDmem := requester < 33 ||
    (jobSrc d + n ≤ 32768 && jobDst d ≤ 32767 && jobDst d + jobOutLen d ≤ 32768 && jobCmpl d + 32 ≤ 32768)
  modeOk && 1 ≤ n && n ≤ 16777215 && inDmem && jobEngine d ≤ 4

/-! ### What a job computes (R370, R373) -/

/-- The destination bytes of a job and whether its check passes. [PRESUMED, log entry 99] -/
def jobResult (key iv src d : List Byte) : List Byte × Bool :=
  let n := jobLen d
  let src := slice src 0 n
  let op := jobOp d
  let tag := jobTag d
  let aad := src.take (jobAad d)
  let body := (src.drop (jobAad d)).take (n - jobAad d - jobTail d)
  let tail := src.drop (n - jobTail d)
  match jobMode d with
  | 1 => (Config.aesCbc (!op) key iv src, true)
  | 2 => (Config.aesCtr key iv src, true)
  | 3 =>
    if op then
      let plain := Config.aesCtr key (iv.take 12 ++ beBytes 4 2) body
      let sealed := Config.aesGcmSeal key (iv.take 12) aad plain
      (plain, (sealed.drop body.length).take tag == tail)
    else
      let sealed := Config.aesGcmSeal key (iv.take 12) aad body
      (sealed.take (body.length + tag), true)
  | 4 =>
    if op then
      (Config.aesCtr key (beBytes 1 2 ++ iv.take 12 ++ beBytes 3 1) body,
        Config.aesCcmVerify key (iv.take 12) aad body tail)
    else (Config.aesCcmSeal key (iv.take 12) tag aad body, true)
  | 5 => (Config.aesCfb (!op) key iv src, true)
  | 6 => (Config.aesOfb key iv src, true)
  | 7 =>
    let mac := (Config.aesCmac key body).take tag
    if op then ([], mac == tail) else (mac, true)
  | 8 => (Config.sha256 src, true)
  | 9 =>
    let mac := (Config.hmacSha256 key body).take tag
    if op then ([], mac == tail) else (mac, true)
  | 10 => ([], Config.ecdsaVerify (slice src 32 64) (slice src 96 64) (slice src 0 32))
  | _ => ([], true)

/-! ### Engines and places -/

/-- CIP_STATUS follows the jobs: which engines run one, and which contexts hold one (R376, R383). -/
def State.cipShow (s : State) : State :=
  let running := s.cip.jobs.filter fun j => j.run == .running
  let held := s.cip.jobs.filter fun j => j.run == .suspended
  let busy := (List.range 4).foldl (fun v n => if running.any fun j => j.engine == n then v + 2 ^ n else v) 0
  s.fsets [(CIP_STATUS_engine_busy, busy), (CIP_STATUS_ecdsa_busy, b2n (running.any fun j => j.engine == 4)),
    (CIP_STATUS_ctx_free, 32 - held.length)]

def State.setJobs (s : State) (l : List Job) : State := ({ s with cip := { s.cip with jobs := l } } : State).cipShow

/-- A job replaced by its new form. -/
def State.jobSet (s : State) (j : Job) : State := s.setJobs (s.cip.jobs.map fun x => if x.seq = j.seq then j else x)

/-- A job is gone, and with it its place. -/
def State.jobDrop (s : State) (j : Job) : State := s.setJobs (s.cip.jobs.filter fun x => x.seq != j.seq)

/-- The engines run: CORE is powered, and in Paddock the Wake Plan names them (R420). -/
def State.bulkOn (s : State) : Bool := s.coreOn && (s.fget PWK_STATE_state != 1 || bitOf (s.plan 0x0C 1) 3)

/-- A job may run on engine n: 0 to 3 by its engine field, 4 (the ECDSA unit) for mode 10. A job that names an absent
engine is taken by any, which completes it (R13). -/
def jobAllows (v : Variant) (d : List Byte) (n : Nat) : Bool :=
  if jobMode d = 10 then n == 4
  else n < 4 && (jobEngine d == 0 || jobEngine d == n + 1 || !enginePresent v (jobEngine d - 1))

def State.jobOn (s : State) (n : Nat) : Option Job := s.cip.jobs.find? fun j => j.run == .running && j.engine == n

/-- The device itself has a use for the ECDSA unit, which takes it before the next job (R376): a COMMIT that comes to its
signature (R64), or Ostler's firmware being read and verified (R84). [DESIGN CHOICE, log entry 150] -/
def State.ecdsaClaimed (s : State) : Bool :=
  (match s.nvmRun with
    | some c => c.opcode == 3 && (c.status == 0 || c.status == 0x15)
    | none => false) || s.fget GLB_OSTLER_STATUS_state == 1

/-- CIP_STATUS as it reads: the ECDSA unit is busy with a job or with a use of the device's own (R383).
[DESIGN CHOICE, log entry 150] -/
def State.cipWord (s : State) : Word :=
  if s.ecdsaClaimed then setField (s.reg CIP_STATUS) 4 4 1 else s.reg CIP_STATUS

/-- The order in which waiting jobs are taken (R376): priority, suspended before fresh, then submission order. -/
def jobBefore (a b : Job) : Bool :=
  let p := jobPrio a.desc
  let q := jobPrio b.desc
  let x := a.run == .suspended
  let y := b.run == .suspended
  q < p || (p == q && ((x && !y) || (x == y && a.seq < b.seq)))

/-- Jobs in the order in which they are taken. -/
def jobSort : List Job → List Job
  | [] => []
  | j :: l =>
    let t := jobSort l
    t.takeWhile (fun x => jobBefore x j) ++ j :: t.dropWhile (fun x => jobBefore x j)

/-- The jobs that wait for an engine, the next one first. -/
def State.jobsWaiting (s : State) : List Job := jobSort (s.cip.jobs.filter fun j => j.run != .running)

/-! ### Completion (R373 to R375) -/

/-- Ostler's SRAM, 1 MiB, holds bytes at an address; what lies beyond it is nowhere (R35, R476). -/
def State.ramWrite (s : State) (addr : Nat) (bs : List Byte) : State :=
  { s with super := { s.super with ram := memWrite s.super.ram addr (bs.take (0x100000 - addr)) } }

/-- A requester's memory takes bytes of a job: host memory, Ostler SRAM, or the Courser's data memory. -/
def State.jobWrite (s : State) (requester addr : Nat) (bs : List Byte) : State :=
  if bs.isEmpty then s
  else if requester < 32 then s.emit (.hostWrite addr bs)
  else if requester = 32 then (s.ramWrite addr bs).emit (.ostlerWrite addr bs)
  else if addr + bs.length ≤ 32768 then s.dmemWrite (requester - 33) addr bs
  else s

/-- The completion record (R374). -/
def jobRecord (j : Job) (status : Nat) (authFail : Bool) (outLen : Nat) (iv : List Byte) (cycles : Nat) : List Byte :=
  leBytes 4 (status * 2 ^ 16 + b2n authFail * 2 ^ 15 + b2n j.wasSuspended * 2 ^ 14 + j.engine * 2 ^ 11) ++
    leBytes 4 outLen ++ slice iv 0 16 ++ leBytes 4 (min cycles 0xFFFFFFFF) ++ leBytes 4 0

/-- A bulk job ends with its completion record, its counters and events (R374, R375); a frame job that ends so is
discarded (R380). [DEDUCED, log entry 98] -/
def State.jobEnd (s : State) (j : Job) (status : Nat) (authFail : Bool) (outLen : Nat) (iv : List Byte) (cycles : Nat) : State :=
  let s := s.jobDrop j
  if j.frame.isSome then s.cipCnt 6
  else
    let s := s.jobWrite j.requester (jobCmpl j.desc) (jobRecord j status authFail outLen iv cycles)
    let s := s.cipCnt 0
    let s := if authFail then (s.cipCnt 1).raise 1121 else s
    if j.requester ≤ 32 then (if jobIrq j.desc then s.raise (1088 + j.requester) else s)
    else
      let k := j.requester - 33
      s.setCrs k { s.crs k with cip := true }

/-- The value of R372 that a job has used, for its completion record: none for op 1, and for a job that has not run. -/
def jobIvOut (j : Job) : List Byte := if jobOp j.desc then [] else j.iv

/-- A job that has not been completed by its engine ends with a status; its cycle count is free.
[DEDUCED, log entry 97] -/
def State.jobFail (s : State) (j : Job) (status outLen : Nat) : State :=
  (s.drew 1).jobEnd j status false outLen (jobIvOut j) (s.free % 2 ^ 32)

/-- The key of a job (R371, R385, R386), or the status it completes with. -/
def State.jobKeyOf (s : State) (j : Job) : Except Nat (List Byte) :=
  if !s.cinched || s.isSet KEY_STATUS_closed then .error 0x30
  else if !s.keyInRange j.owner (jobKey j.desc) then .error 0x2B
  else
    match s.keySlot (jobKey j.desc) with
    | none => .error 0x2D
    | some v => if v.usage = b2n (jobOp j.desc) then .ok v.key else .error 0x2C

/-- A job whose key fails its checks (R371): KEY_REFUSED, or a use counted while the Tack Room is closed.
[DEDUCED, log entry 98] -/
def State.jobKeyFail (s : State) (j : Job) (status outLen : Nat) : State :=
  let s := if status = 0x30 then s.countSat (KEY_CNT 7) else (s.cipCnt 2).raise 1123
  s.jobFail j status outLen

/-! ### Submission (R368) -/

/-- Jobs that a host function or Ostler holds. -/
def State.jobsOf (s : State) (requester : Nat) : Nat :=
  (s.cip.jobs.filter fun j => j.requester == requester && j.frame.isNone).length

/-- JOB_SUBMIT (R368): a write of CIP_SUBMITf_HI, f being 32 for the Ostler pair. `desc` is what the descriptor fetch at
the submitted address returns. [DEDUCED, log entry 95] -/
def execJobSubmit (r : Requester) (f : Nat) (desc : List Byte) (s : State) : Host.Outcome State Fault Refusal :=
  let own := match r with
    | .func n => n == f && f < 32
    | .ostler => f == 32
    | .svc => false
  if !own then .next s
  else
    match s.ownerOf r with
    | none => .next s
    | some o =>
      if 16 ≤ s.jobsOf f then
        let bit : Fld := if f < 32 then ⟨CIP_SUBMIT_REFUSED, f, f⟩ else CIP_SUBMIT_REFUSED_OST_ostler
        .next ((s.fset bit 1).cipCnt 5)
      else .next (s.jobAdd f o (slice desc 0 64))

/-! ### Start (R370 to R372, R376, R389) -/

/-- The status of a fresh job that fails a check before its key is asked for. [DEDUCED, log entry 96] -/
def jobRefusal (v : Variant) (j : Job) : Option Nat :=
  let d := j.desc
  if !jobFormat j.requester d then some 0x17
  else if jobEngine d != 0 && !enginePresent v (jobEngine d - 1) then some 0x23
  else if !jobOp d && leNat (jobIv d) != 0 then some 0x2F
  else none

/-- The IV, nonce or counter of a fresh job (R372): built by the device for op 0, the descriptor's for op 1.
[DEDUCED, log entry 97] -/
def State.jobIvOf (s : State) (d : List Byte) : State × List Byte :=
  let mode := jobMode d
  if jobOp d then (s, jobIv d)
  else if mode = 2 ∨ mode = 3 ∨ mode = 4 then
    let base := beBytes 4 (s.reg CIP_BOOT_FIELD).toNat ++ beBytes 8 s.cip.jobCounter
    ({ s with cip := { s.cip with jobCounter := (s.cip.jobCounter + 1) % 2 ^ 64 } }, if mode = 2 then base ++ beBytes 4 0 else base)
  else if mode = 1 ∨ mode = 5 ∨ mode = 6 then (s.drew 16, s.freeBytes 16)
  else (s, [])

/-- A job runs on engine n. -/
def State.jobRun (s : State) (j : Job) (n : Nat) : State :=
  let s := s.jobSet { j with run := .running, engine := n, started := s.cip.startNext }
  { s with cip := { s.cip with startNext := s.cip.startNext + 1 } }

/-- A fresh job starts on engine n with its key. What the DMA reads of an Ostler job's source is what the SRAM holds there. -/
def State.jobFresh (s : State) (j : Job) (n : Nat) (key : List Byte) (src : Option (List Byte)) : State :=
  let d := j.desc
  let counter := !jobOp d && 2 ≤ jobMode d && jobMode d ≤ 4
  if counter && (s.reg CIP_BOOT_FIELD).toNat == 0xFFFFFFFF then s.jobFail { j with engine := n } 0x31 0
  else
    let bytes :=
      if j.frame.isSome then some j.source
      else if 33 ≤ j.requester then some (s.dmemRead (j.requester - 33) (jobSrc d) (jobLen d))
      else src
    match bytes with
    | none => s.jobFail { j with engine := n } 0x32 0
    | some bs =>
      let s := if j.requester = 32 then s.ramWrite (jobSrc d) (slice bs 0 (jobLen d)) else s
      let iv := s.jobIvOf d
      iv.1.jobRun { j with key := key, iv := iv.2, source := bs } n

/-- Engine n takes a job. -/
def State.jobTake (s : State) (j : Job) (n : Nat) (src : Option (List Byte)) : State :=
  let d := j.desc
  if j.run == .suspended then
    if !jobKeyed d then s.jobRun j n
    else
      match s.jobKeyOf j with
      | .error e => s.jobKeyFail { j with engine := n } e (jobProduced d j.progress)
      | .ok key => s.jobRun { j with key := key, rekeyed := j.rekeyed || key != j.key } n
  else
    match jobRefusal s.variant j with
    | some e => s.jobFail { j with engine := n } e 0
    | none =>
      if !jobKeyed d then s.jobFresh j n [] src
      else
        match s.jobKeyOf j with
        | .error e => s.jobKeyFail { j with engine := n } e 0
        | .ok key => s.jobFresh j n key src

/-- JOB_START (R376): free engine n (4 the ECDSA unit) takes the job that is next for it. `src` is what the DMA reads of a
host or Ostler job's source, none for a failed read; a Courser's source stands in its data memory. No job starts on the ECDSA
unit while the device has a use for it. [DEDUCED, log entry 95] -/
def execJobStart (n : Nat) (src : Option (List Byte)) (s : State) : Host.Outcome State Fault Refusal :=
  if !s.bulkOn || !(n == 4 || enginePresent s.variant n) || (s.jobOn n).isSome || n == 4 && s.ecdsaClaimed then .next s
  else
    match s.jobsWaiting.find? fun j => jobAllows s.variant j.desc n with
    | none => .next s
    | some j => .next (s.jobTake j n src)

/-! ### Suspension (R376) -/

/-- The running job that gives way to waiting job w: the lowest priority below w's on an engine that w may use, the later
started of two; none while such an engine is free. -/
def State.jobVictim (s : State) (w : Job) : Option Job :=
  let usable := (List.range 4).filter fun n => enginePresent s.variant n && jobAllows s.variant w.desc n
  if jobMode w.desc = 10 || usable.any fun n => (s.jobOn n).isNone then none
  else
    (usable.filterMap s.jobOn).foldl (fun (best : Option Job) j =>
      if jobPrio w.desc ≤ jobPrio j.desc then best
      else
        match best with
        | none => some j
        | some b =>
          if jobPrio j.desc < jobPrio b.desc || (jobPrio j.desc == jobPrio b.desc && b.started < j.started) then some j
          else best) none

/-- JOB_SUSPEND (R376): the running job that gives way is suspended with `done` source bytes done, a multiple of its block;
what it has produced by then is written. -/
def execJobSuspend (done : Nat) (s : State) : Host.Outcome State Fault Refusal :=
  if s.fget CIP_STATUS_ctx_free = 0 then .next s
  else
    match s.jobsWaiting.findSome? s.jobVictim with
    | none => .next s
    | some j =>
      let d := j.desc
      let block := if jobMode d = 8 ∨ jobMode d = 9 then 64 else 16
      if done % block != 0 || done < j.progress || jobLen d < done then .next s
      else
        let p := jobProduced d j.progress
        let q := jobProduced d done
        let new := if j.rekeyed then s.freeBytes (q - p) else ((jobResult j.key j.iv j.source d).1.drop p).take (q - p)
        let s := if j.rekeyed then s.drew (q - p) else s
        let s := if j.frame.isSome then s else s.jobWrite j.requester (jobDst d + p) new
        .next ((s.jobSet { j with run := .suspended, wasSuspended := true, progress := done }).cipCnt 4)

/-! ### End of a job -/

/-- The rest of a running job's destination bytes and whether its check fails; free where its key changed under it. -/
def State.jobRest (s : State) (j : Job) : State × List Byte × Bool :=
  let p := jobProduced j.desc j.progress
  let n := jobOutLen j.desc - p
  if j.rekeyed then (s.drew (n + 1), s.freeBytes n, jobTail j.desc != 0 && bitOf (s.drew n).free 0)
  else
    let r := jobResult j.key j.iv j.source j.desc
    (s, r.1.drop p, !r.2)

/-- JOB_COMPLETE (R373, R374): the bulk job on engine n ends after `cycles` CORECLK cycles; `writeFail` says that a
destination write failed, which leaves its out_len free. -/
def execJobComplete (n : Nat) (writeFail : Bool) (cycles : Nat) (s : State) : Host.Outcome State Fault Refusal :=
  match s.jobOn n with
  | none => .next s
  | some j =>
    if j.frame.isSome then .next s
    else if writeFail then .next ((s.drew 1).jobEnd j 0x32 false (s.free % 2 ^ 32) (jobIvOut j) cycles)
    else
      let (s, rest, bad) := s.jobRest j
      let s := s.jobWrite j.requester (jobDst j.desc + jobProduced j.desc j.progress) rest
      .next (s.jobEnd j 0 bad (jobOutLen j.desc) (jobIvOut j) cycles)

/-! ### Frame jobs (R380) -/

/-- The offset of the byte after the EtherType, after any C-tag. -/
def fjobHead (bs : List Byte) : Nat := etherOffset bs + 2

/-- The lowest valid CIP_FJOB entry of a frame's stream and owner. -/
def State.fjobMatch (s : State) (f : Frame) : Option Nat :=
  (List.range 16).find? fun i =>
    s.isSet (CIP_FJOB_valid i) && f.stream == some (s.fget (CIP_FJOB_stream i)) && s.fget (CIP_FJOB_owner i) == f.owner

/-- The job of a frame under entry i: GCM with a 16-byte tag at priority 4, as a descriptor of R369 would say it.
[DEDUCED, log entry 100] -/
def State.fjobOf (s : State) (f : Frame) (i : Nat) : Job :=
  let bs := f.bytes
  let h := min (fjobHead bs) bs.length
  let op := s.fget (CIP_FJOB_op i)
  let body := bs.drop h
  let src := bs.take h ++ (if op = 1 then body.drop 12 else body)
  let iv := if op = 1 then slice body 0 12 else []
  { requester := 200, owner := f.owner, seq := s.cip.jobNext,
    desc := leBytes 4 (3 * 2 ^ 28 + op * 2 ^ 27 + 4 * 2 ^ 24 + 16 * 2 ^ 16 + s.fget (CIP_FJOB_key i)) ++
      leBytes 4 src.length ++ leBytes 4 h ++ leBytes 4 0 ++ leBytes 24 0 ++ slice iv 0 16 ++ leBytes 8 0,
    source := src, frame := some (f, i) }

/-- FRAME_JOB (R380): the next frame delivered to logical port 82, class 7 first, is matched and submitted.
[DEDUCED, log entry 100] -/
def execFrameJob (s : State) : Host.Outcome State Fault Refusal :=
  match ((List.range 8).reverse.map (egressKey 82)).find? fun k => !(s.egressQ k).isEmpty with
  | none => .next s
  | some k =>
    match s.egressQ k with
    | [] => .next s
    | f :: rest =>
      let s := s.setEgressQ k rest
      match s.fjobMatch f with
      | none => .next (s.cipCnt 6)
      | some i =>
        let short := s.isSet (CIP_FJOB_op i) && decide (f.bytes.length < fjobHead f.bytes + 28)
        if f.lane || 2048 < f.bytes.length || f.bytes.length ≤ fjobHead f.bytes || short then .next (s.cipCnt 6)
        else
          .next { s with cip := { s.cip with jobs := s.cip.jobs ++ [s.fjobOf f i], jobNext := s.cip.jobNext + 1 } }

/-- FRAME_JOB_DONE (R380): the frame job on engine n ends; its result enters pipeline B on f24, or nothing is released. -/
def execFrameJobDone (n : Nat) (s : State) : Host.Outcome State Fault Refusal :=
  match s.jobOn n with
  | none => .next s
  | some j =>
    match j.frame with
    | none => .next s
    | some (f, _) =>
      let r := jobResult j.key j.iv j.source j.desc
      let s := s.jobDrop j
      let head := f.bytes.take (fjobHead f.bytes)
      if j.rekeyed || !r.2 then .next (s.cipCnt 6)
      else
        let body := if jobOp j.desc then r.1 else j.iv ++ r.1
        .next (s.offer 24 { bytes := head ++ body, src := 82, owner := f.owner, cls := f.cls, ts := f.ts, rx0 := s.timeNs 0 })

/-! ### Tamper and teardown (R377) -/

/-- A tamper aborts a job: its destination is zero-filled and it completes with TAMPER_ABORT. -/
def State.jobAbort (s : State) (j : Job) : State :=
  let n := jobOutLen j.desc
  let s := if j.frame.isSome then s else s.jobWrite j.requester (jobDst j.desc) (List.replicate n 0)
  ((s.jobFail j 0x2E n).cipCnt 3).raise 1122

/-- A tamper aborts every running job and each suspended job that uses the key of one. -/
def State.jobsTamper (s : State) : State :=
  let running := s.cip.jobs.filter fun j => j.run == .running
  let same := fun (j : Job) => j.run == .suspended && jobKeyed j.desc &&
    running.any fun x => jobKeyed x.desc && jobKey x.desc == jobKey j.desc
  (running ++ s.cip.jobs.filter same).foldl (fun t j => t.jobAbort j) s

/-- Teardown discards an owner's jobs without a completion record, a frame job with its frame (R377). -/
def State.jobsLose (s : State) (o : Nat) : State :=
  s.setJobs (s.cip.jobs.filter fun j => j.owner != o)

end Sys2Proof.Machine
end

