-- ==== Sys2Proof/Machine/Super.lean ====
section
/-!
DEFINITION. Ostler's watchdog, halts and restarts (R84, R478), the shared-resource arbiters (R490 to R495), and the event
controller's own rows: pending bits, coalescing windows, journal readers and the black box (R499 to R509).
-/

namespace Sys2Proof.Machine

/-! ### Journal readers (R502) -/

/-- JOURNAL_HIGH is raised when occupancy has risen to EVC_JRNL_CTRL.high since state `old`. -/
def State.highRaise (s old : State) : State :=
  let high := s.fget EVC_JRNL_CTRL_high
  if old.occupied < high ∧ high ≤ s.occupied then s.raise 1482 else s

/-- The read index that a newly enabled reader takes: the lowest of the enabled ones, or that of the oldest record held. -/
def State.oldestRd (s : State) : Nat :=
  let back := if s.readers.isEmpty then s.journalHeld else s.occupied
  (s.fget EVC_JRNL_WR_wr + 8192 - back) % 8192

/-- Enabling the host's reader, or with `ost` Ostler's, which joins only while Ostler runs.
[DEDUCED, log entry 128] -/
def State.readerEnable (s : State) (ost : Bool) : State :=
  let en := if ost then EVC_JRNL_CTRL_ost_en else EVC_JRNL_CTRL_host_en
  if s.isSet en then s
  else
    let rd := s.oldestRd
    let t := s.fset en 1
    let t := if ost && !s.ostlerRuns then t else t.fset (if ost then EVC_JRNL_RD_OST_rd else EVC_JRNL_RD_HOST_rd) rd
    t.highRaise s

/-- READER_ENABLE (R502): a write sets host_en or ost_en. -/
def execReaderEnable (r : Requester) (ost : Bool) (s : State) : Host.Outcome State Fault Refusal :=
  if !s.coreOn then .next s else .next (s.privWrite r EVC_JRNL_CTRL fun s => s.readerEnable ost)

/-- A write of a reader index (R502): backwards or past wr it is ignored, counted and raised. -/
def State.rdWrite (s : State) (ost : Bool) (rd : Nat) : State :=
  let f := if ost then EVC_JRNL_RD_OST_rd else EVC_JRNL_RD_HOST_rd
  let old := s.fget f
  let ahead := (rd % 8192 + 8192 - old) % 8192
  if ahead ≤ (s.fget EVC_JRNL_WR_wr + 8192 - old) % 8192 then s.fset f (rd % 8192)
  else (s.countSat EVC_RD_REJECT).raise 1484

/-- A write of EVC_JRNL_RD_HOST, from owner 0 and the owner bound to PF0, or with `ost` of EVC_JRNL_RD_OST, from Ostler firmware
only (the table of R507). -/
def State.rdAccess (s : State) (r : Requester) (ost : Bool) (rd : Nat) : State :=
  if ost then (if r = .ostler then s.rdWrite true rd else s.rejectWrite r 0 (EVC_JRNL_RD_OST / 4))
  else s.privWrite r EVC_JRNL_RD_HOST fun s => s.rdWrite false rd

/-- JOURNAL_RD_WRITE (R502). -/
def execJournalRdWrite (r : Requester) (ost : Bool) (rd : Nat) (s : State) : Host.Outcome State Fault Refusal :=
  if !s.coreOn then .next s else .next (s.rdAccess r ost rd)

/-! ### Pending bits and windows -/

/-- The requester may clear a source's pending bit (R501): privileged, or a function bound to the source's owner. -/
def State.mayClear (s : State) (r : Requester) (src : Nat) : Bool :=
  s.privileged r || s.ownerOf r == some (s.fget (EVC_SRC_owner src))

/-- A write of ones to EVC_PENDn (R501). Bits that the requester may not clear are kept, and the write then counts as an
ignored one (R409). -/
def State.pendClear (s : State) (r : Requester) (n v : Nat) : State :=
  let bits := (List.range 32).filter fun b => bitOf v b
  let ok := bits.filter fun b => s.mayClear r (32 * n + b)
  let t := ok.foldl (fun (u : State) b => u.fset (pendFld (32 * n + b)) 0) s
  if ok.length < bits.length then t.rejectWrite r 0 (EVC_PEND n / 4) else t

/-- PEND_CLEAR (R499, R501): a write of `v` to EVC_PENDn. -/
def execPendClear (r : Requester) (n v : Nat) (s : State) : Host.Outcome State Fault Refusal :=
  if !s.coreOn || 48 ≤ n then .next s else .next (s.pendClear r n v)

/-- The count record of a window (R506). -/
def State.countRecord (s : State) (src : Nat) : Record :=
  let w := s.window src
  { isCount := true, cls := s.fget (EVC_SRC_class src), owner := s.fget (EVC_SRC_owner src), event := src
    time := w.firstTime, uptime := w.lastUptime, lastTime := w.lastTime, count := min w.hidden 0xFFFFFFFF }

/-- COALESCE_WINDOW_END (R503): a window that hid occurrences writes a count record and a new one opens; otherwise, and where
jrnl and bb have both been cleared since, the source is idle. -/
def execCoalesceWindowEnd (src : Nat) (s : State) : Host.Outcome State Fault Refusal :=
  let w := s.window src
  if 1536 ≤ src || !w.isOpen then .next s
  else if w.hidden = 0 ∨ !(s.isSet (EVC_SRC_jrnl src) || s.isSet (EVC_SRC_bb src)) then .next (s.setWindow src {})
  else
    let r := s.sendRecord (s.countRecord src)
    let s := r.1.setWindow src { isOpen := true }
    if r.2 then .next (s.raise 1482) else .next s

/-! ### The black box (R507) -/

/-- BB_WRITE (R507): the oldest staged copy is written as the next record of the black box. -/
def execBbWrite (s : State) : Host.Outcome State Fault Refusal :=
  match s.bbStaged with
  | [] => .next s
  | r :: rest =>
    if !s.coreOn || !s.isSet EVC_BB_STATUS_ready then .next s
    else
      let i := s.fget EVC_BB_STATUS_next
      let s := { s with bbStaged := rest, blackBox := put noRecord s.blackBox i r }
      .next (s.fset EVC_BB_STATUS_next ((i + 1) % 32768))

/-- The record of the black box with the highest sequence number: its index and that number. -/
def State.boxHighest (s : State) : Option (Nat × Nat) :=
  s.blackBox.foldl (fun (m : Option (Nat × Nat)) e =>
    match m with
    | some (_, q) => if q < e.2.seq then some (e.1, e.2.seq) else m
    | none => some (e.1, e.2.seq)) none

/-- BB_SCAN_DONE (R507): numbering continues from the highest number found, for the copies that wait in staging too. -/
def execBbScanDone (s : State) : Host.Outcome State Fault Refusal :=
  if !s.cinched || s.isSet EVC_BB_STATUS_ready then .next s
  else
    let base := match s.boxHighest with
      | some (i, q) => ((i + 1) % 32768, q + 1)
      | none => (0, 0)
    let staged := s.bbStaged.map fun (r : Record) => ({ r with seq := (r.seq + base.2) % 2 ^ 32 } : Record)
    let s := { s with bbStaged := staged, bbSeq := s.bbSeq + base.2 }
    .next (s.fsets [(EVC_BB_STATUS_next, base.1), (EVC_BB_STATUS_ready, 1)])

/-! ### Ostler (R84, R478, R481) -/

/-- Ostler's firmware is read from now on: after the first cinch, or on settling in state 0 or 3 (R82). -/
def State.ostlerLoad (s : State) : State :=
  if s.fget GLB_OSTLER_STATUS_state = 0 then s.fset GLB_OSTLER_STATUS_state 1 else s

/-- The Ostler firmware region of MRAM (R36). -/
def firmwareBase : Nat := 0x1400000

/-- OSTLER_FIRMWARE_READ (R84): the 2 MiB are read and verified. Ostler starts, and its journal reader joins if it is enabled
(R502), or it stays halted. The verification waits for the job on the ECDSA unit (R376). -/
def execOstlerFirmwareRead (s : State) : Host.Outcome State Fault Refusal :=
  if s.fget GLB_OSTLER_STATUS_state ≠ 1 ∨ (s.jobOn 4).isSome then .next s
  else if Config.firmwareVerifies (memRead s.mram firmwareBase 0x200000) then
    let rd := s.oldestRd
    let t := s.fsets [(GLB_OSTLER_STATUS_state, 2), (GLB_OSTLER_STATUS_halt_cause, 0)]
    let t := if s.isSet EVC_JRNL_CTRL_ost_en then (t.fset EVC_JRNL_RD_OST_rd rd).highRaise s else t
    .next t.evalReady
  else .next (s.fsets [(GLB_OSTLER_STATUS_state, 3), (GLB_OSTLER_STATUS_halt_cause, 1)] |>.raise 1461)

/-- OSTLER_KICK (R478, R481): accepted from Ostler firmware only. The 100 ms that it starts anew are not held.
[DESIGN CHOICE, log entry 123] -/
def execOstlerKick (r : Requester) (s : State) : Host.Outcome State Fault Refusal :=
  if !s.coreOn then .next s
  else if r = .ostler then .next s
  else .next (s.rejectWrite r 0 (GLB_OSTLER_CTRL / 4))

/-- Ostler halts (R478): its requests in flight are abandoned. A halt within 1 s of a restart has no automatic restart.
[DEDUCED, log entry 124] -/
def State.ostlerHalt (s : State) (cause event : Nat) : State :=
  let soon := match s.super.restartTick with
    | some t => decide (s.ticks ≤ t + 250000000)
    | none => false
  let mine := fun (q : SigReq) => match q.reader with
    | some (.ostler, _) => false
    | _ => true
  let s := s.fsets [(GLB_OSTLER_STATUS_state, 3), (GLB_OSTLER_STATUS_halt_cause, cause)]
  let s := { s with
    super := { s.super with stays := soon }, sig := { s.sig with reqs := s.sig.reqs.filter mine }
    host := { s.host with mbox := [] } }
  (s.raise event).evalReady

/-- WATCHDOG (R478): 100 ms without a kick. [DESIGN CHOICE, log entry 123] -/
def execWatchdog (s : State) : Host.Outcome State Fault Refusal :=
  if s.ostlerRuns then .next (s.ostlerHalt 3 1462) else .next s

/-- LOCKSTEP (R478): Ostler's two cores disagree. -/
def execLockstep (s : State) : Host.Outcome State Fault Refusal :=
  if s.ostlerRuns then .next (s.ostlerHalt 2 1460) else .next s

/-- Ostler restarts with its SRAM cleared: its firmware is read and verified again. [DEDUCED, log entry 124] -/
def State.ostlerRestart (s : State) : State :=
  let s := { s with super := { s.super with restartTick := some s.ticks, stays := false, ram := [] } }
  (((s.fset GLB_OSTLER_STATUS_state 1).fcount GLB_OSTLER_STATUS_restarts)).raise 1463

/-- OSTLER_AUTO_RESTART (R478): 1 ms after a halt by the watchdog or the lockstep. -/
def execOstlerAutoRestart (s : State) : Host.Outcome State Fault Refusal :=
  if s.fget GLB_OSTLER_STATUS_state = 3 ∧ 2 ≤ s.fget GLB_OSTLER_STATUS_halt_cause ∧ s.super.stays = false then
    .next s.ostlerRestart
  else .next s

/-- A write of GLB_OSTLER_CTRL.restart (R478, R481): accepted from the service port and PF0; it restarts a halted Ostler. -/
def State.restartWrite (s : State) (r : Requester) : State :=
  if r = .svc ∨ r = .func 0 then (if s.fget GLB_OSTLER_STATUS_state = 3 then s.ostlerRestart else s)
  else s.rejectWrite r 0 (GLB_OSTLER_CTRL / 4)

/-- OSTLER_RESTART (R478). -/
def execOstlerRestart (r : Requester) (s : State) : Host.Outcome State Fault Refusal :=
  if !s.coreOn then .next s else .next (s.restartWrite r)

/-! ### Arbiters (R490 to R495) -/

/-- Requesters of arbiter a: those of the normal class, then those of the pre-emptor class (R491). -/
def arbiterShape (a : Nat) : Nat × Nat :=
  match a with
  | 0 => (4, 2)
  | 1 => (5, 2)
  | 2 | 3 => (5, 2)
  | 4 => (5, 2)
  | _ => (21, 2)

/-- A requester's unit is on this part (R491): the second aggregator, the Teams and the power die may be absent. -/
def requesterPresent (v : Variant) (a r : Nat) : Bool :=
  if a = 0 ∧ r = 1 ∨ a = 1 ∧ r = 3 ∨ 5 ≤ a ∧ r = 17 then lanePresent v 24
  else if 5 ≤ a ∧ r < 16 then teamPresent v r
  else if 5 ≤ a ∧ r = 19 then batPresent v || outputPresent v 0 || outputPresent v 16
  else r < (arbiterShape a).1 + (arbiterShape a).2

/-- [DESIGN CHOICE, log entry 127] -/
def noRanks (k : Nat) : List Nat :=
  let n := arbiterShape (k / 2)
  if k % 2 = 0 then List.range n.1 else (List.range n.2).map (n.1 + ·)

/-- The requesters of a class of arbiter a, the highest rank first. -/
def State.ranks (s : State) (k : Nat) : List Nat := look noRanks s.super.ranks k

/-- The requester drops to the lowest rank of its class. [DESIGN CHOICE, log entry 127] -/
def State.rankDrop (s : State) (k r : Nat) : State :=
  { s with super := { s.super with ranks := put noRanks s.super.ranks k ((s.ranks k).filter (· != r) ++ [r]) } }

/-- The winner among the waiting requesters, a bit mask, and its class: a pre-emptor before any normal request. -/
def State.arbiterPick (s : State) (a waiting : Nat) : Option (Nat × Bool) :=
  let asks := fun r => bitOf waiting r && requesterPresent s.variant a r
  match (s.ranks (2 * a + 1)).find? asks with
  | some r => some (r, true)
  | none => ((s.ranks (2 * a)).find? asks).map fun r => (r, false)

/-- The completed grant of requester r counts, with its wait (R494, R495). -/
def State.grantCount (s : State) (a r wait : Nat) : State :=
  let s := (s.countSat (ARB_GRANTS a r)).addSat (ARB_WAIT_SUM a r) wait
  let s := s.setReg (ARB_WAIT_MAX a r) (word (max (s.reg (ARB_WAIT_MAX a r)).toNat (min wait 0xFFFFFFFF)))
  let limit := s.fget (ARB_WAIT_LIMIT_limit a)
  if limit ≠ 0 ∧ limit < wait ∧ s.isSet (ARB_OVER_LOG_valid a) = false then
    (s.fsets [(ARB_OVER_LOG_valid a, 1), (ARB_OVER_LOG_requester a, r), (ARB_OVER_LOG_wait a, min wait 65535)]).raise 1464
  else s

/-- ARBITER_GRANT (R490): arbiter a grants one of the requesters that wait, a bit mask, and the transfer completes after a
wait of `wait` cycles. `running` is the requester in mid-transfer: a pre-emptor interrupts a normal one, which keeps its rank
and its request. -/
def execArbiterGrant (a waiting : Nat) (running : Option Nat) (wait : Nat) (s : State) : Host.Outcome State Fault Refusal :=
  if !s.coreOn || 21 ≤ a then .next s
  else
    match s.arbiterPick a waiting with
    | none => .next s
    | some (r, pre) =>
      let cut := match running with
        | some q => if pre && q < (arbiterShape a).1 && requesterPresent s.variant a q then some q else none
        | none => none
      let s := match cut with
        | some q => (s.countSat (ARB_RESTARTS a q)).countSat (ARB_PREEMPTS a)
        | none => s
      .next ((s.rankDrop (2 * a + b2n pre) r).grantCount a r wait)

end Sys2Proof.Machine
end

