-- ==== Sys2Proof/Machine/Trigger.lean ====
section
/-!
DEFINITION. The firing of a trigger comparator (R343, R345, R346) and its consumers: lane transmit buffers, Courser waits,
converter sequences, output updates and GPIO pulses.
-/

namespace Sys2Proof.Machine

/-- The lane buffers of comparator n become eligible, or are suppressed outside the guard (R139). -/
def State.trigLanes (s : State) (n : Nat) (inside : Bool) : State :=
  (List.range 48).foldl (fun (u : State) lane =>
    [4, 5, 6, 7].foldl (fun (u : State) k =>
      if u.isSet (LANE_TB_CTRL_pending lane k) && !(u.tx lane k).cont && u.isSet (LANE_TB_CTRL_trig_en lane k) &&
          u.fget (LANE_TB_CTRL_trig lane k) == n && !(u.tx lane k).fired then
        if inside then u.setTx lane k { u.tx lane k with fired := true } else u.tbRelease lane k 5
      else u) u) s

/-- The Coursers that selected comparator n note cause TRIG (R286). -/
def State.trigCoursers (s : State) (n : Nat) : State :=
  (List.range 128).foldl (fun (u : State) k =>
    if bitOf (u.reg (CRS_CTRIG (k / 8) (k % 8))).toNat n && (u.crs k).named then u.setCrs k { u.crs k with trig := true } else u) s

/-- The mode-1 sequences of comparator n start, and the outputs that it updates take their sample or slot (R462). -/
def State.trigLoads (s : State) (n : Nat) : State :=
  let s := (List.range 8).foldl (fun (u : State) q =>
    if u.fget (BAT_SEQ_CTRL_mode q) = 1 ∧ u.fget (BAT_SEQ_CTRL_comp q) = n then u.seqStart q else u) s
  (List.range 20).foldl (fun (u : State) j =>
    if outputPresent u.variant j && u.isSet (PWR_OUT_CFG_trig_en j) && u.fget (PWR_OUT_CFG_trig j) == n &&
        !(u.fget (PWR_OUT_CFG_mode j) == 4 && j % 2 == 1) then u.outUpdate j
    else u) s

/-- Comparator n fires to its consumers (R345). -/
def State.trigConsumers (s : State) (n : Nat) : State :=
  let inside := s.inside (s.fget (TMB_TRIG_CTRL_domain n))
  let s := (s.tmbCnt 7 1).countSat (TMB_TRIG_COUNT n)
  let s := ((s.trigLanes n inside).trigCoursers n).trigLoads n
  if s.isSet (TMB_TRIG_CTRL_pulse_en n) then s.pulseStart n else s

/-- After it has fired or been suppressed (R345): a one-shot comparator is disabled, a periodic one advances its target
beyond the time, counting the additions after the first. -/
def State.trigAdvance (s : State) (n : Nat) : State :=
  let period := (s.reg (TMB_TRIG_PERIOD n)).toNat
  let late := look (fun _ => false) s.trigLate n
  let s := { s with trigLate := put (fun _ => false) s.trigLate n false }
  if period = 0 then
    let s := s.fset (TMB_TRIG_CTRL_enable n) 0
    if late then s.raise 1372 else s
  else
    let target := look zero s.trigTarget n
    let k := (s.timeNs (s.fget (TMB_TRIG_CTRL_domain n)) - target) / period + 1
    let s := { s with trigTarget := put zero s.trigTarget n (target + k * period) }
    let s := if 2 ≤ k then s.tmbCnt 8 (k - 1) else s
    if late || decide (2 ≤ k) then s.raise 1372 else s

/-- TRIGGER_FIRE (R345): comparator n, enabled, whose domain's time has reached its target. With need_guard outside the
guard it advances without firing (R343). -/
def execTriggerFire (n : Nat) (s : State) : Host.Outcome State Fault Refusal :=
  let d := s.fget (TMB_TRIG_CTRL_domain n)
  if 32 ≤ n || !s.isSet (TMB_TRIG_CTRL_enable n) || decide (s.timeNs d < look zero s.trigTarget n) then .next s
  else if s.isSet (TMB_TRIG_CTRL_need_guard n) && !s.inside d then .next ((s.tmbCnt 9 1).trigAdvance n)
  else .next ((s.trigConsumers n).trigAdvance n)

end Sys2Proof.Machine
end

