-- ==== Sys2Proof/Machine/Bus.lean ====
section
/-!
DEFINITION. A write of one word of the register map in the blocks that register presets may address (R15, R54, R529 to
R536): which requester may write, and what the write does. `img` marks a write of the image load, for which RWC fields are
writable and nothing outside the register starts. The other blocks and the table aperture are in Access.lean.
-/

namespace Sys2Proof.Machine

/-- The next state of a command that is part of another. [DESIGN CHOICE, log entry 5] -/
def stateOr (o : Host.Outcome State Fault Refusal) (s : State) : State :=
  match o with
  | .next t => t
  | _ => s

/-! ### EVC (R498, R501, R502, R508, R509) -/

/-- The bits of EVC_SRCn that a write changes: R498 fixes enable, jrnl, bb, hrb and ost of a class 0 source, R505 jrnl and bb of
JOURNAL_LOST and BB_LOST; the class is RWC and never written 0. -/
def evcMask (img : Bool) (src : Nat) (v : Word) : Nat :=
  if isClass0 src then 0x011F3F00
  else
    let m := if src = 1480 ∨ src = 1481 then 0x871F3F00 else 0x9F1F3F00
    if img && getField v 30 29 != 0 then m + 0x60000000 else m

/-- A function that EVC_SRCn may name (R501): bound to owner 0, to the owner bound to PF0, or to the source's owner.
[DESIGN CHOICE, log entry 141] -/
def State.evcFuncOk (s : State) (src f : Nat) : Bool :=
  match s.boundOwner f with
  | some o => o == 0 || some o == s.boundOwner 0 || o == s.fget (EVC_SRC_owner src)
  | none => false

/-- A write of EVC_SRCn (R501, R509). A source whose jrnl and bb are both clear keeps no window (R503). -/
def State.evcSrc (s : State) (img : Bool) (r : Requester) (src : Nat) (v : Word) : State :=
  if !sourcePresent s.variant src then s
  else if !s.evcFuncOk src (getField v 20 16) then s.rejectWrite r 0 (EVC_SRC src / 4)
  else
    let m := word (evcMask img src v)
    let s := s.setReg (EVC_SRC src) ((s.reg (EVC_SRC src) &&& ~~~m) ||| (v &&& m))
    if s.isSet (EVC_SRC_jrnl src) || s.isSet (EVC_SRC_bb src) then s else s.setWindow src {}

/-- A write of EVC_JRNL_CTRL: each reader bit that rises joins its reader (R502). -/
def State.jrnlCtrl (s : State) (v : Word) : State :=
  let s := if getField v 0 0 = 1 then s.readerEnable false else s.fset EVC_JRNL_CTRL_host_en 0
  let s := if getField v 1 1 = 1 then s.readerEnable true else s.fset EVC_JRNL_CTRL_ost_en 0
  s.fset EVC_JRNL_CTRL_high (getField v 28 16)

def State.evcWrite (s : State) (img : Bool) (r : Requester) (a : Nat) (v : Word) : State :=
  if EVC_PEND 0 ≤ a ∧ a < EVC_PEND 48 then s.pendClear r ((a - EVC_PEND 0) / 4) v.toNat
  else if a = EVC_JRNL_RD_OST then s.rdAccess r true (getField v 12 0)
  else if a = EVC_JRNL_RD_HOST then s.rdAccess r false (getField v 12 0)
  else
    s.privWrite r a fun s =>
      if a = EVC_JRNL_CTRL then s.jrnlCtrl v
      else if EVC_SRC 0 ≤ a ∧ a < EVC_SRC 1536 then s.evcSrc img r ((a - EVC_SRC 0) / 4) v
      else s.plainWrite img a v

/-! ### TMB (R337 to R347, R354 to R358) -/

/-- A write in the window of time domain d. -/
def State.domainWrite (s : State) (img : Bool) (d a : Nat) (v : Word) : State :=
  if a = TMB_INC_FRAC d then
    (if !s.isSet TMB_MODE_mode && d != 0 then s.tmbCnt 2 1 else s.setReg a v)
  else if a = TMB_INC_INT d then s.incCommit d (getField v 7 0)
  else if a = TMB_STEP_CTRL d then
    let s := if getField v 1 1 = 1 then s.setReg (TMB_THRESH d) (word (look zero s.planThresh d)) else s
    if getField v 0 0 = 1 then s.tick.stepNow d else s
  else if a = TMB_THRESH d then s.threshWrite d v
  else if a = TMB_SYNC_REPORT d then s.syncReport d v
  else s.plainWrite img a v

/-- The pin that comparator n names after a write, where the write has changed the pin (R347). -/
def State.trigPinTo (s old : State) (n : Nat) : State :=
  if s.fget (TMB_TRIG_CTRL_gpio n) = old.fget (TMB_TRIG_CTRL_gpio n) then s else old.pinFollow s (s.fget (TMB_TRIG_CTRL_gpio n))

/-- A write in the window of comparator n: enabling it looks whether its target is already reached (R346); a period from 1 to
99 is ignored (R345). -/
def State.trigWrite (s : State) (img : Bool) (n a : Nat) (v : Word) : State :=
  if a = TMB_TRIG_CTRL n then
    let t := s.plainWrite img a v
    let t := (s.pinFollow t (s.fget (TMB_TRIG_CTRL_gpio n))).trigPinTo s n
    if s.isSet (TMB_TRIG_CTRL_enable n) then t else t.trigSet n
  else if a = TMB_TRIG_TGT_HI n then s.trigCommit n v
  else if a = TMB_TRIG_PERIOD n ∧ v.toNat ≠ 0 ∧ v.toNat < 100 then s
  else s.plainWrite img a v

def State.tmbBlock (s : State) (img : Bool) (r : Requester) (a : Nat) (v : Word) : State :=
  s.tmbWrite r a fun s =>
    if a < TMB_MODE then s.domainWrite img ((a - TMB_TIME_LO 0) / 0x40) a v
    else if TMB_TRIG_CTRL 0 ≤ a ∧ a < TMB_CAP_CTRL 0 then s.trigWrite img ((a - TMB_TRIG_CTRL 0) / 0x20) a v
    else s.plainWrite img a v

/-! ### HST (R168, R169, R514, R519, R528) -/

/-- A pending vector whose mask goes sends its message. -/
def State.msixUnmask (s : State) (f v : Nat) : State :=
  if look (fun _ => false) s.msixPending (64 * f + v) then
    ({ s with msixPending := put (fun _ => false) s.msixPending (64 * f + v) false } : State).sendMsix f v
  else s

/-- A write of word i of a function's MSI-X table. [DEDUCED, log entry 131] -/
def State.msixWrite (s : State) (f i : Nat) (v : Word) : State :=
  let old := look (fun _ => (0 : Word)) s.msix (256 * f + i)
  let new := if i % 4 = 3 then v &&& 1 else v
  let s := { s with msix := put (fun _ => (0 : Word)) s.msix (256 * f + i) new }
  if i % 4 = 3 ∧ old = 1 ∧ new = 0 then s.msixUnmask f (i / 4) else s

/-- A write in an endpoint's window: word 0 of an address entry is held until word 1 is written (R163, R170).
[DEDUCED, log entry 48] -/
def State.epWrite (s : State) (img : Bool) (a : Nat) (v : Word) : State :=
  if heldAddr a then s.steerHold a v
  else if heldAddr (a - 4) then (s.setReg (a - 4) (s.regLast (a - 4))).plainWrite img a v
  else s.plainWrite img a v

def State.hstWrite (s : State) (img : Bool) (r : Requester) (a : Nat) (v : Word) : State :=
  if 0x44000 ≤ a ∧ a < 0x44400 then
    match r with
    | .func f => s.msixWrite f ((a - 0x44000) / 4) v
    | _ => s
  else if HST_EP_CTRL 2 ≤ a then s.ownedWrite r 0 a fun s => s.epWrite img a v
  else if HST_EP_CTRL 0 ≤ a then s.privWrite r a fun s => s.epWrite img a v
  else if HST_QP_CFG 0 ≤ a ∧ a < HST_QP_CFG 64 then
    let q := (a - HST_QP_CFG 0) / 0x40
    if a = HST_QP_CFG q then s.qpCfgWrite r q v else s.qpWrite r q a fun s => s.plainWrite img a v
  else s.privWrite r a fun s => s.plainWrite img a v

/-! ### PWR and BAT (R446, R456, R470 to R473) -/

/-- Which of the conditions that end outside the model, the junction, an open load and a short to VLOAD, persist at a bus write
of PWR_OUT_FAULT: a free value. [DESIGN CHOICE, log entry 4] -/
def State.faultsPersist (s : State) : Nat := s.free &&& 0xC8

def State.pwrWrite (s : State) (img : Bool) (r : Requester) (a : Nat) (v : Word) : State :=
  if a = PWR_STATUS then (if getField v 31 31 = 1 then stateOr (execPlkLostClear s) s else s)
  else if PWR_PROF_SEG 0 0 ≤ a then
    s.outWrite r ((a - PWR_PROF_SEG 0 0) / 0x100) a fun s => s.plainWrite img a v
  else if PWR_OUT_CFG 0 ≤ a then
    let j := (a - PWR_OUT_CFG 0) / 0x100
    if a = PWR_OUT_CMD j then s.outWrite r j a fun s => s.outCommand j v
    else if a = PWR_OUT_FAULT j then s.outWrite r j a fun s => (s.drew 1).faultClear j v.toNat s.faultsPersist
    else if a = PWR_PROF_CTRL j then s.profWrite r j v
    else s.outWrite r j a fun s => s.plainWrite img a v
  else s.privWrite r a fun s => s.plainWrite img a v

def State.batWrite (s : State) (img : Bool) (r : Requester) (a : Nat) (v : Word) : State :=
  let q := (a - BAT_SEQ_CTRL 0) / 0x40
  if BAT_SEQ_CTRL 0 ≤ a ∧ a = BAT_SEQ_GO q then
    (if getField v 0 0 = 1 then s.seqGo r q else s)
  else
    s.privWrite r a fun s =>
      if a = BAT_CTRL then
        let s := s.plainWrite img a (v &&& 1)
        let s := if getField v 1 1 = 1 then s.measStart else s
        (if getField v 2 2 = 1 then s.testStart else s).balEval
      else if a = BAT_BAL_MASK then (s.plainWrite img a v).balEval
      else s.plainWrite img a v

/-! ### SWC, FWD and STM (R213, R218, R221, R246, R253, R255, R258, R265, R269, R270) -/

/-- The test cause of the scheduler follows force_iter (R233). [DEDUCED, log entry 68] -/
def State.forceIter (s : State) (img : Bool) (v : Word) : State :=
  let s := s.plainWrite img SWC_SCHED_CTRL v
  s.fset SWC_SCHED_STATUS_cause_test (s.fget SWC_SCHED_CTRL_force_iter)

/-- [DEDUCED, log entry 68] -/
def State.swcWrite (s : State) (img : Bool) (r : Requester) (a : Nat) (v : Word) : State :=
  if a = SWC_SCHED_CTRL then s.ownedWrite r 0 a fun s => s.forceIter img v
  else s.privWrite r a fun s => s.plainWrite img a v

def State.fwdWrite (s : State) (img : Bool) (r : Requester) (a : Nat) (v : Word) : State :=
  let p := (a - FWD_CTRL 0) / 0x10000
  if a = FWD_TBL_CMD p then s.tblWrite r p v
  else if a = FWD_SCRUB p then s.ownedWrite r 0 a fun s => s.plainWrite img a v
  else
    s.privWrite r a fun s =>
      match bitmapWord (a - FWD_CTRL p) with
      | some w => s.plainWrite img a (v &&& word (presentBits s.variant w))
      | none => s.plainWrite img a v

/-- The idle slopes of port n's enabled classes, with class c's register at `v`, exceed the port's speed (R255).
[DEDUCED, log entry 73] -/
def State.slopesOver (s : State) (n c : Nat) (v : Word) : Bool :=
  let slope := fun (k : Nat) =>
    let w := if k = c then v else s.reg (STM_CBS_SLOPE n k)
    if getField w 31 31 = 1 then getField w 23 0 else 0
  decide (s.portSpeed n * 1000 < (List.range 8).foldl (fun t k => t + slope k) 0)

/-- A write in the window of port n of STM. A shaper that a sealed sub-block placed is locked (R60, R216).
[DESIGN CHOICE, log entry 139; DEDUCED, log entry 140] -/
def State.stmPort (s : State) (img : Bool) (r : Requester) (n a : Nat) (v : Word) : State :=
  if a = STM_GCL_CTRL n then (if img then s.plainWrite img a (v &&& 0x80000030) else s.gclWrite n v)
  else if STM_CBS_SLOPE n 0 ≤ a ∧ a ≤ STM_CBS_SLOPE n 7 then
    if s.isSealed a && !img then (s.tabDenied .gate).rejectWrite r 0 (a / 4)
    else if s.slopesOver n ((a - STM_CBS_SLOPE n 0) / 4) v then s.tabReject .gate
    else (s.creditUpdate n).plainWrite img a v
  else if STM_GCL_BASE_LO n ≤ a ∧ a ≤ STM_GCL_ADMIN n ∧ s.isSet (STM_GCL_STATUS_pending n) then s
  else s.plainWrite img a v

/-- A write in the window of stream gate g: its list starts when enable becomes set (R253). -/
def State.sgateWrite (s : State) (img : Bool) (g a : Nat) (v : Word) : State :=
  if g = 0 then s
  else
    let was := s.isSet (STM_SGATE_CTRL_enable g)
    let s := s.plainWrite img a v
    if a = STM_SGATE_CTRL g ∧ !was ∧ s.isSet (STM_SGATE_CTRL_enable g) then s.sgateEnable g else s

/-- [DEDUCED, log entry 73] -/
def State.stmWrite (s : State) (img : Bool) (r : Requester) (a : Nat) (v : Word) : State :=
  if a = STM_SCRUB then s.ownedWrite r 0 a fun s => s.plainWrite img a v
  else
    s.privWrite r a fun s =>
      if a = STM_SCHOOL_CTRL then s.schoolCtrlWrite v
      else if a = STM_SCHOOL_PERIOD ∧ (getField v 16 0 < 10 ∨ 86400 < getField v 16 0) then s
      else if STM_GCL_CTRL 0 ≤ a then s.stmPort img r ((a - STM_GCL_CTRL 0) / 0x100) a v
      else if STM_SGATE_CTRL 0 ≤ a then s.sgateWrite img ((a - STM_SGATE_CTRL 0) / 0x40) a v
      else s.plainWrite img a v

/-! ### EMAC and LANE (R111, R116, R117, R136, R163, R177, R183) -/

def State.emacWrite (s : State) (img : Bool) (r : Requester) (a : Nat) (v : Word) : State :=
  let n := (a - EMAC_CFG 0) / 0x1000
  let i := (a - EMAC_STEER n 0) / 16
  s.macWrite r n a fun s =>
    if a = EMAC_CTRL n ∧ !img then
      (s.portEnable n (getField v 3 3 == 1)).fset (EMAC_CTRL_default_pcp n) (getField v 2 0)
    else if EMAC_STEER n 0 ≤ a ∧ a < EMAC_STEER n 64 then
      if a = EMAC_STEER n i then s.steerCommit n i v
      else
        match s.rowAt a with
        | some row => s.steerHold a (v &&& word row.rw)
        | none => s
    else s.plainWrite img a v

/-- A write of LANE_PHY_CTRL (R111). [DESIGN CHOICE, log entry 142] -/
def State.phyCtrl (s : State) (n : Nat) (v : Word) : State :=
  let on := getField v 0 0 == 1
  let s :=
    if s.laneKind n = 0 || s.laneEnabled n == on then s
    else if on then s.laneEnable n
    else s.laneDisable n
  s.fset (LANE_PHY_CTRL_int_loopback n) (getField v 1 1)

/-- A write of LANE_LIN_SCHED (R143, R155): a schedule that begins to run starts from slot 0. -/
def State.schedWrite (s : State) (img : Bool) (n : Nat) (v : Word) : State :=
  let was := s.isSet (LANE_LIN_SCHED_run n)
  let s := s.plainWrite img (LANE_LIN_SCHED n) v
  if !was && s.isSet (LANE_LIN_SCHED_run n) then s.setLane n { s.lane n with linNext := 0 } else s

/-- A write in the window of lane n. The selective-wake registers of a lane whose wake is not 2 keep 0 (R114). -/
def State.lanePart (s : State) (img : Bool) (n a : Nat) (v : Word) : State :=
  let off := a - LANE_PHY_CFG n
  if (0x100 ≤ off ∧ s.laneKind n = 0) ∨ (0x20 ≤ off ∧ off < 0x100 ∧ s.fget (LANE_PHY_CFG_wake n) ≠ 2) then s
  else if a = LANE_LIN_SCHED n then s.schedWrite img n v
  else if a = LANE_PHY_CTRL n ∧ !img then s.phyCtrl n v
  else if a = LANE_PHY_FAULT n then s.clearFaults n v
  else if a = LANE_RXQ0_CTRL n then s.watermarkWrite n 0 (getField v 6 0)
  else if a = LANE_RXQ1_CTRL n then s.watermarkWrite n 1 (getField v 6 0)
  else if a = LANE_RXQ0_IDX n then s.ackWrite n 0 (getField v 22 16)
  else if a = LANE_RXQ1_IDX n then s.ackWrite n 1 (getField v 22 16)
  else if LANE_TB_CTRL n 0 ≤ a ∧ a ≤ LANE_TB_CTRL n 7 then s.tbCtrlWrite n ((a - LANE_TB_CTRL n 0) / 4) v
  else if 0x500 ≤ off ∧ off < 0x600 ∧ s.laneKind n ≠ 2 ∧ s.laneKind n ≠ 3 then
    let k := (off - 0x500) / 32
    if k < 4 || s.isSet (LANE_TB_CTRL_pending n k) then s else s.plainWrite img a v
  else s.plainWrite img a v

def State.laneBlock (s : State) (img : Bool) (r : Requester) (a : Nat) (v : Word) : State :=
  let n := (a - LANE_PHY_CFG 0) / 0x800
  s.laneWrite r n a fun s => s.lanePart img n a v

/-! ### CRS and SIG (R298 to R300, R331) -/

/-- A write of CRS_CCTRL: halt, then restart. -/
def State.cctrlWrite (s : State) (k : Nat) (v : Word) : State :=
  let s := if getField v 0 0 = 1 then s.crsHalt k else s
  if getField v 1 1 = 1 then s.crsRestart k else s

def State.crsBlock (s : State) (img : Bool) (r : Requester) (a : Nat) (v : Word) : State :=
  let t := (a - CRS_TEAM_CFG 0) / 0x1000
  let c := (a - CRS_CCTRL t 0) / 0x20
  if a = CRS_DOORBELL t then stateOr (execDoorbellRing r t v s) s
  else if CRS_CCTRL t 0 ≤ a ∧ a = CRS_CCTRL t c then s.crsWrite r (8 * t + c) a fun s => s.cctrlWrite (8 * t + c) v
  else if CRS_CCTRL t 0 ≤ a ∧ a = CRS_CTRIG t c then s.crsWrite r (8 * t + c) a fun s =>
    -- a Courser that no program block names takes no write (R272)
    if (s.crs (8 * t + c)).named then s.plainWrite img a v else s
  else s.privWrite r a fun s => s.plainWrite img a v

def State.sigWrite (s : State) (img : Bool) (r : Requester) (a : Nat) (v : Word) : State :=
  if a = SIG_SCRUB ∨ a = SIG_RT_SCRUB then s.ownedWrite r 0 a fun s => s.plainWrite img a v
  else if a = SIG_ECC_LOG then s.plainWrite img a v
  else s.privWrite r a fun s => s.plainWrite img a v

/-! ### The blocks together (R534) -/

/-- A write of a word at a register-map address in a block that presets may address. An address with no register is ignored
(R530). -/
def State.blockWrite (s : State) (img : Bool) (r : Requester) (a : Nat) (v : Word) : State :=
  if unitAbsent s.variant a then s.absentWrite
  else if (s.rowAt a).isNone && !(0x44000 ≤ a && a < 0x44400) then s
  else
    match a / 0x10000 with
    | 0x02 => s.evcWrite img r a v
    | 0x03 => s.tmbBlock img r a v
    | 0x04 => s.hstWrite img r a v
    | 0x05 => s.privWrite r a fun s => s.plainWrite img a v
    | 0x0C => s.pwrWrite img r a v
    | 0x0D => s.batWrite img r a v
    | 0x10 => s.swcWrite img r a v
    | 0x11 | 0x12 => s.fwdWrite img r a v
    | 0x13 => s.stmWrite img r a v
    | 0x14 => s.emacWrite img r a v
    | 0x18 | 0x19 => s.laneBlock img r a v
    | 0x20 => s.crsBlock img r a v
    | 0x30 => s.sigWrite img r a v
    | _ => s

end Sys2Proof.Machine
end

