-- ==== Sys2Proof/Machine/Gateway.lean ====
section
/-!
DEFINITION. The signal gateway (R303 to R332): route lookup at the lane aggregators, the Hitch units with their deferral,
the staleness sweep, the frames that definitions build, IEEE 1722 containers and tunnels in both directions, and the
route scrubber.
-/

namespace Sys2Proof.Machine

/-- The aggregator, and the Hitch unit, of a lane. -/
def aggOf (lane : Nat) : Nat := if lane < 24 then 0 else 1

/-- The count of frame route d rises, saturating (R306). -/
def State.routeCount (s : State) (d : Nat) : State :=
  let n := s.eget (routeAt d) ROUTE_count
  s.eset (routeAt d) ROUTE_count (min (n + 1) (2 ^ 31 - 1))

/-! ### Route lookup (R304, R305) -/

/-- The first frame route of a lane frame's bucket. -/
def routeBucket (lane : Nat) (ide : Bool) (id : Nat) : Nat := 4 * (laneKeyCrc lane ide id % 16384)

/-- Frame route i is the receive route of a key. [DEDUCED, log entry 89] -/
def State.routeIs (s : State) (i lane : Nat) (ide : Bool) (id : Nat) : Bool :=
  let a := routeAt i
  !s.isBad a && s.eIs a ROUTE_valid && !s.eIs a ROUTE_lock && s.eget a ROUTE_kind == 1 && s.eget a RXR_lane == lane &&
    s.eIs a RXR_ide == ide && s.eget a RXR_id == id

/-- The receive route of a lane frame; a bad way met before it is found (R329). [DEDUCED, log entry 89] -/
def State.routeLookup (s : State) (lane : Nat) (f : LaneFrame) : State × Option Nat :=
  let b := routeBucket lane f.ide f.id
  let hit := (List.range 4).find? fun w => s.routeIs (b + w) lane f.ide f.id
  let seen := match hit with | some w => w | none => 4
  ((List.range seen).foldl (fun (u : State) w => (u.check .frameRoute (b + w)).1) s, hit.map (b + ·))

/-! ### IEEE 1722 frames (R321, R322, R325) -/

/-- Zero bytes up to the first length that, FCS included, is a multiple of 16 bytes and at least 64. -/
def padFrame (bs : List Byte) : List Byte :=
  let n := max 64 ((bs.length + 4 + 15) / 16 * 16)
  bs ++ List.replicate (n - 4 - bs.length) 0

/-- The state as definition d's frame is built in: with the definition as it stood at the last write to a slot that emits into
it, since a change of it takes effect at the next (R318). One that no emit route names is as its entry now says.
[DEDUCED, log entry 159] -/
def State.defView (s : State) (d : Nat) : State :=
  let old := (s.defn d).entry
  let named := (s.usedEntries .signalRoute).any fun r =>
    s.eIs (sigrAt r) SIGR_valid && s.eIs (sigrAt r) SIGR_dir && s.eget (sigrAt r) SIGR_def == d
  if old.isEmpty || !named then s else s.setAper (routeAt d) old

/-- The frame of Ethernet definition d around its ACF messages. -/
def State.ethDefBytes (s : State) (d seq : Nat) (acf : List Byte) : List Byte :=
  let a := routeAt d
  let tag := if s.eIs a ETHD_tagged then
    beBytes 2 0x8100 ++ beBytes 2 (s.eget a ETHD_pcp * 8192 + s.eget a ETHD_vid) else []
  padFrame (beBytes 2 (s.eget a ETHD_mac_hi) ++ beBytes 4 (s.eget a ETHD_mac_lo) ++ s.gwMac ++ tag ++ beBytes 2 0x22F0 ++
    beBytes 1 0x82 ++ beBytes 2 (0x8000 + acf.length % 2048) ++ beBytes 1 seq ++ beBytes 4 (s.eget a ETHD_stream_id_hi) ++
    beBytes 4 (s.eget a ETHD_stream_id_lo) ++ acf)

/-- Ethernet definition d's frame is built and presented to pipeline B (R321). The frame is given the first lane of its
aggregator as its source port. -/
def State.ethDefSend (s : State) (d : Nat) (acf : List Byte) : State :=
  let a := routeAt d
  let w := s.defView d
  let agg := w.eget a ETHD_agg
  if agg = 1 ∧ !lanePresent s.variant 24 then s
  else
    let v := s.defn d
    let out := w.eget a ETHD_out
    let f : Frame :=
      { bytes := w.ethDefBytes d (v.seq % 256) acf, src := if agg = 0 then 16 else 40, owner := w.eget a ETHD_owner,
        cls := w.eget a ETHD_class, stream := if w.eIs a ETHD_stream_en then some (w.eget a ETHD_stream) else none,
        resolved := if out = 127 then none else some [out], rx0 := s.timeNs 0 }
    let s := s.setDefn d { v with seq := (v.seq + 1) % 256 }
    ((s.offer (12 + agg) f).gwCount 9 1).routeCount d

/-- The ACF CAN message of a lane frame (R325). [PRESUMED, log entry 88] -/
def acfCan (f : LaneFrame) (ts bus : Nat) : List Byte :=
  let n := (f.data.length + 3) / 4
  let pad := 4 * n - f.data.length
  beBytes 2 (0x01 * 512 + (4 + n)) ++
    beBytes 1 (pad * 64 + 32 + b2n f.rtr * 16 + b2n f.ide * 8 + b2n f.brs * 4 + b2n (f.format == 1) * 2 + b2n f.esi) ++
    beBytes 1 (bus % 32) ++ beBytes 8 ts ++ beBytes 4 (f.id % 2 ^ 29) ++ f.data ++ List.replicate pad 0

/-- The tunnel's messages leave in one frame. -/
def State.tunnelSend (s : State) (d : Nat) : State :=
  let v := s.defn d
  if v.msgs.isEmpty then s else (s.setDefn d { v with msgs := [] }).ethDefSend d v.msgs.flatten

/-- A tunnel definition that sends: valid, unlocked, and of good parity, which a bad one is found not to be. -/
def State.tunnelUsable (s : State) (d : Nat) : State × Bool :=
  let c := s.check .frameRoute d
  let w := c.1.defView d
  (c.1, c.2 && w.isDef d 3 && w.eIs (routeAt d) ETHD_tunnel && !c.1.eIs (routeAt d) ROUTE_lock)

/-- A message joins a tunnel; if it would exceed max_elems, the frame before it leaves at once. -/
def State.tunnelAdd (s : State) (d : Nat) (m : List Byte) : State :=
  let u := s.tunnelUsable d
  if !u.2 then u.1
  else
    let s := u.1
    let s := if (s.defView d).eget (routeAt d) ETHD_max_elems ≤ (s.defn d).msgs.length then s.tunnelSend d else s
    let v := s.defn d
    s.setDefn d { v with msgs := v.msgs ++ [m] }

/-- TUNNEL_SEND (R325): the holdoff of tunnel definition d has passed since its first pending message. -/
def execTunnelSend (d : Nat) (s : State) : Host.Outcome State Fault Refusal :=
  if 65536 ≤ d ∨ !s.routingReady then .next s
  else
    let u := s.tunnelUsable d
    .next (if u.2 then u.1.tunnelSend d else u.1)

/-! ### Actions (R308) -/

/-- The output set of a receive route for a frame of `lane`; a group loses the ingress port (R190). -/
def State.routeOut (s : State) (a lane : Nat) : List Nat :=
  let o := s.eget a RXR_out
  if s.eIs a RXR_out_group then (s.maskPorts (FWD_MCGRP 1 (o % 64))).filter (· != 16 + lane) else [o]

/-- A frame enters pipeline B as a resolved frame of receive route at `a`. -/
def State.routeForward (s : State) (a lane : Nat) (f : LaneFrame) (ts rx0 : Nat) : State :=
  s.offer (fabricOf (16 + lane))
    { bytes := laneBytes f ts, lane := true, src := 16 + lane, owner := s.eget a RXR_owner, cls := s.eget a RXR_class,
      stream := if s.eIs a RXR_stream_en then some (s.eget a RXR_stream) else none, ts := ts,
      resolved := some (s.routeOut a lane), rx0 := rx0 }

/-- An identifier: 29 bits when extended, else 11. -/
def idField (ide : Bool) (id : Nat) : Nat := if ide then id % 2 ^ 29 else id % 2 ^ 11

/-- The action of a receive route. -/
def State.routeAction (s : State) (a lane : Nat) (f : LaneFrame) (ts rx0 : Nat) : State :=
  match s.eget a RXR_action with
  | 0 => s
  | 1 => s.routeForward a lane f ts rx0
  | 2 =>
    let ide := f.format != 2 && s.eIs a RXR_new_ide
    s.routeForward a lane { f with ide := ide, id := idField ide (s.eget a RXR_new_id) } ts rx0
  | _ =>
    if f.format = 2 then s.fmtDiscard
    else s.tunnelAdd (s.eget a RXR_link) (acfCan f ts (s.eget a RXR_new_id % 32))

/-! ### The Hitch unit (R313, R314) -/

def noDeferred (_ : Nat) : List (Nat × WqEntry) := []
def State.deferBuf (s : State) (u : Nat) : List (Nat × WqEntry) := look noDeferred s.gw.deferred u

/-- Hitch unit u's deferral buffer replaced, with its level and peak. -/
def State.setDeferBuf (s : State) (u : Nat) (l : List (Nat × WqEntry)) : State :=
  let s := { s with gw := { s.gw with deferred := put noDeferred s.gw.deferred u l } }
  let level := if u = 0 then SIG_GW_STATUS_defer0 else SIG_GW_STATUS_defer1
  let peak := if u = 0 then SIG_DEFER_PEAK_peak0 else SIG_DEFER_PEAK_peak1
  (s.fset level l.length).fset peak (max (s.fget peak) l.length)

/-- An entry is dropped for want of room or of its Team. [DEDUCED, log entry 85] -/
def State.deferDrop (s : State) : State := (s.gwCount 8 1).raise 1439

/-- A work-queue entry for Team t from Hitch unit u: posted, deferred or dropped (R314). -/
def State.hitchPost (s : State) (u t : Nat) (e : WqEntry) : State :=
  if !teamPresent s.variant t then s.deferDrop
  else
    let s := s.gwCount 6 1
    let l := s.deferBuf u
    let full := s.teamPowered t && s.teamHas t e.owner && decide (256 ≤ (s.workQ t).length)
    if full || l.any fun x => x.1 == t then
      let s := if full then s.crsCnt t 2 else s
      if 4096 ≤ l.length then s.deferDrop
      else
        let s := s.gwCount 7 1
        let s := s.setDeferBuf u (l ++ [(t, e)])
        if l.isEmpty then s.raise 1438 else s
    else (s.wqPost t e).1

/-- DEFERRED_RELEASE (R314): the oldest entry of Hitch unit u whose Team's queue has space moves to it.
[DEDUCED, log entry 85] -/
def execDeferredRelease (u : Nat) (s : State) : Host.Outcome State Fault Refusal :=
  match (s.deferBuf u).find? fun x => decide ((s.workQ x.1).length < 256) with
  | none => .next s
  | some x => .next ((s.setDeferBuf u ((s.deferBuf u).erase x)).wqPost x.1 x.2).1

/-- Extract route r of receive route `rx` on a frame (R313, R314, R560). -/
def State.extract (s : State) (rx r lane : Nat) (f : LaneFrame) (ts batch : Nat) : State :=
  let a := sigrAt r
  let c := s.check .signalRoute r
  let s := c.1
  let prog := s.eIs a SIGR_prog
  let slot := s.eget a SIGR_slot
  let owner := s.eget a SIGR_owner
  if !c.2 || !s.eIs a SIGR_valid || s.eIs a SIGR_dir then s
  else if owner != s.eget rx RXR_owner || (!prog && s.slotOwner slot != owner) then s.gwReject
  else
    let len := s.eget a SIGR_len_m1 + 1
    let walk := bitWalk (s.eIs a SIGR_be) len (s.eget a SIGR_pos)
    if !walkIn f.data.length walk then s.gwCount 5 1
    else
      let bits := walkGet f.data walk
      let raw : Int := if s.eIs a SIGR_bit27 then signed len bits else bits
      if prog then
        let v := unsigned 64 raw
        s.hitchPost (aggOf lane) (s.eget a SIGR_team)
          { w0 := 2 ^ 28 + s.eget a SIGR_param * 2 ^ 20 + slot, w1 := v % 2 ^ 32, w2 := v / 2 ^ 32, w3 := ts % 2 ^ 32, owner := owner }
      else
        (s.gwCount 4 1).sendSig
          { kind := .hWr, slot := slot, owner := owner, value := unsigned 64 (s.routeConvert a raw), batch := batch }

/-- Every extract route of a receive route, in index order. -/
def State.extractAll (s : State) (rx lane : Nat) (f : LaneFrame) (ts : Nat) : State :=
  let b := s.newBatch
  (List.range (s.eget rx RXR_sig_count)).foldl
    (fun (u : State) i => u.extract rx (s.eget rx RXR_sig_first + i) lane f ts b.2) b.1

/-- A lane copy that has passed Schooling, received at `rx0` in time domain 0 (R210, R304, R305). A frame of a draining owner
fails the owner check (R411). -/
def State.aggregate (s : State) (lane : Nat) (f : LaneFrame) (ts rx0 : Nat) : State :=
  if s.fget (LANE_PHY_CFG_kind lane) = 4 then
    let pcp := if ctagged f.data then beAt f.data 14 1 / 32 else 0
    s.offer (fabricOf (16 + lane))
      { bytes := f.data, src := 16 + lane, owner := s.portOwnerOf (16 + lane), ts := ts,
        cls := look (fun _ => 0) s.defaultClass (8 + pcp), rx0 := rx0 }
  else
    let l := (s.gwCount 0 1).routeLookup lane f
    let s := l.1
    match l.2 with
    | none => s.gwCount 2 1
    | some i =>
      let a := routeAt i
      if s.eget a RXR_owner != s.portOwnerOf (16 + lane) || !s.ownerActive (s.portOwnerOf (16 + lane)) then s.gwReject.gwCount 2 1
      else
        let s := ((s.gwCount 1 1).routeCount i).routeAction a lane f ts rx0
        s.extractAll a lane f ts

/-- AGGREGATOR_FRAME (R304): the aggregator takes lane n's oldest staged copy. -/
def execAggregatorFrame (n : Nat) (s : State) : Host.Outcome State Fault Refusal :=
  if !s.routingReady || !lanePresent s.variant n then .next s
  else
    let l := s.lane n
    match l.staging with
    | [] => .next s
    | (f, ts) :: rest =>
      let s := s.setLane n { l with staging := rest, stagedAt := l.stagedAt.drop 1 }
      let c := s.schoolLane n f
      .next (if c.2 then c.1.aggregate n f ts (l.stagedAt.headD (s.timeNs 0)) else c.1)

/-! ### The staleness sweep (R317, R324) -/

/-- Milliseconds since slot i's last genuine write, modulo 32,768. -/
def State.slotAge (s : State) (i : Nat) : Nat := (s.gwMs + 32768 - (s.slot i).wtime) % 32768

/-- The initial value of slot i in the running image. -/
def State.slotInitial (s : State) (i : Nat) : Nat := leNat (memRead s.aperImage (slotAt i) 8)

/-- Slot i becomes stale: its flag is set, and a substitute is written where its action says so. -/
def State.goStale (s : State) (i : Nat) : State :=
  let s := (s.gwCount 12 1).raise 1440
  let x := s.slot i
  let b := s.newBatch
  let write := x.action == 1 || x.action == 2
  let value := if x.action = 1 then s.slotInitial i else 0
  if !write then s.slotStore i { x with stale := true }
  else if (s.holders i).isEmpty then
    b.1.slotWrite i { x with value := value, version := (x.version + 1) % 65536, stale := true, subst := true } b.2
  else
    (b.1.slotStore i { x with stale := true }).sendSig
      { kind := .hWr, slot := i, value := value, batch := b.2, subst := true }

/-- STALENESS_SWEEP (R317, R324): a sweep visit to slot i. [DEDUCED, log entry 86] -/
def execStalenessSweep (i : Nat) (s : State) : Host.Outcome State Fault Refusal :=
  if 262144 ≤ i ∨ !s.cinched then .next s
  else
    let age := s.slotAge i
    let s := if 1023 ≤ age then { s with sig := { s.sig with old := put (fun _ => false) s.sig.old i true } } else s
    let x := s.slot i
    .next (if x.timeout != 0 && !x.stale && decide (10 * x.timeout ≤ age) then s.goStale i else s)

/-! ### Sends (R319 to R323) -/

/-- Definition d sends nothing while it is invalid, locked or bad in parity; a bad one is found. -/
def State.defUsable (s : State) (d : Nat) : State × Bool :=
  let c := s.check .frameRoute d
  let w := c.1.defView d
  let a := routeAt d
  (c.1, c.2 && (w.isDef d 2 || (w.isDef d 3 && !w.eIs a ETHD_tunnel)) && !c.1.eIs a ROUTE_lock)

/-- The members of container d, in ascending order: those elements of its shadow that an emit route has written (R318, R319). -/
def State.members (s : State) (d : Nat) : List (Nat × Elem) :=
  (List.range (min 64 ((s.defView d).eget (routeAt d) ETHD_max_elems))).filterMap fun k => (s.elem d k).map (k, ·)

/-- The bytes of a container element (R323, R324). -/
def State.elemBytes (s : State) (e : Elem) : List Byte :=
  let x := s.slot e.slot
  let age := if look (fun _ => false) s.sig.old e.slot then 1023 else min 1023 (s.slotAge e.slot)
  beBytes 4 ((if e.wide then 2 else 1) * 2 ^ 30 + b2n x.stale * 2 ^ 29 + b2n x.subst * 2 ^ 28 + age * 2 ^ 18 + e.slot) ++
    beBytes (if e.wide then 8 else 4) e.value

/-- The Kyosel container message of definition d with the elements given (R322). -/
def State.containerBytes (s : State) (d : Nat) (cyclic every : Bool) (elems : List Byte) : List Byte :=
  let quads := (16 + elems.length) / 4
  beBytes 2 (s.fget SIG_GW_CFG_kc_type * 512 + quads) ++ beBytes 1 (16 + b2n cyclic * 4 + b2n every * 2) ++
    beBytes 1 (s.fget SIG_GW_CFG_zone) ++ beBytes 2 d ++ beBytes 2 (s.defn d).kcSeq ++
    beBytes 8 (s.timeNs (s.fget SIG_GW_CFG_ts_domain)) ++ elems

/-- Container d builds and sends its frame: its pending elements, or every member. One with no element to carry sends none. -/
def State.containerSend (s : State) (d : Nat) (cyclic : Bool) : State :=
  let v := s.defn d
  let all := s.members d
  let every := cyclic || (s.defView d).eIs (routeAt d) ETHD_full
  let sent := all.filter fun m => every || v.elems.contains m.1
  let carriesAll := every || all.all fun m => v.elems.contains m.1
  let body := sent.flatMap fun m => s.elemBytes m.2
  let acf := s.containerBytes d cyclic carriesAll body
  if sent.isEmpty then s.setDefn d { v with elems := [] }
  else (s.setDefn d { v with elems := [], kcSeq := (v.kcSeq + 1) % 65536 }).ethDefSend d acf

/-- The lane frame of PDU definition d (R309, R320). -/
def State.pduFrame (s : State) (d : Nat) : LaneFrame :=
  let a := routeAt d
  let fmt := s.eget a PDU_format
  let ide := fmt != 2 && s.eIs a PDU_ide
  { format := fmt, ide := ide, brs := fmt == 1 && s.eIs a PDU_brs, id := idField ide (s.eget a PDU_id),
    sdt := if fmt = 2 then s.eget a PDU_sdt else 0, data := (s.shadow d).take (s.eget a PDU_length) }

/-- PDU definition d builds its frame, or for a LIN lane hands its shadow to the lane's publish data (R320).
[DEDUCED, log entry 87] -/
def State.pduSend (s : State) (d : Nat) : State :=
  let a := routeAt d
  let w := s.defView d
  let lane := w.eget a PDU_lane
  let data := (w.shadow d).take (w.eget a PDU_length)
  let s := s.setDefn d { s.defn d with pending := false }
  if !lanePresent s.variant lane then s
  else
    let kind := s.fget (LANE_PHY_CFG_kind lane)
    if kind = 2 ∨ kind = 3 then
      let id := w.eget a PDU_id % 64
      let r := LANE_LIN_ID lane id
      let old := leBytes 4 (s.reg (r + 8)).toNat ++ leBytes 4 (s.reg (r + 12)).toNat
      let new := overlay old 0 (data.take 8)
      (s.setReg (r + 8) (word (leAt new 0 4))).setReg (r + 12) (word (leAt new 4 4))
    else
      let s := s.offer (fabricOf (16 + lane))
        { bytes := laneBytes (w.pduFrame d) 0, lane := true, src := 16 + lane, owner := w.eget a PDU_owner, cls := w.eget a PDU_class,
          stream := if w.eIs a PDU_stream_en then some (w.eget a PDU_stream) else none, resolved := some [16 + lane],
          rx0 := s.timeNs 0 }
      (s.gwCount 9 1).routeCount d

/-- Definition d has something pending. -/
def State.defPending (s : State) (d : Nat) : Bool := (s.defn d).waits

/-- Definition d, as it is in effect, describes a PDU. -/
def State.isPdu (s : State) (d : Nat) : Bool := (s.defView d).isDef d 2

/-- EVENT_SEND (R319): definition d is pending, the batch that made it so has ended, and its holdoff has passed. -/
def execEventSend (d : Nat) (s : State) : Host.Outcome State Fault Refusal :=
  if 65536 ≤ d || !s.routingReady || !s.defPending d || s.batchOpen (s.defn d).batch then .next s
  else
    let u := s.defUsable d
    let s := u.1
    if !u.2 then .next s
    else .next (if s.isPdu d then s.pduSend d else s.containerSend d false)

/-- CYCLIC_SEND (R319): the gateway millisecond count reaches a cyclic tick of definition d. -/
def execCyclicSend (d : Nat) (s : State) : Host.Outcome State Fault Refusal :=
  if 65536 ≤ d || !s.routingReady then .next s
  else
    let u := s.defUsable d
    let s := u.1
    let period := (s.defView d).eget (routeAt d) (if s.isPdu d then PDU_period else ETHD_period)
    if !u.2 || period == 0 then .next s
    else .next (if s.isPdu d then s.pduSend d else s.containerSend d true)

/-! ### Downlink (R326) -/

/-- The CAN frame of an ACF CAN message. [PRESUMED, log entry 88] -/
def canOfAcf (m : List Byte) : LaneFrame :=
  let flags := beAt m 2 1
  let fd := bitOf flags 1
  { format := if fd then 1 else 0, rtr := bitOf flags 4, ide := bitOf flags 3, brs := bitOf flags 2, esi := bitOf flags 0,
    id := idField (bitOf flags 3) (beAt m 12 4), data := (m.drop 16).take (m.length - 16 - flags / 64) }

/-- One element of a received container is written to its slot. -/
def State.rxElement (s : State) (owner slot value batch : Nat) : State :=
  if s.slotOwner slot != owner then s.gwReject
  else (s.gwCount 10 1).sendSig { kind := .hWr, slot := slot, owner := owner, value := value, batch := batch }

/-- The elements of a received container, which holds at most `fuel` of them; an invalid size, or one that the message does not hold,
ends them. -/
def State.rxElements (s : State) (owner batch : Nat) : Nat → List Byte → State
  | 0, _ => s
  | fuel + 1, bs =>
    if bs.length < 4 then s
    else
      let h := beAt bs 0 4
      let size := h / 2 ^ 30
      if size = 1 ∧ 8 ≤ bs.length then
        (s.rxElement owner (h % 2 ^ 18) (unsigned 64 (signed 32 (beAt bs 4 4))) batch).rxElements owner batch fuel (bs.drop 8)
      else if size = 2 ∧ 12 ≤ bs.length then
        (s.rxElement owner (h % 2 ^ 18) (beAt bs 4 8) batch).rxElements owner batch fuel (bs.drop 12)
      else s

/-- The ACF messages of a downlink frame to lane n, which holds at most `fuel` of them; the CAN frames that they queue are collected. -/
def State.acfMessages (s : State) (n : Nat) (fr : Frame) : Nat → List Byte → List Frame → State × List Frame
  | 0, _, out => (s, out)
  | fuel + 1, bs, out =>
    if bs.isEmpty then (s, out)
    else
      let h := beAt bs 0 2
      let len := 4 * (h % 512)
      if bs.length < 2 ∨ len = 0 ∨ bs.length < len then (s.fmtDiscard, out)
      else
        let m := bs.take len
        let rest := bs.drop len
        if h / 512 = 1 ∧ s.laneKind n = 1 then
          let f : Frame := { bytes := laneBytes (canOfAcf m) 0, lane := true, src := fr.src, owner := fr.owner, cls := fr.cls }
          if m.length < 16 || !s.formatOn n (canOfAcf m).format then s.fmtDiscard.acfMessages n fr fuel rest out
          else (s.gwCount 11 1).acfMessages n fr fuel rest (out ++ [f])
        else if h / 512 = s.fget SIG_GW_CFG_kc_type then
          let b := s.newBatch
          (b.1.rxElements fr.owner b.2 m.length (m.drop 16)).acfMessages n fr fuel rest out
        else s.fmtDiscard.acfMessages n fr fuel rest out

/-- The ACF messages of an NTSCF or TSCF frame: what its data length says, as far as the frame goes. -/
def acfData (bs : List Byte) : List Byte :=
  let o := etherOffset bs + 2
  if beAt bs o 1 = 0x82 then (bs.drop (o + 12)).take (beAt bs (o + 1) 2 % 2048)
  else (bs.drop (o + 24)).take (beAt bs (o + 20) 2)

/-- ACF_DOWNLINK (R326): lane n's aggregator decodes the IEEE 1722 frame at the head of the lane's egress store. The CAN
frames take its place there, in order. -/
def execAcfDownlink (n : Nat) (s : State) : Host.Outcome State Fault Refusal :=
  let key := 8 * (16 + n)
  let kind := s.laneKind n
  match s.egressQ key with
  | [] => .next s
  | fr :: rest =>
    if !lanePresent s.variant n || fr.lane || !isAcf fr.bytes || kind == 0 || kind == 4 then .next s
    else
      let data := acfData fr.bytes
      let r := (s.setEgressQ key rest).acfMessages n fr data.length data []
      .next (r.1.setEgressQ key (r.2 ++ rest))

/-! ### Shadows at the cinch, and scrubbing (R318, R329) -/

/-- Every shadow takes the initial values, by every emit route of the image and without a trigger (R318). -/
def State.fillShadows (s : State) : State :=
  (s.usedEntries .signalRoute).foldl (fun (u : State) r =>
    let a := sigrAt r
    if u.eIs a SIGR_valid && u.eIs a SIGR_dir && !u.emitShort a then
      (u.defTake (u.eget a SIGR_def)).emitWrite r (u.slot (u.eget a SIGR_slot))
    else u) s

/-- Entry k of the route scrubber's order. -/
def routeEntry (k : Nat) : Tab × Nat := if k < 65536 then (.frameRoute, k) else (.signalRoute, (k - 65536) % 262144)

/-- ROUTE_SCRUB_READ (R329): the scrubber reads its next entry. `hit` names an entry some of whose bits have changed. -/
def execRouteScrubRead (hit : Option (Nat × List Nat)) (s : State) : Host.Outcome State Fault Refusal :=
  let s := match hit with
    | some (k, bits) => s.upset (routeEntry k).1 (routeEntry k).2 bits
    | none => s
  if !s.cinched ∨ s.fget SIG_RT_SCRUB_period = 0 then .next s
  else
    let e := routeEntry s.gw.scrub
    let s := { s with gw := { s.gw with scrub := (s.gw.scrub + 1) % 327680 } }
    .next (s.check e.1 e.2).1

/-- ROUTE_REPAIR_DONE (R329): the queued repair of entry k of the scrubber's order completes. -/
def execRouteRepairDone (k : Nat) (s : State) : Host.Outcome State Fault Refusal :=
  .next (s.repairDone (routeEntry k).1 (routeEntry k).2)

end Sys2Proof.Machine
end

