-- ==== Sys2Proof/Machine/ImageCheck.lean ====
section
/-!
DEFINITION. The Harness image as the load checks it (R37 to R58): header, section table, plans, table sections, programs and
signature, each against the part's units and the spec's ranges. A check answers the status code of its failure. Register
presets, whose checks depend on the registers, are in Image.lean.
-/

namespace Sys2Proof.Machine

/-! ### Checks -/

def statusFormat : Nat := 0x17
def statusAbsent : Nat := 0x23
def statusHobble : Nat := 0x19

/-- A check that fails with `code` when `bad` holds. -/
def failIf (bad : Bool) (code : Nat) : Option Nat := if bad then some code else none

/-- The first failure of checks made in order. -/
def firstFail : List (Option Nat) → Option Nat
  | [] => none
  | some c :: _ => some c
  | none :: l => firstFail l

/-- A value outside a range. -/
def outside (v lo hi : Nat) : Bool := decide (v < lo) || decide (hi < v)

/-- Some byte is not 0. -/
def dirty (bs : List Byte) : Bool := bs.any (· != 0)

/-- Two elements of a list satisfy `p`, the earlier first. -/
def anyPair {α : Type} (p : α → α → Bool) : List α → Bool
  | [] => false
  | x :: l => l.any (p x) || anyPair p l

/-! ### Header and section table (R37 to R41, R58) -/

/-- A part and the bytes of an image. -/
structure Img where
  v : Variant
  bytes : List Byte
deriving DecidableEq, Repr

/-- A section-table entry (R39). -/
structure Sect where
  id : Nat
  flags : Nat
  off : Nat
  len : Nat
  crc : Nat
deriving DecidableEq, Repr

/-- A little-endian field of the image. -/
def Img.u (m : Img) (o n : Nat) : Nat := leAt m.bytes o n

def Img.length (m : Img) : Nat := m.u 0x08 4
def Img.signed (m : Img) : Bool := bitOf (m.u 0x0E 2) 0
def Img.bootLbist (m : Img) : Bool := bitOf (m.u 0x0E 2) 1

/-- The header checks, in the order of R58. -/
def Img.headerFail (m : Img) : Option Nat :=
  firstFail [failIf (m.u 0 4 != 0x49485A4B) 0x1E, failIf (crc32 (m.bytes.take 0x1C) != m.u 0x1C 4) 0x1F,
    failIf (m.u 0x05 1 != 1) 0x20,
    failIf (m.u 0x06 2 != 64 || outside m.length 5760 10240000 || outside (m.u 0x0C 2) 5 16 || m.u 0x18 4 != 64 ||
      decide (m.length < 64 + 16 * m.u 0x0C 2)) 0x21,
    failIf (m.u 0x0E 2 / 4 != 0 || m.u 0x16 2 != 0) statusFormat]

/-- The section table. -/
def Img.sects (m : Img) : List Sect :=
  (List.range (m.u 0x0C 2)).map fun (i : Nat) =>
    let o := 64 + 16 * i
    { id := m.u o 2, flags := m.u (o + 2) 2, off := m.u (o + 4) 4, len := m.u (o + 8) 4, crc := m.u (o + 12) 4 }

/-- A section's bytes. -/
def Img.at (m : Img) (s : Sect) : List Byte := (m.bytes.drop s.off).take s.len

/-- The bytes of section `id`; empty when the image has none. -/
def Img.body (m : Img) (id : Nat) : List Byte :=
  match m.sects.find? fun s => s.id == id with
  | some s => m.at s
  | none => []

def Img.has (m : Img) (id : Nat) : Bool := m.sects.any fun s => s.id == id

/-- The length that R40 gives a section. -/
def sectLength (s : Sect) : Bool :=
  match s.id with
  | 0x01 => s.len == 1024
  | 0x02 => s.len == 256
  | 0x03 => s.len % 8 == 0
  | 0x04 => s.len == 4096
  | 0x05 => s.len == 128
  | 0x0F => s.len % 12 == 0 && decide (s.len ≤ 12 * 4096)
  | 0xFF => s.len == 160
  | _ => true

/-- Sections from `pos` on stand in ascending order on 64-byte boundaries with zeros between them, up to the image's end. -/
def Img.placed (m : Img) : Nat → List Sect → Bool
  | pos, [] => !dirty (m.bytes.drop pos) && (!m.signed || pos == m.length)
  | pos, s :: l =>
    s.off % 64 == 0 && decide (pos ≤ s.off) && decide (s.off + s.len ≤ m.length) &&
      !dirty ((m.bytes.drop pos).take (s.off - pos)) && m.placed (s.off + s.len) l

/-- The section table keeps R37 and R39 to R41. -/
def Img.tableOk (m : Img) : Bool :=
  let l := m.sects
  l.all (fun s => (decide (1 ≤ s.id) && decide (s.id ≤ 15) || s.id == 0xFF) && decide (s.flags < 2) &&
    (s.flags == 0 || decide (6 ≤ s.id) && decide (s.id ≤ 11)) && sectLength s) &&
  !anyPair (fun a b => decide (b.id ≤ a.id)) l &&
  [1, 2, 3, 4, 5].all (fun i => l.any fun s => s.id == i) && m.signed == l.any (fun s => s.id == 0xFF) &&
  m.placed (64 + 16 * l.length) l

/-! ### Owner Plan (R46) -/

/-- A record of the Owner Plan. -/
structure OwnerRec where
  owner : Nat
  flags : Nat
  func : Nat
  first : Nat
  count : Nat
deriving DecidableEq, Repr

/-- The records of an Owner Plan. -/
def ownerRecs (b : List Byte) : List OwnerRec :=
  (List.range (b.length / 8)).map fun (i : Nat) =>
    { owner := leAt b (8 * i) 1, flags := leAt b (8 * i + 1) 1, func := leAt b (8 * i + 2) 1,
      first := leAt b (8 * i + 4) 2, count := leAt b (8 * i + 6) 2 }

/-- The Owner Plan breaks R46. -/
def ownerPlanBad (b : List Byte) : Bool :=
  let l := ownerRecs b
  outside l.length 2 256 ||
  (List.range l.length).any (fun i => byteAt b (8 * i + 3) != 0) ||
  l.any (fun r => decide (1 < r.flags) || (r.func != 255 && decide (31 < r.func)) ||
    decide (4096 < r.first + r.count) || decide (4095 < r.first)) ||
  anyPair (fun x y => decide (y.owner ≤ x.owner) || (x.func != 255 && x.func == y.func) ||
    (x.count != 0 && y.count != 0 && decide (x.first < y.first + y.count) && decide (y.first < x.first + x.count))) l ||
  !l.any (fun r => r.owner == 0 && r.func == 255 && r.flags == 1) ||
  !l.any (fun r => r.owner == 1 && r.func == 0 && r.flags == 1)

/-- The owners that the image lists. -/
def Img.owners (m : Img) : List Nat := (ownerRecs (m.body 3)).map (·.owner)

/-! ### Port Plan (R43, R44, R95, R118) -/

/-- Prescaler, tseg1 and tseg2 of a CAN rate (R118): q from lo to hi, tseg2 pct percent of it. -/
def canTiming (rate lo hi pct : Nat) : Option (Nat × Nat × Nat) :=
  if rate = 0 ∨ 80000000 % rate ≠ 0 then none
  else
    let n := 80000000 / rate
    (((List.range 32).map (· + 1)).find? fun b => n % b == 0 && decide (lo ≤ n / b) && decide (n / b ≤ hi)).map fun b =>
      let q := n / b
      let t2 := max 1 ((q * pct + 50) / 100)
      (b, q - 1 - t2, t2)

def nominalTiming (rate : Nat) : Option (Nat × Nat × Nat) := canTiming rate 8 160 20
def dataTiming (rate : Nat) : Option (Nat × Nat × Nat) := canTiming rate 4 80 30

/-- Record n of the Port Plan. -/
def portRec (b : List Byte) (n : Nat) : List Byte := slice b (16 * n) 16

/-- The Ethernet record of port n breaks R43 or R44. -/
def ethRecBad (n : Nat) (r : List Byte) : Bool :=
  let speed := leAt r 3 1
  let flags := leAt r 4 1
  leAt r 0 1 != 1 || decide (15 < flags) || dirty (r.drop 5) ||
  !(if n < 4 then speed == 5 else if n < 8 then speed == 3 || speed == 4 else speed == 1 || speed == 2) ||
  (bitOf flags 0 && decide (4 ≤ n))

/-- The bit rates of a lane record break R95 or R118. -/
def rateBad (kind opt nom data : Nat) : Bool :=
  let xlOrFd := bitOf opt 0 || bitOf opt 1
  match kind with
  | 1 =>
    let hi := if bitOf opt 3 then 20000000 else if bitOf opt 2 then 8000000 else 5000000
    let lo := if bitOf opt 3 then max nom 2000000 else nom
    outside nom 50000 1000000 || (nominalTiming nom).isNone ||
      (if xlOrFd then outside data lo hi || (dataTiming data).isNone else data != 0)
  | 4 => nom != 10000000 || data != 0
  | _ => outside nom 1000 20000 || data != 0

/-- A lane record breaks R43, R44 or R95. -/
def laneRecBad (r : List Byte) : Bool :=
  let kind := leAt r 0 1
  let term := leAt r 3 1
  let opt := leAt r 4 1
  let wake := leAt r 5 1
  let plca := leAt r 6 1
  decide (4 < kind) || leAt r 7 1 != 0 || decide (2 < wake) || (wake == 2 && kind != 1) ||
  (if kind = 1 then decide (2 < term) else term != 0) ||
  (match kind with
    | 1 => decide (15 < opt) || (bitOf opt 2 && bitOf opt 3) || (bitOf opt 3 && !bitOf opt 1) ||
        (bitOf opt 2 && !bitOf opt 0 && !bitOf opt 1)
    | 2 => decide (1 < opt)
    | 3 => opt != 0
    | _ => false) ||
  (if kind = 4 ∧ opt = 0 then decide (plca < 2) else plca != 0) ||
  rateBad kind opt (leAt r 8 4) (leAt r 12 4)

/-- Lanes whose record asks for selective wake. -/
def wakeLanes (b : List Byte) : List Nat :=
  (List.range 48).filter fun n => leAt (portRec b (16 + n)) 0 1 != 0 && leAt (portRec b (16 + n)) 5 1 == 2

def Img.portPlanFail (m : Img) : Option Nat :=
  let b := m.body 1
  let owners := m.owners
  let recs := (List.range 64).map fun (n : Nat) => (n, portRec b n)
  firstFail [
    failIf (recs.any fun e => dirty e.2 && !logicalPresent m.v e.1) statusAbsent,
    failIf (recs.any fun e => leAt e.2 0 1 == 0 && dirty e.2 || leAt e.2 0 1 != 0 &&
      (leAt e.2 1 1 != e.1 || !owners.contains (leAt e.2 2 1) ||
        (if e.1 < 16 then ethRecBad e.1 e.2 else laneRecBad e.2))) statusFormat,
    failIf (decide (8 < (wakeLanes b).length) || (!(wakeLanes b).isEmpty && !m.has 0x0D)) statusFormat]

/-- Kind and owner of a lane in the image. -/
def Img.laneKind (m : Img) (n : Nat) : Nat := leAt (m.body 1) (16 * (16 + n)) 1
def Img.laneOwner (m : Img) (n : Nat) : Nat := leAt (m.body 1) (16 * (16 + n) + 2) 1
def Img.laneOpt (m : Img) (n : Nat) : Nat := leAt (m.body 1) (16 * (16 + n) + 4) 1

/-! ### Fabric Plan, Hobble block and Time Plan (R45, R47, R48, R335, R336, R400, R483) -/

def Img.fabricPlanFail (m : Img) : Option Nat :=
  let b := m.body 2
  let en := leAt b 0x0C 4
  firstFail [
    failIf ((List.range 28).any fun p => bitOf en p && !fabricPresent m.v p) statusAbsent,
    failIf ((b.take 8).any (fun k => decide (9 < k.toNat)) || outside (leAt b 8 1) 1 4 || decide (3 < leAt b 9 1) ||
      dirty (slice b 0x0A 2) || decide (2 ^ 28 ≤ en) || (slice b 0x10 16).any (fun c => decide (7 < c.toNat)) ||
      dirty (b.drop 0x20)) statusFormat]

/-- The Port Plan speed of Ethernet record n in Mb/s, 10,000 for a disabled port (R43, R483). -/
def Img.speed (m : Img) (n : Nat) : Nat :=
  match leAt (m.body 1) (16 * n + 3) 1 with
  | 1 => 100
  | 2 => 1000
  | 3 => 2500
  | 4 => 5000
  | _ => 10000

/-- A reserved byte of the Hobble block is not 0. -/
def hobbleReserved (b : List Byte) : Bool :=
  (List.range 48).any (fun n => dirty (slice b (16 * n + 6) 10)) ||
  (List.range 16).any (fun n => dirty (slice b (0x300 + 16 * n + 4) 12)) || dirty (slice b 0x401 15) ||
  (List.range 20).any (fun j => dirty (slice b (0x410 + 32 * j + 2) 2) || dirty (slice b (0x410 + 32 * j + 14) 18)) ||
  dirty (slice b 0x694 0x3C) || dirty (b.drop 0x6D0)

/-- A Hobble value lies beyond its ceiling, or a tamper code is not allowed. -/
def Img.hobbleOver (m : Img) (b : List Byte) : Bool :=
  (List.range 48).any (fun n => decide (1024 < leAt b (16 * n) 2) || decide (10000 < leAt b (16 * n + 2) 2) ||
    decide (20000 < leAt b (16 * n + 4) 2)) ||
  (List.range 16).any (fun n => decide (m.speed n < leAt b (0x300 + 16 * n) 2) ||
    decide (1024 < leAt b (0x302 + 16 * n) 2)) ||
  decide (4 < leAt b 0x400 1) ||
  (List.range 20).any (fun j =>
    let o := 0x410 + 32 * j
    decide ((if j < 16 then 6400 else 1600) < leAt b o 2) || decide (86400000 < leAt b (o + 4) 4) ||
      decide (600000 < leAt b (o + 8) 4)) ||
  (List.range 4).any (fun n => decide (2 < leAt b (0x690 + n) 1)) || leAt b 0x690 1 == 0

def Img.hobbleFail (m : Img) : Option Nat :=
  let b := m.body 4
  firstFail [
    failIf ((List.range 48).any (fun n => dirty (slice b (16 * n) 16) && !lanePresent m.v n) ||
      (List.range 16).any (fun n => dirty (slice b (0x300 + 16 * n) 16) && !portPresent m.v n) ||
      (List.range 20).any (fun j => dirty (slice b (0x410 + 32 * j) 32) && !outputPresent m.v j)) statusAbsent,
    failIf (hobbleReserved b) statusFormat,
    failIf (m.hobbleOver b) statusHobble]

/-- A domain record breaks R335 to R337. -/
def domainBad (mode d : Nat) (r : List Byte) : Bool :=
  let inc := leAt r 4 1 * 2 ^ 32 + leAt r 0 4
  let port := leAt r 6 1
  decide (1 < leAt r 5 1) || leAt r 7 1 != 0 || dirty (r.drop 20) || (decide (15 < port) && port != 127) ||
  (if mode = 0 ∧ d ≠ 0 then inc != 0 else outside inc 0x3FEF9DB23 0x4010624DD) ||
  (leAt r 5 1 == 0 && (leAt r 12 4 == 0 || leAt r 16 2 == 0))

def Img.timePlanFail (m : Img) : Option Nat :=
  let b := m.body 5
  let recs := (List.range 4).map fun (d : Nat) => (d, slice b (0x10 + 24 * d) 24)
  let absent := fun (n : Nat) => decide (n < 16) && !portPresent m.v n
  firstFail [
    failIf (recs.any fun e => absent (leAt e.2 6 1) ||
      (List.range 16).any fun n => bitOf (leAt e.2 18 2) n && absent n) statusAbsent,
    failIf (decide (1 < leAt b 0 1) || decide (15 < leAt b 1 1) || dirty (slice b 8 8) || dirty (b.drop 0x70) ||
      recs.any (fun e => domainBad (leAt b 0 1) e.1 e.2) ||
      anyPair (fun x y => leAt x.2 18 2 &&& leAt y.2 18 2 != 0) recs) statusFormat]

/-! ### Table sections (R50 to R52) -/

/-- The aperture table of a table code (R51); shapers and slots have none. -/
def codeTab : Nat → Option Tab
  | 0x0601 => some .filter
  | 0x0602 => some .policer
  | 0x0603 => some .school
  | 0x0702 => some .gate
  | 0x0703 => some .fallback
  | 0x0801 => some (.fdb 0)
  | 0x0802 => some (.fdb 1)
  | 0x0803 => some (.rules 0)
  | 0x0804 => some (.rules 1)
  | 0x0805 => some (.frer 0)
  | 0x0806 => some (.frer 1)
  | 0x0807 => some .mirror
  | 0x0901 => some .frameRoute
  | 0x0A01 => some .signalRoute
  | _ => none

/-- Entry size and number of entries of a table code. Static FDB entries are numbered up to 65,791 (R217). -/
def codeShape (c : Nat) : Option (Nat × Nat) :=
  match codeTab c with
  | some t => some (t.size, if c = 0x0801 ∨ c = 0x0802 then 65792 else t.count)
  | none => if c = 0x0701 then some (8, 128) else if c = 0x0B01 then some (16, 262144) else none

/-- A sub-block of a table section, with its entries' bytes. -/
structure SubBlock where
  code : Nat
  first : Nat
  count : Nat
  owner : Nat
  isSealed : Bool
  data : List Byte
deriving DecidableEq, Repr

/-- The sub-blocks of a section as far as they can be read, and whether all of it could be. -/
def subBlocks (sid : Nat) : Nat → List Byte → List SubBlock × Bool
  | 0, bs => ([], bs.isEmpty)
  | fuel + 1, bs =>
    if bs.isEmpty then ([], true)
    else
      let code := leAt bs 0 2
      let size := leAt bs 2 2
      let count := leAt bs 8 4
      let len := 16 + count * size
      match codeShape code with
      | none => ([], false)
      | some sh =>
        if bs.length < 16 || code / 256 != sid || size != sh.1 || count == 0 || decide (1 < leAt bs 13 1) ||
            leAt bs 14 2 != 0 || decide (bs.length < len) then ([], false)
        else
          let r := subBlocks sid fuel (bs.drop (up16 len))
          let b : SubBlock :=
            { code := code, first := leAt bs 4 4, count := count, owner := leAt bs 12 1, isSealed := leAt bs 13 1 == 1,
              data := (bs.drop 16).take (count * size) }
          (b :: r.1, r.2 && !dirty ((bs.drop len).take (up16 len - len)))

/-- One entry that the image places. -/
structure TabEntry where
  code : Nat
  idx : Nat
  owner : Nat
  isSealed : Bool
  bytes : List Byte
deriving DecidableEq, Repr

/-- The entries of a sub-block. -/
def SubBlock.entries (b : SubBlock) (sealAll : Bool) : List TabEntry :=
  let size := ((codeShape b.code).getD (1, 0)).1
  (List.range b.count).map fun (i : Nat) =>
    { code := b.code, idx := b.first + i, owner := b.owner, isSealed := b.isSealed || sealAll,
      bytes := slice b.data (i * size) size }

def Img.subs (m : Img) (sid : Nat) : List SubBlock × Bool := subBlocks sid ((m.body sid).length / 16 + 1) (m.body sid)

/-- The entries of a table section. -/
def Img.entries (m : Img) (sid : Nat) : List TabEntry :=
  let sealAll := m.sects.any fun s => s.id == sid && s.flags == 1
  (m.subs sid).1.flatMap fun b => b.entries sealAll

/-- A field of an image entry. -/
def ef (bs : List Byte) (f : EFld) : Nat := getField (word (leAt bs (4 * f.word) 4)) f.hi f.lo
def efIs (bs : List Byte) (f : EFld) : Bool := ef bs f == 1

/-- Bits of word w that an image entry may set: those software may write, the parity bit and the read-only counts. A frame
route of kind 0 has no field but those that every kind shares (R306). -/
def imageMask (t : Tab) (w0 : Word) (w : Nat) : Nat :=
  let p := match t.parity with
    | some f => if f.word = w then (fieldMask f.hi f.lo).toNat else 0
    | none => 0
  let extra := match t with
    | .rules _ => if w = 14 then 0xFFFFFFFF else 0
    | .frameRoute => if w = 7 then 0xFFFFFFFF else 0
    | _ => 0
  let m := if t = .frameRoute ∧ getField w0 29 28 = 0 then (if w = 0 then 0xF0000000 else 0) else t.mask w0 w
  m ||| p ||| extra

/-- An entry sets a reserved bit (R37). -/
def reservedSet (e : TabEntry) : Bool :=
  match codeTab e.code with
  | some t =>
    let w0 := word (leAt e.bytes 0 4)
    (List.range (t.size / 4)).any fun w => word (leAt e.bytes (4 * w) 4) &&& ~~~word (imageMask t w0 w) != 0
  | none => e.code == 0x0701 && (dirty (e.bytes.drop 4) || bitsOf (leAt e.bytes 0 4) 30 24 != 0)

/-- An entry's owner field differs from its sub-block's tag (R52). -/
def ownerDiffers (e : TabEntry) : Bool :=
  match codeTab e.code with
  | some t =>
    match t.ownerFld (word (leAt e.bytes 0 4)) with
    | some f => ef e.bytes f != e.owner
    | none => false
  | none => false

/-- The rules of R37 and R50 to R52 that hold for every table. -/
def Img.tableBad (m : Img) (sid : Nat) (es : List TabEntry) : Bool :=
  let r := m.subs sid
  let owners := m.owners
  !r.2 ||
  r.1.any (fun b => !owners.contains b.owner || decide (((codeShape b.code).getD (0, 0)).2 < b.first + b.count)) ||
  anyPair (fun a b => a.code == b.code && decide (a.first < b.first + b.count) && decide (b.first < a.first + a.count)) r.1 ||
  es.any (fun e => reservedSet e || ownerDiffers e)

/-! ### Stream Plan and Schedules (R249 to R261) -/

/-- [DEDUCED, log entry 21] -/
def streamBad (e : TabEntry) : Bool :=
  let b := e.bytes
  match e.code with
  | 0x0601 => ef b SFLT_policer == 8191 || decide (9216 < ef b SFLT_max_sdu)
  | 0x0603 => efIs b SCH_kind && decide (47 < ef b SCH_lane)
  | _ => false

/-- The lane of a Schooling lane record is absent. [DEDUCED, log entry 21] -/
def streamAbsent (v : Variant) (e : TabEntry) : Bool :=
  e.code == 0x0603 && efIs e.bytes SCH_kind && decide (ef e.bytes SCH_lane < 48) && !lanePresent v (ef e.bytes SCH_lane)

/-- The port that a Schedules entry belongs to. -/
def schedPort (e : TabEntry) : Nat := e.idx / (if e.code = 0x0701 then 8 else if e.code = 0x0702 then 256 else 64)

/-- The enabled slopes that the Schedules section gives port n, in kb/s (R255). -/
def slopeSum (es : List TabEntry) (n : Nat) : Nat :=
  es.foldl (fun t e =>
    if e.code = 0x0701 ∧ e.idx / 8 = n ∧ bitOf (leAt e.bytes 0 4) 31 then t + bitsOf (leAt e.bytes 0 4) 23 0 else t) 0

def Img.scheduleBad (m : Img) (es : List TabEntry) : Bool :=
  es.any (fun e => e.code != 0x0701 && (ef e.bytes GATE_op == 3 || decide (leAt e.bytes 4 4 < 64))) ||
  (List.range 16).any fun n => decide (m.speed n * 1000 < slopeSum es n)

/-! ### Forwarding tables (R191, R194 to R217) -/

/-- A logical-port value that is invalid (R191). -/
def portInvalid (p : Nat) : Bool := decide (86 ≤ p)
def gone (v : Variant) (p : Nat) : Bool := decide (p < 86) && !logicalPresent v p

/-- The logical ports that a forwarding entry names. [DESIGN CHOICE, log entry 138] -/
def namedPorts (e : TabEntry) : List Nat :=
  let b := e.bytes
  match codeTab e.code with
  | some (.fdb _) => if efIs b FDB_group then [] else [ef b FDB_dest]
  | some (.rules _) => if efIs b RULE_valid && !efIs b RULE_out_group then [ef b RULE_out] else []
  | some (.frer _) => if efIs b FRER_valid then [ef b FRER_port_a, ef b FRER_port_b].filter (· != 127) else []
  | _ => []

/-- An FRER entry is valid and of func 2. -/
def isRecover (es : List TabEntry) (code idx : Nat) : Bool :=
  es.any fun e => e.code == code && e.idx == idx && efIs e.bytes FRER_valid && ef e.bytes FRER_func == 2

def forwardBad (es : List TabEntry) (e : TabEntry) : Bool :=
  let b := e.bytes
  (namedPorts e).any portInvalid ||
  (match codeTab e.code with
    | some (.rules _) => bitsOf (leAt b 36 4) 9 0 != 0
    | some (.frer _) => efIs b FRER_valid && (!(ef b FRER_func == 1 || ef b FRER_func == 2) ||
        (ef b FRER_func == 2 && !isRecover es e.code (ef b FRER_rcv_index)))
    | some .mirror => efIs b MIR_valid && (ef b MIR_trunc == 3 ||
        !(ef b MIR_dest == 80 || ef b MIR_dest == 81 || ef b MIR_dest == 83))
    | _ => false)

/-- The key of a static FDB entry. -/
def entryKey (b : List Byte) : FdbKey := { mac := ef b FDB_mac_hi * 2 ^ 32 + ef b FDB_mac_lo, vid := ef b FDB_vid }

/-- The first free place of a key among the positions taken: ways 4b to 4b + 3, then the spill CAM (R198, R217). -/
def fdbPosition (taken : List Nat) (k : FdbKey) : Option Nat :=
  (((List.range 4).map (4 * fdbBucket k + ·)) ++ (List.range 256).map (65536 + ·)).find? fun p => !taken.contains p

/-- Static entries of one pipeline in insertion order with their positions; none when one finds no room. -/
def fdbPositions : List Nat → List TabEntry → Option (List (Nat × TabEntry))
  | _, [] => some []
  | taken, e :: l =>
    match fdbPosition taken (entryKey e.bytes) with
    | none => none
    | some p => (fdbPositions (p :: taken) l).map fun r => (p, e) :: r

/-- An entry into a list in index order. -/
def insertEntry (e : TabEntry) : List TabEntry → List TabEntry
  | [] => [e]
  | x :: l => if e.idx < x.idx then e :: x :: l else x :: insertEntry e l

/-- The static entries of pipeline p, in insertion order. -/
def staticEntries (es : List TabEntry) (p : Nat) : List TabEntry :=
  (es.filter fun e => e.code == 0x0801 + p).foldl (fun l e => insertEntry e l) []

def fdbBad (es : List TabEntry) (p : Nat) : Bool :=
  let l := staticEntries es p
  anyPair (fun a b => entryKey a.bytes == entryKey b.bytes) l || (fdbPositions [] l).isNone

/-! ### Frame routes, signal routes and slots (R303, R307 to R312) -/

def routeLive (e : TabEntry) : Bool := efIs e.bytes ROUTE_valid
def routeKind (e : TabEntry) : Nat := ef e.bytes ROUTE_kind

/-- A frame route names a unit that the part lacks. -/
def routeAbsent (v : Variant) (e : TabEntry) : Bool :=
  let b := e.bytes
  let noLane := fun (n : Nat) => decide (n < 48) && !lanePresent v n
  routeLive e &&
  (match routeKind e with
    | 1 => noLane (ef b RXR_lane) ||
        ((ef b RXR_action == 1 || ef b RXR_action == 2) && !efIs b RXR_out_group && gone v (ef b RXR_out))
    | 2 => noLane (ef b PDU_lane)
    | 3 => (efIs b ETHD_agg && !fabricPresent v 13) || (decide (ef b ETHD_out < 16) && gone v (ef b ETHD_out))
    | _ => false)

/-- Frame route i of the image, if it is valid. -/
def routeOf (es : List TabEntry) (i : Nat) : Option TabEntry := es.find? fun e => e.idx == i && routeLive e

/-- A receive route breaks R191, R307 or R311. -/
def Img.receiveBad (m : Img) (es : List TabEntry) (e : TabEntry) : Bool :=
  let b := e.bytes
  let lane := ef b RXR_lane
  let kind := m.laneKind lane
  let act := ef b RXR_action
  let out := ef b RXR_out
  let group := efIs b RXR_out_group
  decide (47 < lane) || decide (routeBucket lane (efIs b RXR_ide) (ef b RXR_id) ≠ e.idx / 4 * 4) ||
  !(kind == 1 || kind == 2 || kind == 3) || ef b RXR_owner != m.laneOwner lane ||
  decide (64 < ef b RXR_sig_count) || decide (262144 < ef b RXR_sig_first + ef b RXR_sig_count) ||
  (!group && portInvalid out) ||
  ((act == 1 || act == 2) && (kind != 1 || (!group && (outside out 16 63 || m.laneKind (out - 16) != 1)))) ||
  (act == 3 && (kind != 1 || decide (31 < ef b RXR_new_id) ||
    !(match routeOf es (ef b RXR_link) with
      | some d => routeKind d == 3 && efIs d.bytes ETHD_tunnel
      | none => false)))

/-- A PDU definition breaks R309 or R311. -/
def Img.pduBad (m : Img) (e : TabEntry) : Bool :=
  let b := e.bytes
  let lane := ef b PDU_lane
  let len := ef b PDU_length
  let opt := m.laneOpt lane
  decide (47 < lane) ||
  (match m.laneKind lane with
    | 1 => !(match ef b PDU_format with
        | 0 => decide (len ≤ 8)
        | 1 => bitOf opt 0 && fdLength len
        | 2 => bitOf opt 1 && decide (1 ≤ len) && decide (len ≤ 64)
        | _ => false)
    | 2 | 3 => ef b PDU_format != 0 || outside len 1 8
    | _ => true)

/-- An Ethernet definition breaks R310 or R311. -/
def ethDefBad (e : TabEntry) : Bool :=
  let b := e.bytes
  (decide (15 < ef b ETHD_out) && ef b ETHD_out != 127) ||
  outside (ef b ETHD_max_elems) 1 (if efIs b ETHD_tunnel then 16 else 64)

def Img.frameRoutesBad (m : Img) (es : List TabEntry) : Bool :=
  let live := es.filter routeLive
  let key := fun (e : TabEntry) => (ef e.bytes RXR_lane, ef e.bytes RXR_ide, ef e.bytes RXR_id)
  live.any (fun e => match routeKind e with
    | 1 => m.receiveBad es e
    | 2 => m.pduBad e
    | 3 => ethDefBad e
    | _ => true) ||
  anyPair (fun x y => routeKind x == 1 && routeKind y == 1 && key x == key y) live ||
  decide (262144 < live.foldl (fun t e => t + shadowSize (leAt e.bytes 0 4) (leAt e.bytes 20 4)) 0)

/-- A program-marked signal route names an absent Team (R303). -/
def signalAbsent (v : Variant) (e : TabEntry) : Bool :=
  let b := e.bytes
  efIs b SIGR_valid && !efIs b SIGR_dir && efIs b SIGR_prog && !teamPresent v (ef b SIGR_team)

/-- The owner tag of an entry: 0 where no sub-block names it (R52). -/
def tagIn (es : List TabEntry) (i : Nat) : Nat :=
  match es.find? fun e => e.idx == i with
  | some e => e.owner
  | none => 0

/-- Signal route i of the image, if it is valid. -/
def signalOf (es : List TabEntry) (i : Nat) : Option TabEntry := es.find? fun e => e.idx == i && efIs e.bytes SIGR_valid

/-- The extract range of a receive route holds an emit route or a route or slot of another owner (R311). -/
def extractBad (sr sl : List TabEntry) (e : TabEntry) : Bool :=
  let o := ef e.bytes RXR_owner
  (List.range (ef e.bytes RXR_sig_count)).any fun k =>
    let i := ef e.bytes RXR_sig_first + k
    tagIn sr i != o ||
    (match signalOf sr i with
      | some r => efIs r.bytes SIGR_dir || (!efIs r.bytes SIGR_prog && tagIn sl (ef r.bytes SIGR_slot) != o)
      | none => false)

/-- An emit route names no definition, leaves it, or differs from it or its slot in owner (R311). -/
def emitBad (fr sl : List TabEntry) (e : TabEntry) : Bool :=
  let b := e.bytes
  tagIn sl (ef b SIGR_slot) != e.owner || tagIn fr (ef b SIGR_def) != e.owner ||
  (match routeOf fr (ef b SIGR_def) with
    | none => true
    | some d =>
      match routeKind d with
      | 2 => !walkIn (ef d.bytes PDU_length) (bitWalk (efIs b SIGR_bit27) (ef b SIGR_len_m1 + 1) (ef b SIGR_pos))
      | 3 => efIs d.bytes ETHD_tunnel || decide (ef d.bytes ETHD_max_elems ≤ ef b SIGR_pos % 64)
      | _ => true)

/-- The emit range of a slot leaves the table or holds a route for another slot (R311). -/
def slotBad (sr : List TabEntry) (e : TabEntry) : Bool :=
  let m := leAt e.bytes 8 6
  let first := bitsOf m 47 30
  let count := bitsOf m 29 27
  decide (262144 < first + count) ||
  (List.range count).any fun k =>
    match signalOf sr (first + k) with
    | some r => ef r.bytes SIGR_slot != e.idx
    | none => false

/-- The checks that span frame routes, signal routes and slots, made with the last of the three sections that the image
holds. -/
def Img.routesCrossBad (m : Img) : Bool :=
  let fr := m.entries 0x09
  let sr := m.entries 0x0A
  let sl := m.entries 0x0B
  let emits := sr.filter fun e => efIs e.bytes SIGR_valid && efIs e.bytes SIGR_dir
  let isContainer := fun (e : TabEntry) => match routeOf fr (ef e.bytes SIGR_def) with
    | some d => routeKind d == 3
    | none => false
  fr.any (fun e => routeLive e && routeKind e == 1 && extractBad sr sl e) || emits.any (emitBad fr sl) ||
  anyPair (fun x y => isContainer x && ef x.bytes SIGR_def == ef y.bytes SIGR_def &&
    ef x.bytes SIGR_pos % 64 == ef y.bytes SIGR_pos % 64) emits ||
  sl.any (slotBad sr)

/-- Section `sid` is the last of the image's route and slot sections. -/
def Img.lastRoute (m : Img) (sid : Nat) : Bool :=
  !((List.range 12).any fun i => decide (sid < i) && decide (9 ≤ i) && m.has i)

def Img.tableFail (m : Img) (sid : Nat) : Option Nat :=
  let es := m.entries sid
  let absent := match sid with
    | 6 => es.any (streamAbsent m.v)
    | 7 => es.any fun e => decide (schedPort e < 16) && !portPresent m.v (schedPort e)
    | 8 => es.any fun e => (namedPorts e).any (gone m.v)
    | 9 => es.any (routeAbsent m.v)
    | 10 => es.any (signalAbsent m.v)
    | _ => false
  let bad := match sid with
    | 6 => es.any streamBad
    | 7 => m.scheduleBad es
    | 8 => es.any (forwardBad es) || fdbBad es 0 || fdbBad es 1
    | 9 => m.frameRoutesBad es
    | _ => false
  firstFail [failIf absent statusAbsent, failIf (m.tableBad sid es) statusFormat, failIf bad statusFormat,
    failIf (decide (9 ≤ sid) && m.lastRoute sid && m.routesCrossBad) statusFormat]

/-! ### Courser programs (R53, R274) -/

/-- A program block. -/
structure Program where
  team : Nat
  mask : Nat
  owner : Nat
  entry : Nat
  imem : List Byte
  dmem : List Byte
  /-- its reserved bytes and padding are 0 -/
  clean : Bool
deriving DecidableEq, Repr

/-- The program blocks of a section as far as they can be read, and whether all of it could be. -/
def programs : Nat → List Byte → List Program × Bool
  | 0, bs => ([], bs.isEmpty)
  | fuel + 1, bs =>
    if bs.isEmpty then ([], true)
    else
      let il := leAt bs 8 4
      let dl := leAt bs 12 4
      let dat := up16 (16 + il)
      let b : Program :=
        { team := leAt bs 0 1, mask := leAt bs 1 1, owner := leAt bs 2 1, entry := leAt bs 4 2,
          imem := (bs.drop 16).take il, dmem := (bs.drop dat).take dl,
          clean := leAt bs 3 1 == 0 && leAt bs 6 2 == 0 && !dirty ((bs.drop (16 + il)).take (dat - 16 - il)) &&
            !dirty ((bs.drop (dat + dl)).take (up16 (dat + dl) - dat - dl)) }
      let ends := if dl = 0 then 16 + il else dat + dl
      if bs.length < 16 then ([], false)
      else if il % 4 != 0 || decide (16384 < il) || decide (32768 < dl) || decide (bs.length < ends) then ([b], false)
      else
        let r := programs fuel (bs.drop (up16 (dat + dl)))
        (b :: r.1, r.2)

def Img.programs (m : Img) : List Program × Bool := Machine.programs ((m.body 12).length / 16 + 1) (m.body 12)

def Img.programsFail (m : Img) : Option Nat :=
  let r := m.programs
  let owners := m.owners
  firstFail [
    failIf (r.1.any fun b => decide (b.team < 16) && !teamPresent m.v b.team) statusAbsent,
    failIf (!r.2 || r.1.any (fun b => decide (15 < b.team) || !b.clean || decide (b.imem.length / 4 ≤ b.entry) ||
      !owners.contains b.owner) ||
      anyPair (fun a b => a.team == b.team && a.mask &&& b.mask != 0) r.1) statusFormat]

/-! ### Wake Plan (R439, R440) -/

/-- A header value lies outside the range of R439. -/
def wakeHeaderBad (b : List Byte) : Bool :=
  let u := fun o n => leAt b o n
  let targets := u 0x0E 2
  let et := u 0x28 2
  u 0x06 2 != 0 || decide (15 < u 0x0C 1) || decide (3 < u 0x0D 1) || decide (2 ^ 10 ≤ targets) ||
  (List.range 5).any (fun k => bitsOf targets (2 * k + 1) (2 * k) == 0) || (u 0x10 4 != 0 && outside (u 0x10 4) 10 604800) ||
  decide (60000 < u 0x14 2) || outside (u 0x16 2) 10 60000 || u 0x1E 2 != 0 || u 0x20 2 &&& 0xFC01 != 0 ||
  decide (7 < u 0x22 1) || decide (8 < u 0x23 1) || outside (u 0x24 1) 1 64 || u 0x27 1 != 0 ||
  decide (et < 0x0600) || [0x8100, 0x88A8, 0x22F0, 0x88F7, 0x888E, 0x88E5].contains et ||
  outside (u 0x2A 2) 100 2000 || outside (u 0x2C 2) 1 1000 || u 0x36 2 != 0 || decide (2 ^ 30 ≤ u 0x38 4) || u 0x3C 4 != 0

/-- The pattern records and the member records of a Wake Plan. -/
def patterns (b : List Byte) : List (List Byte) := (List.range (leAt b 0x23 1)).map fun i => slice b (64 + 24 * i) 24
def members (b : List Byte) : List (List Byte) :=
  (List.range (leAt b 0x24 1)).map fun i => slice b (64 + 24 * leAt b 0x23 1 + 4 * i) 4

def patternBad (r : List Byte) : Bool :=
  decide (127 < leAt r 1 1) || decide (8 < leAt r 1 1 % 16) || leAt r 2 2 != 0 || dirty (r.drop 20) ||
  decide (2 ^ 30 ≤ leAt r 4 4) || decide (2 ^ 29 ≤ leAt r 8 4)

def Img.memberBad (m : Img) (i : Nat) (r : List Byte) : Bool :=
  let lane := leAt r 1 1
  leAt r 0 1 != i || leAt r 2 2 != 0 ||
  (lane != 255 && (decide (47 < lane) || m.laneKind lane != 1 || !bitOf (m.laneOpt lane) 0))

def Img.wakePlanFail (m : Img) : Option Nat :=
  let b := m.body 13
  let pats := patterns b
  let mems := members b
  let lanes := pats.map fun r => leAt r 0 1
  let noLane := fun (n : Nat) => decide (n < 48) && !lanePresent m.v n
  let ring := bitOf (leAt b 0x0D 1) 1
  firstFail [
    failIf ((List.range 48).any (fun n => (bitOf (leAt b 0 8) n || bitOf (leAt b 0x18 8) n) && noLane n) ||
      (List.range 16).any (fun n => (bitOf (leAt b 8 2) n || bitOf (leAt b 0x2E 2) n) && !portPresent m.v n) ||
      (List.range 16).any (fun n => bitOf (leAt b 0x0A 2) n && !teamPresent m.v n) || lanes.any noLane ||
      mems.any (fun r => noLane (leAt r 1 1))) statusAbsent,
    failIf (b.length != 64 + 24 * pats.length + 4 * mems.length || wakeHeaderBad b || pats.any patternBad ||
      anyPair (· == ·) lanes || (List.range 256).any (fun n => lanes.contains n != (wakeLanes (m.body 1)).contains n) ||
      (mems.zipIdx.any fun e => m.memberBad e.2 e.1) ||
      (ring && (decide (mems.length ≤ leAt b 0x25 1) ||
        (leAt b 0x2E 2 == 0 && mems.all fun r => leAt r 1 1 == 255)))) statusFormat]

/-! ### Load Plan (R446, R467, R468) -/

def loadHeaderBad (b : List Byte) : Bool :=
  let u := fun o n => leAt b o n
  u 0 1 == 1 || decide (16 < u 0 1) || u 1 1 != 0 || outside (u 2 2) 10 1000 || outside (u 4 2) 2000 5000 ||
  decide (u 4 2 < u 6 2) || outside (u 8 2) 2000 5000 || u 0x0A 1 == 0 || decide (1 < u 0x0B 1) || u 0x0C 2 == 0 ||
  outside (u 0x0E 2) 50 1000 || decide (640 < u 0x10 2) || dirty (slice b 0x12 0x2E)

def outRec (b : List Byte) (j : Nat) : List Byte := slice b (0x40 + 32 * j) 32
def seqRec (b : List Byte) (q : Nat) : List Byte := slice b (0x2C0 + 48 * q) 48
def segRecs (b : List Byte) : List (List Byte) := (List.range (leAt b 0x10 2)).map fun i => slice b (0x440 + 12 * i) 12

/-- An output record breaks R446, R467 or R468; `pair` is the mode of the other half of its pair. -/
def outRecBad (owners : List Nat) (slots : List TabEntry) (j pair : Nat) (r : List Byte) : Bool :=
  let mode := leAt r 0 1
  let own := leAt r 1 1
  let hz := leAt r 8 2
  !(mode == 0 || (if j < 16 then mode == 1 || mode == 2 else mode == 3 || mode == 4)) ||
  (decide (16 ≤ j) && (mode == 4) != (pair == 4)) || !owners.contains own ||
  (mode != 0 && outside (leAt r 2 1) 1 (if j < 16 then 20 else 12)) || decide (31 < leAt r 2 1) ||
  decide (2 < leAt r 3 1) || decide (7 < leAt r 4 1) || decide (3 < leAt r 5 1) || decide (2 < leAt r 6 1) ||
  bitsOf (leAt r 7 1) 6 5 != 0 || (if 2 ≤ mode then outside hz 100 25000 else hz != 0) || leAt r 13 1 != 0 ||
  decide (2 ^ 18 ≤ leAt r 16 4) || dirty (r.drop 20) ||
  (mode != 0 && leAt r 6 1 == 2 && tagIn slots (leAt r 16 4) != own)

/-- A sequence record breaks R461, R462, R467 or R468. -/
def seqRecBad (owners : List Nat) (slots : List TabEntry) (r : List Byte) : Bool :=
  let count := leAt r 2 1
  let own := leAt r 3 1
  let first := leAt r 12 4
  decide (2 < leAt r 0 1) || decide (31 < leAt r 1 1) || decide (16 < count) || !owners.contains own ||
  decide (3 < leAt r 4 1) || dirty (slice r 5 3) || (count != 0 && leAt r 0 1 == 2 && outside (leAt r 8 4) 10 1000000) ||
  decide (2 ^ 18 ≤ first) || (slice r 16 count).any (fun c => decide (42 < c.toNat)) ||
  (slice r 16 16).any (fun c => decide (63 < c.toNat)) || dirty (r.drop 32) ||
  (bitOf (leAt r 4 1) 0 && (decide (2 ^ 18 < first + count) ||
    (List.range count).any fun i => tagIn slots (first + i) != own))

/-- A segment record breaks R467 or R468. -/
def segRecBad (r : List Byte) : Bool :=
  decide (19 < leAt r 0 1) || decide (31 < leAt r 1 1) || leAt r 2 2 != 0 || leAt r 10 2 == 0 ||
  bitsOf (leAt r 8 4) 13 5 != 0

def Img.loadPlanFail (m : Img) : Option Nat :=
  let b := m.body 14
  let owners := m.owners
  let slots := m.entries 11
  let segs := segRecs b
  let noOut := fun (j : Nat) => decide (j < 20) && !outputPresent m.v j
  firstFail [
    failIf ((List.range 20).any (fun j => dirty (outRec b j) && noOut j) || (leAt b 0 1 != 0 && !batPresent m.v) ||
      (List.range 8).any (fun q => (slice (seqRec b q) 16 (min 16 (leAt (seqRec b q) 2 1))).any fun c =>
        decide (16 ≤ c.toNat) && noOut (c.toNat - 16)) ||
      segs.any (fun r => noOut (leAt r 0 1))) statusAbsent,
    failIf (b.length != 0x440 + 12 * segs.length || loadHeaderBad b ||
      (List.range 20).any (fun j =>
        outRecBad owners slots j (leAt (outRec b (if j % 2 = 0 then j + 1 else j - 1)) 0 1) (outRec b j)) ||
      (List.range 8).any (fun q => seqRecBad owners slots (seqRec b q)) || segs.any segRecBad ||
      anyPair (fun x y => leAt x 0 2 == leAt y 0 2) segs) statusFormat]

/-! ### Sections in order (R56, R57) -/

def Img.signatureFail (m : Img) : Option Nat :=
  failIf (decide (3 < leAt (m.body 0xFF) 0 1) || dirty (slice (m.body 0xFF) 1 31)) statusFormat

/-- Units, structure and ranges of a section. The Owner Plan has been checked before. -/
def Img.contentFail (m : Img) (id : Nat) : Option Nat :=
  match id with
  | 1 => m.portPlanFail
  | 2 => m.fabricPlanFail
  | 4 => m.hobbleFail
  | 5 => m.timePlanFail
  | 6 | 7 | 8 | 9 | 10 | 11 => m.tableFail id
  | 12 => m.programsFail
  | 13 => m.wakePlanFail
  | 14 => m.loadPlanFail
  | 0xFF => m.signatureFail
  | _ => none

def Img.crcFail (m : Img) (s : Sect) : Option Nat := failIf (crc32 (m.at s) != s.crc) 0x1D

/-- Steps 1 to 3 of R57: header, section table, Owner Plan. [DEDUCED, log entry 19] -/
def Img.frontFail (m : Img) : Option Nat :=
  firstFail [m.headerFail, failIf (m.headerFail.isNone && !m.tableOk) statusFormat,
    (m.sects.find? fun s => s.id == 3).bind m.crcFail, failIf (ownerPlanBad (m.body 3)) statusFormat]

/-- One section at step 4 of R57. [DEDUCED, log entry 19] -/
def Img.sectFail (m : Img) (s : Sect) : Option Nat :=
  if s.id = 3 then none else firstFail [m.crcFail s, m.contentFail s.id]

end Sys2Proof.Machine
end

