-- ==== Sys2Proof/Machine/Key.lean ====
section
/-!
DEFINITION. The Tack Room key store (R384 to R404): key commands, derivation and wrapping, persistent records in MRAM,
the attestation response, debug, and the tamper sensors.
-/

namespace Sys2Proof.Machine

/-! ### Registers of each requester (R387, R403) -/

/-- KEY_ARG (0), KEY_DATA i (1 + i) and KEY_OUT i (17 + i) of a requester. -/
def State.tackReg (s : State) (r : Requester) (i : Nat) : Word := look (fun _ => 0) s.tack.regs (64 * requesterIndex r + i)
def State.setTackReg (s : State) (r : Requester) (i : Nat) (v : Word) : State :=
  { s with tack := { s.tack with regs := put (fun _ => 0) s.tack.regs (64 * requesterIndex r + i) v } }

/-- KEY_DATA of a requester as bytes. -/
def State.keyData (s : State) (r : Requester) : List Byte :=
  wordsToBytes ((List.range 16).map fun i => s.tackReg r (1 + i))

/-- Bytes written to a requester's KEY_OUT from word 0 on. -/
def State.setKeyOut (s : State) (r : Requester) (bs : List Byte) : State :=
  (List.range (bs.length / 4)).foldl (fun t i => t.setTackReg r (17 + i) (word (leAt bs (4 * i) 4))) s

/-- Words `lo` to `hi` of a requester's KEY registers read 0. -/
def State.clearTack (s : State) (r : Requester) (lo hi : Nat) : State :=
  let b := 64 * requesterIndex r
  { s with tack := { s.tack with regs := dropRange s.tack.regs (b + lo) (b + hi) } }

/-- A field of a requester's KEY_ARG. -/
def State.keyArg (s : State) (r : Requester) (f : Fld) : Nat := getField (s.tackReg r 0) f.hi f.lo

/-! ### Derivation and wrapping (R390, R391, R395, R398) -/

/-- SP 800-108 in counter mode with one block of HMAC-SHA-256 (R390): a 16-byte label, a 32-byte context and the output
length in bits. -/
def kdf (key label context : List Byte) (bits : Nat) : List Byte :=
  (Config.hmacSha256 key (beBytes 4 1 ++ slice label 0 16 ++ [0] ++ slice context 0 32 ++ beBytes 4 bits)).take (bits / 8)

/-- The input key of every derivation: the test root while debug is unlocked (R398). -/
def State.deriveFrom (s : State) (key : List Byte) : List Byte :=
  if s.isSet KEY_STATUS_debug then (List.range 32).map (BitVec.ofNat 8) else key

def persistLabel : List Byte := [0x4B, 0x5A, 0x2D, 0x50, 0x45, 0x52, 0x53, 0x49, 0x53, 0x54]
def attestLabel : List Byte := [0x4B, 0x5A, 0x2D, 0x41, 0x54, 0x54, 0x45, 0x53, 0x54]

/-- The key that wraps the record of a slot under an owner (R395). -/
def State.recordKey (s : State) (slot owner : Nat) : List Byte :=
  kdf (s.deriveFrom Config.rootSecret) persistLabel (beBytes 2 slot ++ beBytes 1 owner) 256

/-! ### Persistent records (R393, R394) -/

/-- MRAM address of record r. -/
def recordAt (r : Nat) : Nat := 256 * (40001 + r / 4) + 64 * (r % 4)
def State.keyRecord (s : State) (r : Nat) : List Byte := memRead s.mram (recordAt r) 64
def State.recordValid (s : State) (r : Nat) : Bool := bitOf (leAt (s.keyRecord r) 2 1) 7
def State.recordSlot (s : State) (r : Nat) : Nat := leAt (s.keyRecord r) 0 2 % 4096

/-- The valid records in ascending order. -/
def State.records (s : State) : List Nat := (List.range 1024).filter s.recordValid

/-- A record replaced; KEY_PERSIST.used follows. -/
def State.setRecord (s : State) (r : Nat) (bs : List Byte) : State :=
  let s := { s with mram := memWrite s.mram (recordAt r) bs }
  s.fset KEY_PERSIST_used s.records.length

def State.eraseRecord (s : State) (r : Nat) : State := s.setRecord r (List.replicate 64 0)

/-- The owner whose key range holds a slot. [DEDUCED, log entry 102] -/
def State.rangeOwner (s : State) (slot : Nat) : Option Nat :=
  (s.owners.find? fun e => decide (e.2.keyFirst ≤ slot) && decide (slot < e.2.keyFirst + e.2.keyCount)).map (·.1)

/-- The 64 bytes of the record of a key in a slot. -/
def State.recordOf (s : State) (slot : Nat) (v : KeySlot) : List Byte :=
  let owner := (s.rangeOwner slot).getD 0
  let head := leBytes 2 slot ++ leBytes 1 (128 + b2n v.exportable * 8 + b2n v.len256 * 4 + v.usage) ++ leBytes 1 owner ++
    leBytes 4 0 ++ slice (Config.keyWrap (s.recordKey slot owner) v.key) 0 40 ++ leBytes 12 0
  head ++ leBytes 4 (crc32 head)

/-- A record's slot awaits it while the load runs (R386). -/
def State.awaited (s : State) (slot : Nat) : Bool := s.tack.loading && s.tack.await.contains slot

/-! ### Commands (R387, R388) -/

/-- The Tack Room is closed: before the cinch, or after a tamper or a root fault. -/
def State.roomClosed (s : State) : Bool := !s.cinched || s.isSet KEY_STATUS_closed

/-- The requester field of KEY_STATUS and its function field. -/
def keyRequester : Requester → Nat × Nat
  | .func f => (1, f)
  | .svc => (2, 0)
  | .ostler => (3, 0)

/-- A failed command (R388): counted, CMD_REFUSED raised; its status shows at its completion. -/
def State.keyFail (s : State) (r : Requester) (opcode slot status : Nat) : State :=
  let s := (s.countSat (KEY_CNT 1)).raise 1401
  let s := if status = 0x35 then (s.countSat (KEY_CNT 2)).raise 1402 else s
  let s := if status = 0x30 then s.countSat (KEY_CNT 7) else s
  { s with tack := { s.tack with run := some { requester := r, opcode := opcode, slot := slot, status := status } } }

/-- A command that passed. -/
def State.keyPass (s : State) (r : Requester) (opcode slot : Nat) : State :=
  { s with tack := { s.tack with run := some { requester := r, opcode := opcode, slot := slot, status := 0 } } }

/-- A write of KEY_CMD starts a command (R387): busy sets, the writer's KEY_OUT clears, and the checks run. Until the load
has ended, a command with persist set or with a slot in `slots` that awaits its record fails with NOT_READY (R386).
[DEDUCED, log entry 101] -/
def State.keyCommand (s : State) (r : Requester) (opcode slot : Nat) (form range keeps : Bool) (slots : List Nat)
    (body : State → State × Nat) : State :=
  match s.ownerOf r with
  | none => s
  | some o =>
    if s.tack.run.isSome then (((s.clearTack r 1 16).fset KEY_STATUS_status 0x10).countSat (KEY_CNT 1)).raise 1401
    else
      let q := keyRequester r
      let s := s.fsets [(KEY_STATUS_busy, 1), (KEY_STATUS_requester, q.1), (KEY_STATUS_function, q.2)]
      let s := s.clearTack r 17 63
      let persist := keeps && s.keyArg r KEY_ARG_persist == 1
      if opcode != 7 && s.roomClosed then s.keyFail r opcode slot 0x30
      else if !form then s.keyFail r opcode slot 0x17
      else if range && !(slots.all fun k => s.keyInRange o k) then s.keyFail r opcode slot 0x2B
      else if s.tack.loading && (persist || slots.any s.awaited) then s.keyFail r opcode slot 0x1B
      else
        let b := body s
        if b.2 = 0 then b.1.keyPass r opcode slot else s.keyFail r opcode slot b.2

/-- A key enters a slot with the attributes in KEY_ARG, and its record the lowest free one when persist is set.
[DEDUCED, log entry 101] -/
def State.keyEnter (s : State) (r : Requester) (slot : Nat) (key : List Byte) : State × Nat :=
  let v : KeySlot := {
    key := key, usage := s.keyArg r KEY_ARG_usage, len256 := s.keyArg r KEY_ARG_len256 == 1,
    exportable := s.keyArg r KEY_ARG_exportable == 1, persist := s.keyArg r KEY_ARG_persist == 1 }
  if v.persist then
    match (List.range 1024).find? fun i => !s.recordValid i with
    | none => (s, 0x36)
    | some i => ((s.setKeySlot slot (some v)).setRecord i (s.recordOf slot v), 0)
  else (s.setKeySlot slot (some v), 0)

/-- The key in slot k with a usage, or the status of its failure. -/
def State.keyOf (s : State) (k usage : Nat) : Except Nat (List Byte) :=
  match s.keySlot k with
  | none => .error 0x2D
  | some v => if v.usage = usage then .ok v.key else .error 0x2C

/-- Key bytes that KEY_ARG.len256 asks for. -/
def State.keyArgLen (s : State) (r : Requester) : Nat := if s.keyArg r KEY_ARG_len256 = 1 then 32 else 16

/-- KEY_WRITE (R388). -/
def execKeyWrite (r : Requester) (slot : Nat) (s : State) : Host.Outcome State Fault Refusal :=
  .next (s.keyCommand r 1 slot true true true [slot] fun s =>
    if (s.keySlot slot).isSome then (s, 0x33) else s.keyEnter r slot ((s.keyData r).take (s.keyArgLen r)))

/-- KEY_CLEAR (R388, R394): the slot is zeroised and its persistent record erased. -/
def execKeyClear (r : Requester) (slot : Nat) (s : State) : Host.Outcome State Fault Refusal :=
  .next (s.keyCommand r 2 slot true true false [slot] fun s =>
    let s := s.setKeySlot slot none
    (((s.records.filter fun i => s.recordSlot i == slot).foldl (fun (t : State) i => t.eraseRecord i) s), 0))

/-- KEY_DERIVE (R390): from src, or from the root for Ostler firmware and the service port. -/
def execKeyDerive (r : Requester) (slot : Nat) (s : State) : Host.Outcome State Fault Refusal :=
  let src := s.keyArg r KEY_ARG_src
  let root := s.keyArg r KEY_ARG_src_root == 1
  let mayRoot := match r with
    | .func _ => false
    | _ => true
  let data := s.keyData r
  let form := (!root || mayRoot) && (data.drop 48).all (· == 0)
  .next (s.keyCommand r 3 slot form true true (if root then [slot] else [slot, src]) fun s =>
    if (s.keySlot slot).isSome then (s, 0x33)
    else
      let n := s.keyArgLen r
      let enter := fun (key : List Byte) => s.keyEnter r slot (kdf (s.deriveFrom key) (data.take 16) (slice data 16 32) (8 * n))
      if root then enter Config.rootSecret
      else
        match s.keyOf src 3 with
        | .error e => (s, e)
        | .ok key => enter key)

/-- KEY_WRAP (R388): the key in slot wrapped under src into KEY_OUT. -/
def execKeyWrap (r : Requester) (slot : Nat) (s : State) : Host.Outcome State Fault Refusal :=
  let src := s.keyArg r KEY_ARG_src
  .next (s.keyCommand r 4 slot true true false [slot, src] fun s =>
    match s.keyOf src 2 with
    | .error e => (s, e)
    | .ok kek =>
      match s.keySlot slot with
      | none => (s, 0x2D)
      | some v => if v.exportable then (s.setKeyOut r (slice (Config.keyWrap kek v.key) 0 (v.key.length + 8)), 0) else (s, 0x37))

/-- KEY_UNWRAP (R388). -/
def execKeyUnwrap (r : Requester) (slot : Nat) (s : State) : Host.Outcome State Fault Refusal :=
  let src := s.keyArg r KEY_ARG_src
  .next (s.keyCommand r 5 slot true true true [slot, src] fun s =>
    if (s.keySlot slot).isSome then (s, 0x33)
    else
      match s.keyOf src 2 with
      | .error e => (s, e)
      | .ok kek =>
        match Config.keyUnwrap kek ((s.keyData r).take (s.keyArgLen r + 8)) with
        | none => (s, 0x35)
        | some key => s.keyEnter r slot (slice key 0 (s.keyArgLen r)))

/-- GLB_DEVICE_ID of the part (R3). -/
def deviceId : Variant → Nat
  | .kz4860 => 0x4B5A4860
  | .kz4840 => 0x4B5A4840
  | .kz4820 => 0x4B5A4820

/-- Ostler's firmware has passed its verification (R84): it runs, or it was halted for another reason. -/
def State.ostlerVerified (s : State) : Bool :=
  s.ostlerRuns || (s.fget GLB_OSTLER_STATUS_state == 3 && s.fget GLB_OSTLER_STATUS_halt_cause != 1)

/-- The slot record of the running image. -/
def State.runningSlot (s : State) : SlotRec := if s.isSet GLB_IMAGE_STATUS_slot then s.slotB else s.slotA

/-- Bytes 0 to 95 of an attestation response (R399). -/
def State.attestHead (s : State) (challenge : List Byte) : List Byte :=
  let flags := b2n (s.isSet KEY_STATUS_debug) + 2 * s.fget GLB_IMAGE_STATUS_fallback +
    4 * b2n (s.fget KEY_TAMPER_latch != 0) + 8 * b2n s.ostlerVerified
  [0x4B, 0x5A, 0x41, 0x54] ++ leBytes 2 0x0100 ++ leBytes 2 flags ++ leBytes 4 (deviceId s.variant) ++
    leBytes 4 (s.reg GLB_STEPPING).toNat ++ leBytes 4 (s.reg GLB_IMAGE_GEN).toNat ++
    leBytes 4 (s.reg GLB_IMAGE_VERSION).toNat ++ leBytes 4 (s.reg CIP_BOOT_FIELD).toNat ++ leBytes 4 0 ++
    slice s.runningSlot.digest 0 32 ++ slice challenge 0 32

/-- KEY_ATTEST (R399). -/
def execKeyAttest (r : Requester) (slot : Nat) (s : State) : Host.Outcome State Fault Refusal :=
  .next (s.keyCommand r 6 slot true true false [slot] fun s =>
    match s.keyOf slot 3 with
    | .error e => (s, e)
    | .ok key =>
      if s.fget GLB_IMAGE_STATUS_hash != 1 then (s, 0x27)
      else
        let challenge := (s.keyData r).take 32
        let head := s.attestHead challenge
        let mac := Config.hmacSha256 (kdf (s.deriveFrom key) attestLabel challenge 256) head
        ((s.setKeyOut r (head ++ slice mac 0 32)).countSat (KEY_CNT 6), 0))

/-- The attribute word of a slot (R388). -/
def State.attributeWord (s : State) (slot : Nat) : Nat :=
  let owner := (s.rangeOwner slot).getD 0
  match s.keySlot slot with
  | none => owner
  | some v =>
    2 ^ 31 + v.usage * 2 ^ 26 + b2n v.len256 * 2 ^ 25 + b2n v.exportable * 2 ^ 24 + b2n v.persist * 2 ^ 23 + owner

/-- KEY_INFO (R388): the one command of a closed Tack Room. -/
def execKeyInfo (r : Requester) (slot : Nat) (s : State) : Host.Outcome State Fault Refusal :=
  .next (s.keyCommand r 7 slot true true false [slot] fun s => (s.setTackReg r 17 (word (s.attributeWord slot)), 0))

/-- KEY_UNDEFINED_OPCODE (R388): a KEY_CMD write whose opcode is 0x0 or 0x8 to 0xF fails with FORMAT. -/
def execKeyUndefinedOpcode (r : Requester) (opcode : Nat) (s : State) : Host.Outcome State Fault Refusal :=
  if 1 ≤ opcode ∧ opcode ≤ 7 then .next s
  else .next (s.keyCommand r opcode 0 false false false [] fun s => (s, 0x17))

/-- A command ends with a status (R387). -/
def State.keyComplete (s : State) (c : KeyRun) (status : Nat) : State :=
  let s := { s with tack := { s.tack with run := none } }
  let s := s.clearTack c.requester 1 16
  let s := s.fsets [(KEY_STATUS_status, status), (KEY_STATUS_done, 1), (KEY_STATUS_busy, 0)]
  let s := if status = 0 then s.countSat (KEY_CNT 0) else s
  -- a command that passed its checks and is stopped by a tamper fails after all
  let s := if c.status = 0 && status != 0 then (s.countSat (KEY_CNT 1)).raise 1401 else s
  s.raise 1400

/-- KEY_CMD_COMPLETE (R387). -/
def execKeyCmdComplete (s : State) : Host.Outcome State Fault Refusal :=
  match s.tack.run with
  | none => .next s
  | some c => .next (s.keyComplete c c.status)

/-! ### The persistent load (R386, R396) -/

/-- A record is erased at the load: discarded and counted. -/
def State.discardRecord (s : State) (r : Nat) : State := ((s.eraseRecord r).countSat (KEY_CNT 5)).raise 1403

/-- One valid record at the load: whether it was discarded, and the state after it. -/
def State.loadRecord (s : State) (r : Nat) : State × Bool :=
  let bs := s.keyRecord r
  let slot := s.recordSlot r
  let owner := leAt bs 3 1
  let attr := leAt bs 2 1
  let len := if bitOf attr 2 then 40 else 24
  if leAt bs 60 4 != crc32 (bs.take 60) || s.rangeOwner slot != some owner || !Config.rootFusesGood then
    (s.discardRecord r, true)
  else
    match Config.keyUnwrap (s.recordKey slot owner) (slice bs 8 len) with
    | none => if s.isSet KEY_STATUS_debug then (s.countSat (KEY_CNT 5), true) else (s.discardRecord r, true)
    | some key =>
      ((s.setKeySlot slot (some {
        key := slice key 0 (len - 8), usage := attr % 4, len256 := bitOf attr 2, exportable := bitOf attr 3,
        persist := true })).countSat (KEY_CNT 4), false)

/-- PERSIST_LOAD_DONE (R396): the records have been taken in ascending order, and KEY_STATUS.loaded is set. -/
def execPersistLoadDone (s : State) : Host.Outcome State Fault Refusal :=
  if !s.tack.loading then .next s
  else
    let s := { s with tack := { s.tack with loading := false, await := [] } }
    let e := s.records.foldl (fun (acc : State × Nat) r =>
      let x := acc.1.loadRecord r
      (x.1, acc.2 + b2n x.2)) (s, 0)
    .next (e.1.fsets [(KEY_STATUS_loaded, 1), (KEY_PERSIST_discarded, e.2)])

/-! ### Zeroisation and closing (R397, R401) -/

/-- Every slot and every KEY_DATA and KEY_OUT is zeroised. -/
def State.zeroise (s : State) : State :=
  let keep := s.tack.regs.filter fun e => e.1 % 64 == 0
  let s := { s with keySlots := [], tack := { s.tack with regs := keep } }
  (s.countSat (KEY_CNT 3)).raise 1398

/-- The Tack Room closes: the load stops, every slot is zeroised, and with code 2 the records are being erased. -/
def State.closeRoom (s : State) (code : Nat) : State :=
  let s := { s with tack := { s.tack with loading := false, await := [], erasing := s.tack.erasing || code == 2 } }
  (s.zeroise.fset KEY_STATUS_closed 1).raise 1397

/-- The response code of sensor n (R400, R482): the Hobble block's from the cinch on, the always-on copy before it.
[DEDUCED, log entry 104] -/
def State.tamperCode (s : State) (n : Nat) : Nat :=
  if s.cinched then max (leNat (memRead s.hobA (0x690 + n) 1)) (leNat (memRead s.hobB (0x690 + n) 1))
  else bitsOf s.aonTamper (2 * n + 1) (2 * n)

/-- The highest response code among the latched sensors. [DEDUCED, log entry 104] -/
def State.latchedCode (s : State) : Nat :=
  (List.range 4).foldl (fun m n => if bitOf (s.fget KEY_TAMPER_latch) n then max m (s.tamperCode n) else m) 0

/-- CORE powers up (R392, R401, R402): a root bank that fails its check, or a latched sensor with a response, keeps the Tack Room
closed. -/
def State.tackPowerUp (s : State) : State :=
  let s := if Config.rootFusesGood then s else (s.fset KEY_STATUS_closed 1).raise 1405
  let code := s.latchedCode
  if code = 0 then s
  else
    let s := s.fset KEY_STATUS_closed 1
    { s with tack := { s.tack with erasing := s.tack.erasing || code == 2 } }

/-- The cinch (R386, R392, R401): the Tack Room opens and the persistent load starts, unless a tamper keeps it closed; with a root
fault the load fails every record. [DEDUCED, log entry 103] -/
def State.tackOpen (s : State) : State :=
  let s := s.fset KEY_PERSIST_used s.records.length
  if s.isSet KEY_STATUS_closed && (Config.rootFusesGood || s.latchedCode != 0) then
    let s := s.raise 1397
    if s.tack.stable then ({ s with tack := { s.tack with stable := false } } : State).raise 1396 else s
  else
    let slots := s.records.map s.recordSlot
    { s with tack := { s.tack with stable := false, loading := true, await := slots } }

/-- An inline unit discards the protected frame that port n receives (R377). What follows of one that still arrives is ignored. -/
def State.inlineDiscard (s : State) (n : Nat) : State :=
  let e := s.eth n
  if e.late.isNone then s
  else if !e.lateBytes.isEmpty then s.cutBad n
  else
    let s := s.cutGone n
    s.setEth n { s.eth n with lateGone := true }

/-- An inline unit ends a protected frame that it transmits with the inverted FCS, and discards one that it receives (R377). -/
def State.inlineAbort (s : State) : State :=
  let spoil := onLine (fun f => f.sec.isSome) fun (f : Frame) => { f with bad := true }
  (List.range 16).foldl State.inlineDiscard { s with eths := mapVals noEth (fun _ e => spoil e) s.eths }

/-- The response to a tamper while CORE runs (R401). -/
def State.tamperRespond (s : State) (code : Nat) : State :=
  if code = 0 then s
  else
    let s := s.jobsTamper.inlineAbort
    let s := match s.tack.run with
      | none => s
      | some c => s.keyComplete c 0x2E
    s.closeRoom code

/-- TAMPER_ASSERT (R400, R401): sensor n asserts. Sensors 1 to 3 lie in CORE; TAMP also wakes, and is an on request. -/
def execTamperAssert (n : Nat) (s : State) : Host.Outcome State Fault Refusal :=
  if 4 ≤ n || (n != 0 && !s.coreOn) then .next s
  else
    let s := (s.fset ⟨KEY_TAMPER, 16 + n, 16 + n⟩ 1).fset ⟨KEY_TAMPER, n, n⟩ 1
    let s := if s.inStable then { s with tack := { s.tack with stable := true } } else s
    let s := if s.coreOn then (s.raise (1392 + n)).tamperRespond (s.tamperCode n) else s
    .next (if n = 0 then s.powerSource { code := 5 } else s)

/-- SENSOR_DEASSERT (R400, R402). -/
def execSensorDeassert (n : Nat) (s : State) : Host.Outcome State Fault Refusal :=
  if 4 ≤ n then .next s else .next (s.fset ⟨KEY_TAMPER, 16 + n, 16 + n⟩ 0)

/-- TAMPER_LATCH_CLEAR (R402): a write of KEY_TAMPER by the service port or Ostler firmware. -/
def execTamperLatchClear (r : Requester) (mask : Nat) (s : State) : Host.Outcome State Fault Refusal :=
  match r with
  | .func _ => .next (s.rejectWrite r 0 (KEY_TAMPER / 4))
  | _ =>
    if !s.coreOn then .next s else
    .next ((List.range 4).foldl (fun (t : State) n =>
      if bitOf mask n && !bitOf (t.fget KEY_TAMPER_active) n then t.fset ⟨KEY_TAMPER, n, n⟩ 0 else t) s)

/-- PERSIST_ERASE_DONE (R401): every record row has been written whole to zero. -/
def execPersistEraseDone (s : State) : Host.Outcome State Fault Refusal :=
  if !s.tack.erasing then .next s
  else
    let s := { s with mram := dropRange s.mram (recordAt 0) (recordAt 1024 - 1), tack := { s.tack with erasing := false } }
    .next ((s.fset KEY_PERSIST_used 0).raise 1399)

/-! ### Debug and scan (R88, R397) -/

/-- The keys that the inline units hold for the frames on a port's lines go; those frames go on under `k`. -/
def Eth.rekey (k : List Byte) (e : Eth) : Eth :=
  let e := onLine (fun _ => true) (fun (f : Frame) => { f with sec := f.sec.map fun (x : TxSec) => { x with key := k } }) e
  { e with late := e.late.map fun (x : RxSec) => { x with key := k } }

/-- Every key that a unit has loaded is zeroised (R397): a job or a frame under way goes on with a key of no stated value.
[DEDUCED, log entry 105] -/
def State.loseLoadedKeys (s : State) : State :=
  let k := s.freeBytes 32
  let jobs := s.cip.jobs.map fun (j : Job) => if jobKeyed j.desc then { j with rekeyed := true } else j
  { (s.setJobs jobs).drew 32 with eths := mapVals noEth (fun _ e => e.rekey k) s.eths }

/-- DEBUG_UNLOCK (R397): a 128-byte token, the public key then the signature. A token that fails changes nothing.
[DEDUCED, log entry 105] -/
def execDebugUnlock (token : List Byte) (s : State) : Host.Outcome State Fault Refusal :=
  let key := slice token 0 64
  let challenge := wordsToBytes ((List.range 8).map fun i => s.reg (KEY_DBG_CHALLENGE i))
  let digest := Config.sha256 (challenge ++ beBytes 4 (deviceId s.variant))
  if !s.coreOn || Config.sha256 key != Config.debugKeyDigest || !Config.ecdsaVerify key (slice token 64 64) digest then .next s
  else .next ((s.loseLoadedKeys.zeroise.fset KEY_STATUS_debug 1).raise 1404)

/-- A line's data at a zeroisation. -/
def blankLine (x : Line) : Line := { x with value := 0, version := 0 }

/-- The secrets and owner data that the boot partitions' scan chains reach are zeroised (R88): Tack Room SRAM, Saddlecloth
keys, Signal Store lines, at home, in the Team caches and on their way, and buffer cells. [DEDUCED, log entry 106] -/
def State.scanZeroise (s : State) : State :=
  let keep := s.tack.regs.filter fun e => e.1 % 64 == 0
  let blank := fun (x : Option Stored) => x.map fun (v : Stored) =>
    { v with frame := { v.frame with bytes := List.replicate v.frame.bytes.length 0 } }
  { s with
    keySlots := [], tack := { s.tack with regs := keep },
    owners := mapVals noOwner (fun _ (o : Owner) => { o with keyValid := false, keyDraw := 0 }) s.owners,
    aper := dropRange s.aper (slotAt 0) (slotAt 262144 - 1),
    teams := { s.teams with
      caches := mapVals (fun _ => []) (fun _ l => l.map blankLine) s.teams.caches
      evict := mapVals (fun _ => []) (fun _ l => l.map blankLine) s.teams.evict }
    sig := { s.sig with
      reqs := s.sig.reqs.map fun (q : SigReq) => { q with value := 0, version := 0 }
      trans := mapVals (fun _ => none) (fun _ (x : Option SigTrans) =>
        x.map fun (t : SigTrans) => { t with req := { t.req with value := 0, version := 0 } }) s.sig.trans
      answers := s.sig.answers.map fun (a : SnoopAnswer) => { a with data := a.data.map fun _ => (0, 0) }
      fills := s.sig.fills.map fun (f : Fill) => { f with line := blankLine f.line } }
    stored := mapVals (fun _ => none) (fun _ x => blank x) s.stored }

/-- SCAN_ENABLE (R88): scan through the debug port, which needs debug unlocked. -/
def execScanEnable (s : State) : Host.Outcome State Fault Refusal :=
  if s.isSet KEY_STATUS_debug then .next ({ s.scanZeroise with host := { s.host with scan := true } }) else .next s

end Sys2Proof.Machine
end

