-- ==== Sys2Proof/Machine/Power.lean ====
section
/-!
DEFINITION. Power states, sleep and wake (R418 to R438): moves between Paddock, Trot and Gallop, wakes, the power-down
and its abort, the WAKE line, and the consent ring's messages and timers.
-/

namespace Sys2Proof.Machine

/-! ### Wake detectors at a release (R101, R106) -/

/-- The detector that the lane's wake byte arms (R43, R421): none of kind 2 without a Wake Plan. -/
def State.armedKind (s : State) (n : Nat) : Nat :=
  match s.fget (LANE_PHY_CFG_wake n) with
  | 1 => 1
  | 2 => if s.wakePlan.isEmpty then 0 else 2
  | _ => 0

/-- Lane n's detector starts watching, and its termination, over-voltage window and patterns are copied to the always-on
domain. [DEDUCED, log entry 41] -/
def State.laneArm (s : State) (n : Nat) : State :=
  if !lanePresent s.variant n || !s.cfgInForce n then s
  else
    let kind := if s.laneKind n = 0 then 0 else s.armedKind n
    let w := fun a => (s.reg a).toNat
    s.setLane n { s.lane n with
      watching := kind, aonTerm := s.fget (LANE_PHY_CFG_term n), aonPullup := s.isSet (LANE_PHY_CFG_lin_pullup n)
      aonKind := s.laneKind n, aonWake := kind, pnErrors := 0
      aonPn := if kind = 2 then
          [w (LANE_PN_ID n), w (LANE_PN_ID_MASK n), w (LANE_PN_CTRL n), w (LANE_PN_DMASK_LO n), w (LANE_PN_DMASK_HI n)]
        else [] }

/-- Lane n's transceiver is released: a frame still on the lane is cut, and the lane is no longer integrated. -/
def State.laneRelease (s : State) (n : Nat) : State :=
  if !lanePresent s.variant n then s
  else
    let s := s.laneCut n
    let s := s.setLane n { s.lane n with waiting := false }
    let s := if s.laneKind n = 0 then s else s.fset (LANE_PHY_STATUS_integrated n) 0
    ({ s with lanesOff := if bitOf s.lanesOff n then s.lanesOff else s.lanesOff + 2 ^ n } : State).laneRefresh n

/-! ### Moves (R419, R420) -/

/-- Units of the part that Paddock leaves unpowered. -/
def State.paddockLanes (s : State) : List Nat :=
  (List.range 48).filter fun n => lanePresent s.variant n && !bitOf (s.plan 0 8) n
def State.paddockPorts (s : State) : List Nat :=
  (List.range 16).filter fun n => portPresent s.variant n && !bitOf (s.plan 8 2) n
def State.paddockTeams (s : State) : List Nat :=
  (List.range 16).filter fun t => teamPresent s.variant t && !bitOf (s.plan 0x0A 2) t

def maskOf (l : List Nat) : Nat := l.foldl (fun v i => if bitOf v i then v else v + 2 ^ i) 0

/-- The dirty lines of Team t are written back, and stay in its cache in S (R90, R420). -/
def State.flushTeam (s : State) (t : Nat) : State :=
  (s.teamLines t).foldl (fun (u : State) x =>
    if x.modified then
      let u := (u.crsCnt t 7).courserData x.slot x.value x.version
      (u.setLine t { x with modified := false }).record x.slot t (some false)
    else u) s

/-- Each Courser of Team t has reached a yield or a wait, or does not run (R90). [DEDUCED, log entry 80] -/
def State.teamQuiet (s : State) (t : Nat) : Bool :=
  (List.range 8).all fun c => (s.crs (8 * t + c)).run != .running || (s.crs (8 * t + c)).parked

/-- The dispatch of Team t stops, or goes on. [DEDUCED, log entry 80] -/
def State.stopTeam (s : State) (t : Nat) (on : Bool) : State :=
  { s with teams := { s.teams with stopped := withBit s.teams.stopped t on } }

/-- Team t goes on as it was: dispatch resumes, and its Coursers leave their yields. -/
def State.teamGoOn (s : State) (t : Nat) : State :=
  (List.range 8).foldl (fun (u : State) c => u.setCrs (8 * t + c) { u.crs (8 * t + c) with parked := false }) (s.stopTeam t false)

/-- Every Courser of Team t that an image names restarts at its entry address (step 5 of R90). -/
def State.teamRestart (s : State) (t : Nat) : State :=
  (List.range 8).foldl (fun (u : State) c =>
    let k := 8 * t + c
    if (u.crs k).named && !(u.crs k).gone then u.crsStart k else u) (s.stopTeam t false)

/-- Team t is unpowered: dirty lines at home, its Coursers in their reset state (R273, R420). -/
def State.teamGate (s : State) (t : Nat) : State :=
  let s := (s.flushTeam t).stopTeam t false
  let s := (List.range 8).foldl (fun (u : State) c =>
    let x := u.crs (8 * t + c)
    u.setCrs (8 * t + c) { named := x.named, owner := x.owner, entry := x.entry, gone := x.gone }) s
  { s with
    teams := { s.teams with gregs := s.teams.gregs.filter fun e => e.1 / 256 != t }
    teamsOff := withBit s.teamsOff t true }

/-- Port n is silent: its PHY is off and it is link-down (R176). -/
def State.portGate (s : State) (n : Nat) : State :=
  let s := s.linkDrop n
  { s with portsOff := withBit s.portsOff n true }

/-- The units that the Wake Plan does not name for Paddock are gated (R420). -/
def State.paddockEnter (s : State) : State :=
  let lanes := s.paddockLanes
  let s := lanes.foldl (fun (u : State) n => u.laneArm n) s
  let s := lanes.foldl (fun (u : State) n => u.laneRelease n) s
  let s := s.paddockPorts.foldl (fun (u : State) n => u.portGate n) s
  let s := s.paddockTeams.foldl (fun (u : State) t => u.teamGate t) s
  if !bitOf (s.plan 0x0C 1) 2 && s.linkRuns then s.fset HST_LINK_STATUS_state 4 else s

/-- Paddock is left: the gated units are powered, their lanes integrate, their ports train and their Coursers restart. -/
def State.paddockLeave (s : State) : State :=
  let lanes := (List.range 48).filter fun n => bitOf s.lanesOff n
  let ports := (List.range 16).filter fun n => bitOf s.portsOff n
  let teams := (List.range 16).filter fun t => bitOf s.teamsOff t
  let s := { s with lanesOff := 0, portsOff := 0, teamsOff := 0 }
  let s := lanes.foldl (fun (u : State) n => if u.laneEnabled n && u.laneKind n != 0 then u.laneEnable n else u) s
  let s := ports.foldl (fun (u : State) n => if u.isSet (EMAC_CTRL_enable n) && !(u.eth n).hot then u.trainStart n else u) s
  let s := teams.foldl (fun (u : State) t => u.teamRestart t) s
  if s.linkState = 4 then (s.setReg HST_LINK_STATUS 0).linkTrain else s

/-- A move starts: towards Paddock the Teams that it leaves unpowered stop their dispatch and drain.
[DEDUCED, log entry 111] -/
def State.moveStart (s : State) (target : Nat) : State :=
  let s := s.fsets [(PWK_STATE_phase, 2), (PWK_STATE_target, target)]
  if target = 1 then s.paddockTeams.foldl (fun (u : State) t => u.stopTeam t true) s else s

/-- The phase of a device in a state: steady, or in its dismount time. -/
def State.basePhase (s : State) : Nat := if s.pwk.dismount.isSome then 3 else 0

/-! ### The power-down (R424, R425) -/

/-- The device acts on an off request: the instant D. -/
def State.powerDown (s : State) (undervolt : Bool) : State :=
  let s := { s with pwk := { s.pwk with
    downStep := 1, undervolt := s.pwk.undervolt || undervolt, dismount := none, laterTarget := none, offLater := false
    wakeOpen := false, forwarded := none, waiting := none } }
  if !s.coreOn then s
  else
    let s := s.fsets [(PWK_STATE_phase, 4), (PWK_STATE_off_latched, 0), (PWK_DISMOUNT_LEFT_ms, 0), (PWK_RING_STATUS_phase, 0)]
    ((s.countSat (PWK_CNT 0)).raise 1154).outsRefresh

/-- An off request that may wait (R427): latched while the device wakes, kept for the end of a move, else acted on at once.
[DEDUCED, log entry 112] -/
def State.offRequest (s : State) : State :=
  if s.pwk.downStep != 0 then s
  else if s.fget PWK_STATE_phase = 1 then (s.fset PWK_STATE_off_latched 1).raise 1157
  else if s.fget PWK_STATE_phase = 2 then { s with pwk := { s.pwk with offLater := true } }
  else s.powerDown false

/-- A move has completed (R419, R427): STATE_CHANGE is raised, an off request that came meanwhile is acted on, else a later
target taken. -/
def State.moveDone (s : State) : State :=
  let target := s.fget PWK_STATE_target
  let was := s.fget PWK_STATE_state
  let s := s.fsets [(PWK_STATE_state, target), (PWK_STATE_phase, s.basePhase)]
  let s := if target = 1 then s.paddockEnter else if was = 1 then s.paddockLeave else s
  let s := (s.raise 1153).outsRefresh.balEval
  let later := s.pwk.laterTarget
  let s := { s with pwk := { s.pwk with laterTarget := none } }
  if s.pwk.offLater then s.powerDown false
  else
    match later with
    | some t => if t = target then s else s.moveStart t
    | none => s

/-- STATE_TARGET_WRITE (R419, R426): also an on request. A write of 0, and a function's write of Paddock that would cut it
off, are ignored. [DEDUCED, log entry 111] -/
def State.targetWrite (s : State) (r : Requester) (target : Nat) : State :=
  let cutOff := match r with
    | .func _ => target == 1 && !bitOf (s.plan 0x0C 1) 2
    | _ => false
  if target % 4 = 0 || cutOff then s
  else
    let s := (s.fset PWK_CTRL_target target).onRequest { code := 0 } false
    if s.pwk.downStep != 0 then s
    else if s.fget PWK_STATE_phase = 1 ∨ s.fget PWK_STATE_phase = 2 then { s with pwk := { s.pwk with laterTarget := some (target % 4) } }
    else if s.fget PWK_STATE_state = target % 4 then s
    else s.moveStart (target % 4)

/-- STATE_TARGET_WRITE (R419). -/
def execStateTargetWrite (r : Requester) (target : Nat) (s : State) : Host.Outcome State Fault Refusal :=
  if !s.coreOn then .next s else .next (s.privWrite r PWK_CTRL fun s => s.targetWrite r target)

/-- STATE_MOVE_DONE (R419): towards Paddock, once every Team that it leaves unpowered has drained. -/
def execStateMoveDone (s : State) : Host.Outcome State Fault Refusal :=
  if s.fget PWK_STATE_phase ≠ 2 then .next s
  else if s.fget PWK_STATE_target = 1 ∧ s.paddockTeams.all s.teamQuiet = false then .next s
  else .next s.moveDone

/-- PADDOCK_DRAIN_TIMEOUT (R420): the Teams that have not drained are halted, and the move completes. -/
def execPaddockDrainTimeout (s : State) : Host.Outcome State Fault Refusal :=
  if s.fget PWK_STATE_phase ≠ 2 ∨ s.fget PWK_STATE_target ≠ 1 then .next s
  else
    let late := (s.paddockTeams.filter fun t => !s.teamQuiet t).flatMap fun t => (List.range 8).map (8 * t + ·)
    .next (late.foldl (fun (u : State) k =>
      if (u.crs k).run == .running && !(u.crs k).parked then u.crsHalt k else u) s).moveDone

/-! ### Waking (R421 to R423) -/

/-- WAKE_LINE_LOW (R430): a low of `us` microseconds at the WAKE pin, which the device itself is not driving. Between 20 and
50 µs the outcome is open. [DEDUCED, log entry 114] -/
def execWakeLineLow (us : Nat) (s : State) : Host.Outcome State Fault Refusal :=
  if s.coreOn && s.isSet PWK_WAKE_STATUS_driving then .next s
  else
    let s := if s.coreOn then s.fset PWK_WAKE_STATUS_level 0 else s
    let hit := 50 ≤ us || (20 ≤ us && s.free % 2 == 1)
    let s := if 20 ≤ us && us < 50 then s.drew 1 else s
    if !s.wakeLineEn || s.pwk.stuck || !hit then .next s
    else
      let s := if s.coreOn then
          ({ s with pwk := { s.pwk with quietWake := false } } : State).raise 1164 |>.evalReady
        else s
      .next (s.powerSource { code := 4 })

/-- WAKE_TIMER (R421): timer_s seconds of ACLK after entry to Stable. -/
def execWakeTimer (s : State) : Host.Outcome State Fault Refusal :=
  if s.inStable && s.plan 0x10 4 != 0 then .next (s.powerSource { code := 6 }) else .next s

/-- SERVICE_CS_WAKE (R421). -/
def execServiceCsWake (s : State) : Host.Outcome State Fault Refusal := .next (s.powerSource { code := 7 })

/-- Sources in order of assertion, those of the same tick in ascending code (R423). [DEDUCED, log entry 113] -/
def sourceOrder : List (OnReq × Nat) → List (OnReq × Nat)
  | [] => []
  | x :: l =>
    let t := sourceOrder l
    let before := fun (y : OnReq × Nat) => y.2 < x.2 || (y.2 == x.2 && y.1.code < x.1.code)
    t.takeWhile before ++ x :: t.dropWhile before

/-- WAKE_START (R422, R423): at an ACLK tick in Stable a wake begins with the sources asserted so far: a latched on request
as code 9, then the others. After an undervoltage it waits for VBAT (R424, R545). [DEDUCED, log entry 113] -/
def execWakeStart (s : State) : Host.Outcome State Fault Refusal :=
  let valid := !s.pwk.undervolt || s.pwk.wakeReqs.any fun e => e.1.code == 8
  if !s.inStable || !valid || (s.pwk.pendingOn.isNone && s.pwk.wakeReqs.isEmpty) then .next s
  else
    let on := s.pwk.pendingOn
    let reqs := sourceOrder s.pwk.wakeReqs
    let s := { s with
      boot := .aonUp
      pwk := { s.pwk with
        undervolt := false, pendingOn := none, pendingRaise := on.isSome, wakeOpen := true, wakeTarget := 0, wakeReqs := []
        wakeSeen := [], propagate := false, wakeNo := s.pwk.wakeNo + 1, wakeLanes := [], pnLanes := []
        guardWait := reqs.any fun e => e.1.code == 6 } }
    let s := match on with
      | some (q, stamp) => s.wakeSource q true stamp
      | none => s
    .next (reqs.foldl (fun (u : State) e => u.wakeSource e.1 false e.2) s)

/-! ### Off requests (R424, R427) -/

/-- SLEEP_WRITE (R424): a write of PWK_CTRL.sleep; the device leaves the ring silently. -/
def execSleepWrite (r : Requester) (s : State) : Host.Outcome State Fault Refusal :=
  if !s.coreOn then .next s
  else .next (s.privWrite r PWK_CTRL fun s =>
    ({ s with pwk := { s.pwk with consented := false, confirmed := false, dismount := none } } : State).offRequest)

/-- The device is powered beyond the always-on domain. -/
def State.powered (s : State) : Bool := s.coreOn || s.pdieOn || s.boot != .down

/-- The off request of an undervoltage: never latched, never cancelled. -/
def State.undervoltage (s : State) : State :=
  if !s.powered then s
  else
    let s := if s.pwk.downStep = 0 then s.powerDown true else { s with pwk := { s.pwk with undervolt := true } }
    if s.coreOn then s.raise 1168 else s

/-- UNDERVOLTAGE (R424). -/
def execUndervoltage (s : State) : Host.Outcome State Fault Refusal := .next s.undervoltage

/-- OFF_LATCH_ACT (R427): the next checkpoint of a start-up. -/
def execOffLatchAct (s : State) : Host.Outcome State Fault Refusal :=
  if s.isSet PWK_STATE_off_latched && s.fget PWK_STATE_phase == 1 then .next (s.powerDown false) else .next s

/-! ### The steps of a power-down (R425) -/

/-- 2 µs before the release. -/
def State.downArm (s : State) : State :=
  let s := (List.range 48).foldl (fun (u : State) n => u.laneArm n) s
  { s with pwk := { s.pwk with downStep := 2 } }

/-- The release of the lane transceivers: the point of no return. -/
def State.downRelease (s : State) : State :=
  let s := (List.range 48).foldl (fun (u : State) n => u.laneRelease n) s
  { s with pwk := { s.pwk with downStep := 3 } }

/-- Ethernet PHYs fall silent and the PCIe link goes down. -/
def State.downSilence (s : State) : State :=
  let s := (List.range 16).foldl (fun (u : State) n => if portPresent u.variant n then u.portGate n else u) s
  ({ s with pwk := { s.pwk with downStep := 4 } } : State).linkLost

/-- What lies in the always-on domain of a lane. -/
def Lane.aon (l : Lane) : Lane :=
  { cond := l.cond % 4, termOpen := l.termOpen, aonTerm := l.aonTerm, aonPullup := l.aonPullup, aonKind := l.aonKind
    aonPn := l.aonPn, aonWake := l.aonWake, watching := l.watching, pnErrors := l.pnErrors, pnOscillator := l.pnOscillator
    biasOn := l.biasOn }

/-- What the always-on domain holds of power and wake. -/
def Pwk.aon (p : Pwk) : Pwk :=
  { downStep := p.downStep, undervolt := p.undervolt, pendingOn := p.pendingOn, wakeReqs := p.wakeReqs
    wakeTarget := p.wakeTarget, wakeNo := p.wakeNo, asserts := p.asserts, stuck := p.stuck, lastAwake := p.lastAwake
    seq := p.seq, skipped := p.skipped }

/-- Registers in the always-on domain (R534), and the debug challenge, which lasts from one always-on power-on reset to the
next (R397). -/
def aonReg (a : Nat) : Bool :=
  a ≤ 0x18 || (PWK_ACLK_COUNT ≤ a && a < PWK_WREC 16) || a == KEY_TAMPER ||
    (KEY_DBG_CHALLENGE 0 ≤ a && a < KEY_DBG_CHALLENGE 8)

/-- Registers in the power die (R534). -/
def pdieReg (a : Nat) : Bool := 0xC0000 ≤ a && a < 0xE0000

/-- CORE and LINE go off: what lies in the always-on domain, the power die and MRAM stays. -/
def State.coreOff (s : State) : State :=
  let debug := s.isSet KEY_STATUS_debug
  let t : State := {
    pending := s.pending, out := s.out, freeNext := s.freeNext, variant := s.variant
    regs := s.regs.filter fun e => aonReg e.1 || pdieReg e.1
    mram := s.mram, rowProgrammed := s.rowProgrammed, slotA := s.slotA, slotB := s.slotB, genLast := s.genLast
    coldStart := false, pdieOn := s.pdieOn, aclkCalibrated := s.aclkCalibrated, perstLow := s.perstLow
    blackBox := s.blackBox, lanes := mapVals noLane (fun _ l => l.aon) s.lanes, ticks := s.ticks, wakePlan := s.wakePlan
    pwk := s.pwk.aon, aonWakeLimit := s.aonWakeLimit, aonTamper := s.aonTamper, outs := s.outs, conv := s.conv
    groupEnergy := s.groupEnergy, tack := { stable := s.tack.stable }, host := { vioLow := s.host.vioLow } }
  let t := if debug then t.fset KEY_STATUS_debug 1 else t
  { t with pwk := { t.pwk with downStep := 5 } }

/-- PDIE goes off: the device is in Stable. -/
def State.pdieOff (s : State) : State :=
  { s with
    regs := s.regs.filter fun e => !pdieReg e.1
    pdieOn := false, outs := [], conv := {}, groupEnergy := [], boot := .down
    pwk := { s.pwk with downStep := 0 } }

/-- DETECTOR_ARM (R106, R425). -/
def execDetectorArm (s : State) : Host.Outcome State Fault Refusal :=
  if s.pwk.downStep = 1 then .next s.downArm else .next s

/-- LANE_RELEASE (R425). -/
def execLaneRelease (s : State) : Host.Outcome State Fault Refusal :=
  if s.pwk.downStep = 2 then .next s.downRelease else .next s

/-- ETHERNET_SILENCE (R425). -/
def execEthernetSilence (s : State) : Host.Outcome State Fault Refusal :=
  if s.pwk.downStep = 3 then .next s.downSilence else .next s

/-- CORE_LINE_OFF (R67, R425): not while an NVM command runs. -/
def execCoreLineOff (s : State) : Host.Outcome State Fault Refusal :=
  if s.pwk.downStep = 4 ∧ s.nvmRun = none then .next s.coreOff else .next s

/-- PDIE_OFF (R425). -/
def execPdieOff (s : State) : Host.Outcome State Fault Refusal :=
  if s.pwk.downStep = 5 then .next s.pdieOff else .next s

/-! ### Power lost during an NVM command (R68) -/

def rowBytes (row : Nat) : Nat := 256 * row

/-- The record of slot A or, with the flag, slot B. -/
def State.slotRec (s : State) (b : Bool) : SlotRec := if b then s.slotB else s.slotA
def State.setSlotRec (s : State) (b : Bool) (r : SlotRec) : State := if b then { s with slotB := r } else { s with slotA := r }

def noRow (_ : Nat) : Bool := false

/-- A row is left complete, or reading back data of no stated value. [DEDUCED, log entry 30] -/
def State.rowDamaged (s : State) (row : Nat) : State :=
  if s.free % 2 = 1 then s.drew 1
  else
    let bs := (s.drew 1).freeBytes 256
    { s with mram := memWrite s.mram (rowBytes row) bs }.drew 257

/-- Each row of a slot whose retirement is cut off is retired or still programmed. -/
def State.rowsMixed (s : State) (b : Bool) : State :=
  let lo := if b then 40960 else 0
  let keep := fun (e : Nat × Bool) => e.1 < lo || lo + 40960 ≤ e.1 || (Config.freeValue (s.freeNext + e.1)).toNat % 2 == 1
  { s with rowProgrammed := s.rowProgrammed.filter keep }.drew 81920

/-- A running command is cut off: a PROGRAM leaves its row complete or damaged, a COMMIT or a RETIRE leaves the slot record
invalid, the one with NVM_GEN_LAST raised or not, the other with the retired flag clear and its rows mixed.
[DEDUCED, log entry 30] -/
def State.nvmCut (s : State) : State :=
  match s.nvmRun with
  | none => s
  | some c =>
    let s := { s with nvmRun := none }
    let b := c.slot == 1
    if c.status != 0 then s
    else
      match c.opcode with
      | 1 => ((s.setSlotRec b {}).rowsMixed b)
      | 2 => s.rowDamaged c.row
      | 3 =>
        let s := s.setSlotRec b { s.slotRec b with valid := false }
        { s with genLast := s.genLast + s.free % 2 }.drew 1
      | _ => s

/-- BUCK_DROPOUT (R545): every step of R425 not yet taken, in its order; a running NVM command is interrupted. Outside a
power-down the off request of R424 comes first. -/
def execBuckDropout (s : State) : Host.Outcome State Fault Refusal :=
  if !s.powered then .next s
  else
    let s := if s.pwk.downStep = 0 then s.undervoltage else { s with pwk := { s.pwk with undervolt := true } }
    let s := s.nvmCut
    let s := if s.pwk.downStep = 1 then s.downArm else s
    let s := if s.pwk.downStep = 2 then s.downRelease else s
    let s := if s.pwk.downStep = 3 then s.downSilence else s
    let s := if s.pwk.downStep = 4 then s.coreOff else s
    .next s.pdieOff

/-! ### The WAKE line (R430) -/

/-- WAKE_ASSERT (R430): a write of PWK_WAKE_CTRL.assert. -/
def execWakeAssert (r : Requester) (s : State) : Host.Outcome State Fault Refusal :=
  if !s.coreOn then .next s else .next (s.privWrite r PWK_WAKE_CTRL fun s => s.wakeRequest)

/-- WAKE_PULSE_END (R430): the line is released, and a held request may follow. -/
def execWakePulseEnd (s : State) : Host.Outcome State Fault Refusal :=
  if !s.isSet PWK_WAKE_STATUS_driving then .next s
  else .next (s.fsets [(PWK_WAKE_STATUS_driving, 0), (PWK_WAKE_STATUS_level, 1)]).wakeHeldTry

/-- WAKE_HELD_RELEASE (R430). -/
def execWakeHeldRelease (s : State) : Host.Outcome State Fault Refusal := .next s.wakeHeldTry

/-- WAKE_STUCK (R430). -/
def execWakeStuck (s : State) : Host.Outcome State Fault Refusal :=
  let s := { s with pwk := { s.pwk with stuck := true } }
  if s.coreOn then .next ((s.fset PWK_WAKE_STATUS_stuck 1).raise 1167) else .next s

/-- WAKE_LINE_HIGH (R430). -/
def execWakeLineHigh (s : State) : Host.Outcome State Fault Refusal :=
  let s := { s with pwk := { s.pwk with stuck := false } }
  if s.coreOn && !s.isSet PWK_WAKE_STATUS_driving then
    .next (s.fsets [(PWK_WAKE_STATUS_level, 1), (PWK_WAKE_STATUS_stuck, 0)])
  else .next s

/-! ### Readiness (R431) -/

/-- CONSENT_WRITE (R431): each bit of PWK_CONSENT from its own source: the owner bound to PF0, Ostler firmware, the service
port. -/
def State.consentWrite (s : State) (r : Requester) (v : Nat) : State :=
  match r with
  | .svc => (s.fset PWK_CONSENT_svc (bitsOf v 2 2)).evalReady
  | .ostler => (s.fset PWK_CONSENT_ostler (bitsOf v 1 1)).evalReady
  | .func _ =>
    let o := s.ownerOf r
    if o.isSome && o == s.boundOwner 0 then (s.fset PWK_CONSENT_host (bitsOf v 0 0)).evalReady
    else s.rejectWrite r 0 (PWK_CONSENT / 4)

def execConsentWrite (r : Requester) (v : Nat) (s : State) : Host.Outcome State Fault Refusal :=
  if !s.coreOn then .next s else .next (s.consentWrite r v)

/-- QUIET_TIME_EXPIRY (R431): quiet_ms without a frame on the quiet lanes, or without a low of the WAKE line.
[DEDUCED, log entry 115] -/
def execQuietTimeExpiry (wake : Bool) (s : State) : Host.Outcome State Fault Refusal :=
  if !s.coreOn then .next s
  else if wake then .next ({ s with pwk := { s.pwk with quietWake := true } } : State).evalReady
  else .next ({ s with pwk := { s.pwk with quietLanes := true } } : State).evalReady

/-- MIN_AWAKE_EXPIRY (R431). -/
def execMinAwakeExpiry (s : State) : Host.Outcome State Fault Refusal :=
  if !s.coreOn then .next s else .next ({ s with pwk := { s.pwk with minAwake := true } } : State).evalReady

/-! ### The consent ring (R434 to R438) -/

/-- Ostler firmware runs the ring that the Wake Plan enables. -/
def State.ringOn (s : State) : Bool := s.coreOn && s.ringEn && s.ostlerRuns

/-- Two rounds compared as a signed 16-bit difference: `a` is older than `b`. -/
def olderRound (a b : Nat) : Bool := decide (signed 16 ((a + 65536 - b % 65536) % 65536) < 0)

/-- The message is discarded (R434). -/
def State.ringDiscards (s : State) (bs : List Byte) : Bool :=
  let m := ringParse bs
  let last := look noHeard s.pwk.heard m.sender
  let now := s.fget PWK_RING_STATUS_round
  let current := s.fget PWK_RING_STATUS_phase != 0 && m.round == now && m.initiator != s.fget PWK_RING_STATUS_initiator
  bs.length < 32 || beAt bs 0 1 / 16 != 1 || 2 < m.state || beAt bs 1 1 != s.plan 0x26 1 || s.memberCount ≤ m.sender ||
  (last.1 == beAt bs 6 2 && s.ticks - last.2 ≤ 250000000) ||
  (m.state != 0 && (olderRound m.round now || (current && s.fget PWK_RING_STATUS_initiator < m.initiator)))

/-- The sender is heard (R434, R437): a member skipped before is back. Members newly missing from the presence bitmap are
the ones skipped now. [DEDUCED, log entry 116] -/
def State.ringHear (s : State) (m : RingMsg) (seq : Nat) : State :=
  let back := bitOf s.pwk.skipped m.sender
  let known := (s.reg PWK_RING_PRESENT_LO).toNat + (s.reg PWK_RING_PRESENT_HI).toNat * 2 ^ 32
  let fresh := m.round != s.fget PWK_RING_STATUS_round || s.fget PWK_RING_STATUS_phase == 0
  let gone := (List.range s.memberCount).filter fun i => m.state != 0 && !bitOf m.present i && (fresh || bitOf known i)
  let skipped := gone.foldl (fun v i => if bitOf v i then v else v + 2 ^ i) (withBit s.pwk.skipped m.sender false)
  let waits := match s.pwk.waiting with
    | some (w, _) => w.next != m.sender
    | none => false
  let s := { s with pwk := { s.pwk with
    heard := put noHeard s.pwk.heard m.sender (seq, s.ticks), skipped := skipped, silent := false, guardWait := false
    waiting := if waits then s.pwk.waiting else none } }
  if back then s.raise 1163 else s

/-- AWAKE (R436): consent in progress is discarded and a dismount aborted; it is an on request. -/
def State.ringAwake (s : State) (m : RingMsg) : State :=
  let s := if olderRound (s.fget PWK_RING_STATUS_round) m.round then s.ringShow m 0 else s.fset PWK_RING_STATUS_phase 0
  let s := { s with pwk := { s.pwk with
    consented := false, confirmed := false, forwarded := none, waiting := none, answered := none, lastAwake := false
    dismount := none } }
  let s := s.fset PWK_DISMOUNT_LEFT_ms 0
  let s := if s.fget PWK_STATE_phase = 3 then s.fset PWK_STATE_phase 0 else s
  ((s.raise 1161).countSat (PWK_CNT 4)).onRequest { code := 0 } false

/-- A message that this member has already answered is answered again (R437). -/
def State.ringAgain (s : State) (m : RingMsg) : Option RingMsg :=
  match s.pwk.answered with
  | some (a, b) => if a = m then some b else none
  | none => none

/-- A newer round, or one of a lower initiator, replaces the round that this member was sending in (R434). -/
def State.ringYield (s : State) (m : RingMsg) : State :=
  let stale := match s.pwk.waiting with
    | some (w, _) => w.round != m.round || w.initiator != m.initiator
    | none => false
  let s := if stale then { s with pwk := { s.pwk with waiting := none } } else s
  if m.round = s.fget PWK_RING_STATUS_round then s else { s with pwk := { s.pwk with forwarded := none } }

/-- READY-SLEEP (R435, R436). -/
def State.ringReady (s : State) (m : RingMsg) : State :=
  let me := s.selfIndex
  let s := (s.ringYield m).ringShow m 1
  if m.next ≠ me then s
  else if m.initiator = me then s.ringReturned m
  else
    match s.ringAgain m with
    | some b => s.ringSend b
    | none =>
      if !s.isSet PWK_READY_ready then s.sendAwake
      else
        let b := { m with
          sender := me, next := nextMember m.present me, consent := if bitOf m.consent me then m.consent else m.consent + 2 ^ me }
        let s := { s with pwk := { s.pwk with consented := true, answered := some (m, b) } }
        s.sendReady b

/-- SLEEP-CONFIRM (R435, R436, R438). -/
def State.ringConfirm (s : State) (m : RingMsg) : State :=
  let me := s.selfIndex
  let s := (s.ringYield m).ringShow m (if s.pwk.dismount.isSome then 3 else 2)
  if m.next = m.initiator then
    if s.pwk.dismount.isSome then s
    else if s.isSet PWK_READY_ready then s.confirmDone m.dismount
    else s.sendAwake
  else if m.next ≠ me then s
  else
    match s.ringAgain m with
    | some b => s.ringSend b
    | none =>
      if !s.isSet PWK_READY_ready then s.sendAwake
      else
        let b := { m with sender := me, next := nextMember m.present me }
        let s := { s with pwk := { s.pwk with consented := true, answered := some (m, b) } }
        s.sendConfirm b true

/-- RING_MESSAGE (R434 to R438): the 32-byte payload of a received message. [DEDUCED, log entry 116] -/
def execRingMessage (bytes : List Byte) (s : State) : Host.Outcome State Fault Refusal :=
  if !s.ringOn || s.ringDiscards bytes then .next s
  else
    let m := ringParse bytes
    let s := s.ringHear m (beAt bytes 6 2)
    if m.state = 0 then .next (s.ringAwake m)
    else if m.state = 1 then .next (s.ringReady m)
    else .next (s.ringConfirm m)

/-- RING_SILENCE_EXPIRY (R435): no ring message for (member_count + 1) × hop_timeout_ms. -/
def execRingSilenceExpiry (s : State) : Host.Outcome State Fault Refusal :=
  if !s.ringOn then .next s else .next ({ s with pwk := { s.pwk with silent := true } } : State).roundTry

/-- The silent member is skipped (R437): its bits leave both bitmaps and the next present member is addressed. A member that
would address the silent initiator evaluates the message itself and becomes the initiator. -/
def State.ringSkip (s : State) (m : RingMsg) : State :=
  let me := s.selfIndex
  let gone := m.next
  let s := { s with pwk := { s.pwk with skipped := withBit s.pwk.skipped gone true } }
  let s := (s.raise 1162).countSat (PWK_CNT 5)
  let present := withBit m.present gone false
  let m := { m with consent := withBit m.consent gone false, present := present, sender := me, next := nextMember present me }
  if gone = m.initiator then
    let m := { m with initiator := me }
    if m.state = 1 then (s.ringShow m 1).ringReturned m else s.confirmDone m.dismount
  else if m.state = 1 then s.sendReady m
  else if m.next = me then s.confirmDone m.dismount
  else s.sendConfirm m s.pwk.forwarded.isSome

/-- HOP_TIMEOUT (R437): the addressed member has not answered; the message is sent once more, then the member skipped. -/
def execHopTimeout (s : State) : Host.Outcome State Fault Refusal :=
  if !s.ringOn then .next s
  else
    match s.pwk.waiting with
    | none => .next s
    | some (m, false) => .next (({ s with pwk := { s.pwk with waiting := some (m, true) } } : State).ringSend m)
    | some (m, true) => .next (({ s with pwk := { s.pwk with waiting := none } } : State).ringSkip m)

/-- CONFIRM_SILENCE_EXPIRY (R438). -/
def execConfirmSilenceExpiry (s : State) : Host.Outcome State Fault Refusal :=
  if !s.ringOn then .next s
  else
    match s.pwk.forwarded with
    | some ms => .next (s.confirmDone ms)
    | none => .next s

/-- DISMOUNT_END (R424, R438): the instant D. -/
def execDismountEnd (s : State) : Host.Outcome State Fault Refusal :=
  if s.pwk.dismount.isNone then .next s
  else
    let s := { s with pwk := { s.pwk with dismount := none } }
    .next s.offRequest

end Sys2Proof.Machine
end

