-- ==== Sys2Proof/Machine/Image.lean ====
section
/-!
DEFINITION. The load of a Harness image (R57): what each section writes once its checks have passed, the register presets
(R54, R55), and the cinch (R60).
-/

namespace Sys2Proof.Machine

/-! ### Plans (R43 to R49, R335, R439, R467) -/

/-- Registers written whole, the first first. -/
def State.setRegs (s : State) (l : List (Nat × Nat)) : State := l.foldl (fun t e => t.setReg e.1 (word e.2)) s

/-- The LANE_BTR word of a bit timing (R118, R153). -/
def btrWord (t : Nat × Nat × Nat) : Nat :=
  (t.1 - 1) * 2 ^ 27 + (t.2.1 - 1) * 2 ^ 19 + (t.2.2 - 1) * 2 ^ 12 + (t.2.2 - 1) * 2 ^ 5

/-- LANE_TDC of a data rate (R120). -/
def tdcWord (rate : Nat) : Nat :=
  match dataTiming rate with
  | some t => if 1000000 < rate then 0x8000 + t.1 * (1 + t.2.1) else 0
  | none => 0

/-- An Ethernet record of the Port Plan (R43, R180). -/
def State.loadEth (s : State) (n : Nat) (r : List Byte) : State :=
  let flags := leAt r 4 1
  s.fsets [(EMAC_CFG_speed n, leAt r 3 1), (EMAC_CFG_cut_through n, b2n (bitOf flags 0)),
    (EMAC_CFG_preemption n, b2n (bitOf flags 1)), (EMAC_CFG_macsec_required n, b2n (bitOf flags 2)),
    (EMAC_CFG_phy_master n, b2n (bitOf flags 3))]

/-- A lane record of the Port Plan (R43, R100, R110, R118, R120, R146). -/
def State.loadLane (s : State) (n : Nat) (r : List Byte) : State :=
  let kind := leAt r 0 1
  let opt := leAt r 4 1
  let can := fun (i : Nat) => b2n (kind == 1 && bitOf opt i)
  let s := s.setLane n { s.lane n with rate := leAt r 8 4 }
  let s := s.fsets [(LANE_PHY_CFG_kind n, kind), (LANE_PHY_CFG_term n, if kind = 1 then leAt r 3 1 else 0),
    (LANE_PHY_CFG_lin_pullup n, b2n (kind == 2 && bitOf opt 0)), (LANE_PHY_CFG_fd n, can 0), (LANE_PHY_CFG_xl n, can 1),
    (LANE_PHY_CFG_sic n, can 2), (LANE_PHY_CFG_fast n, can 3), (LANE_PHY_CFG_wake n, leAt r 5 1)]
  match kind with
  | 1 =>
    let data := leAt r 12 4
    s.setRegs [(LANE_BTR_NOM n, ((nominalTiming (leAt r 8 4)).map btrWord).getD 0),
      (LANE_BTR_DATA n, ((dataTiming data).map btrWord).getD 0), (LANE_TDC n, tdcWord data)]
  | 4 => s.fsets [(LANE_T1S_PLCA_node_id n, opt), (LANE_T1S_PLCA_node_count n, if opt = 0 then leAt r 6 1 else 0)]
  | _ => s

def State.loadPortPlan (s : State) (b : List Byte) : State :=
  (List.range 64).foldl (fun (t : State) (n : Nat) =>
    let r := portRec b n
    if leAt r 0 1 = 0 then t
    else
      let t := { t with portOwner := put (fun _ => 0) t.portOwner n (leAt r 2 1) }
      if n < 16 then t.loadEth n r else t.loadLane (n - 16) r) s

/-- The Fabric Plan (R45, R246): f28 to f31 are always enabled. -/
def State.loadFabricPlan (s : State) (b : List Byte) : State :=
  let alpha := (List.range 8).foldl (fun t c => t + leAt b c 1 * 16 ^ c) 0
  let s := (s.fset SWC_SCHED_CTRL_iter_count (leAt b 8 1)).setRegs
    [(SWC_ALPHA, alpha), (SWC_PORT_STATE, 0xF0000000 + leAt b 0x0C 4 % 2 ^ 28)]
  { s with
    fdbEvict := leAt b 9 1
    defaultClass := (List.range 16).foldl (fun m i => put (fun _ => 0) m i (leAt b (0x10 + i) 1)) [] }

/-- The Owner Plan (R46, R405, R410): every owner is active, with the key that the cinch generates. -/
def State.loadOwners (s : State) (b : List Byte) : State :=
  (ownerRecs b).foldl (fun (t : State) r =>
    t.setOwner r.owner
      { state := 1, persistent := bitOf r.flags 0, func := if r.func = 255 then none else some r.func, keyFirst := r.first,
        keyCount := r.count, keyValid := true }) s

/-- Both copies of the Hobble block (R47, R486). -/
def State.loadHobble (s : State) (b : List Byte) : State := { s with hobA := memWrite [] 0 b, hobB := memWrite [] 0 b }

/-- The Time Plan (R335, R336, R339): in Coherent mode only domain 0 has an increment. -/
def State.loadTimePlan (s : State) (b : List Byte) : State :=
  let mode := leAt b 0 1
  let s := s.setRegs [(TMB_MODE, leAt b 2 2 * 65536 + leAt b 1 1 * 16 + mode), (TMB_PTP_MAP, leAt b 4 4)]
  (List.range 4).foldl (fun (t : State) (d : Nat) =>
    let r := slice b (0x10 + 24 * d) 24
    let t := t.setRegs [(TMB_THRESH d, leAt r 8 4), (TMB_GUARD d, leAt r 12 4), (TMB_DOM_FB d, leAt r 18 2),
      (TMB_DOM_CFG d, leAt r 5 1 * 2 ^ 31 + leAt r 6 1 * 2 ^ 24 + leAt r 16 2)]
    let t := { t with planThresh := put zero t.planThresh d (leAt r 8 4) }
    let t :=
      if mode = 1 ∨ d = 0 then
        { t.setRegs [(TMB_INC_FRAC d, leAt r 0 4), (TMB_INC_INT d, leAt r 4 1)] with
          tmbInc := put (fun _ => 4 * 2 ^ 32) t.tmbInc d (leAt r 4 1 * 2 ^ 32 + leAt r 0 4) }
      else t
    (List.range 16).foldl (fun (u : State) n =>
      if bitOf (leAt r 18 2) n then u.fset (STM_GCL_CTRL_domain n) d else u) t) s

/-- The Wake Plan (R114, R439). -/
def State.loadWakePlan (s : State) (b : List Byte) : State :=
  (patterns b).foldl (fun (t : State) r =>
    let n := leAt r 0 1
    t.setRegs [(LANE_PN_CTRL n, leAt r 1 1), (LANE_PN_ID n, leAt r 4 4), (LANE_PN_ID_MASK n, leAt r 8 4),
      (LANE_PN_DMASK_LO n, leAt r 12 4), (LANE_PN_DMASK_HI n, leAt r 16 4)]) { s with wakePlan := b }

/-- The Load Plan (R467, R470, R472, R473). -/
def State.loadLoadPlan (s : State) (b : List Byte) : State :=
  let u := fun o n => leAt b o n
  let s := s.setRegs [(BAT_CFG, u 2 2 * 65536 + u 0 1), (BAT_LIMITS, u 4 2 * 65536 + u 6 2),
    (BAT_BAL_CFG, u 8 2 * 65536 + u 0x0A 1), (BAT_THRESH, u 0x0E 2 * 65536 + u 0x0C 2), (BAT_CTRL, u 0x0B 1)]
  let s := (List.range 20).foldl (fun (t : State) j =>
    let r := outRec b j
    let t := t.fsets [(PWR_OUT_CFG_owner j, leAt r 1 1), (PWR_OUT_CFG_trig_en j, bitsOf (leAt r 7 1) 7 7),
      (PWR_OUT_CFG_trig j, bitsOf (leAt r 7 1) 4 0), (PWR_OUT_CFG_source j, leAt r 6 1), (PWR_OUT_CFG_slew j, leAt r 5 1),
      (PWR_OUT_CFG_retry j, leAt r 4 1), (PWR_OUT_CFG_fuse_class j, leAt r 3 1), (PWR_OUT_CFG_inom j, leAt r 2 1),
      (PWR_OUT_CFG_mode j, leAt r 0 1)]
    t.setRegs [(PWR_OUT_PWM j, leAt r 12 1 * 2 ^ 24 + leAt r 8 2), (PWR_OUT_SLOT j, leAt r 16 4),
      (PWR_OUT_DIAG j, leAt r 10 2 * 65536 + leAt r 14 2)]) s
  let s := (List.range 8).foldl (fun (t : State) q =>
    let r := seqRec b q
    let t := t.setRegs [(BAT_SEQ_CTRL q, leAt r 3 1 * 2 ^ 24 + bitsOf (leAt r 4 1) 1 1 * 2 ^ 17 +
        bitsOf (leAt r 4 1) 0 0 * 2 ^ 16 + leAt r 2 1 * 2 ^ 8 + leAt r 1 1 * 4 + leAt r 0 1),
      (BAT_SEQ_PERIOD q, leAt r 8 4), (BAT_SEQ_SLOT q, leAt r 12 4)]
    t.setRegs ((List.range 4).map fun i => (BAT_SEQ_CH q i, leAt r (16 + 4 * i) 4))) s
  (segRecs b).foldl (fun (t : State) r =>
    let a := PWR_PROF_SEG (leAt r 0 1) (leAt r 1 1)
    t.setRegs [(a, leAt r 4 4), (a + 4, leAt r 8 4)]) s

/-! ### Tables and programs (R50 to R53, R60, R217, R315) -/

/-- Bytes placed at an aperture address with their owner tag and seal. -/
def State.placeAt (s : State) (a : Nat) (e : TabEntry) (bs : List Byte) : State :=
  { s.setAper a bs with
    aperImage := memWrite s.aperImage a bs
    tags := put (fun _ => 0) s.tags a e.owner
    sealedAt := if e.isSealed then s.sealedAt ++ [(a, bs.length)] else s.sealedAt }

/-- The bytes that an image entry leaves in table t: parity and read-only counts are the device's. -/
def entryBytes (t : Tab) (bs : List Byte) : List Byte :=
  let w0 := word (leAt bs 0 4)
  (List.range (t.size / 4)).flatMap fun w =>
    let m := if t = .frameRoute ∧ w = 7 then 0xFFFFFFFE else t.mask w0 w
    leBytes 4 ((word (leAt bs (4 * w) 4) &&& word m) ^^^ word (t.flip w)).toNat

/-- A static FDB entry at its position, valid and static (R194, R217). -/
def State.loadStatic (s : State) (p pos : Nat) (e : TabEntry) : State :=
  let bs := entryBytes (.fdb p) e.bytes
  let w2 := leAt bs 8 4 % 2 ^ 30 + 3 * 2 ^ 30
  s.placeAt (fdbAddr p pos) e (overlay bs 8 (leBytes 4 w2))

/-- The value, emit range, action and timeout of a slot entry; stale, subst, wtime and version are 0 (R315). -/
def slotImage (bs : List Byte) : List Byte :=
  let m := leAt bs 8 6
  let m := bitsOf m 47 27 * 2 ^ 27 + bitsOf m 24 15 * 2 ^ 15
  bs.take 8 ++ leBytes 6 m ++ leBytes 2 0

/-- A shaper entry in its register, with its owner tag and its seal, kept at the register's address (R52, R60, R270).
[DEDUCED, log entry 140] -/
def State.placeShaper (s : State) (e : TabEntry) : State :=
  let a := STM_CBS_SLOPE (e.idx / 8) (e.idx % 8)
  { s.setReg a (word (leAt e.bytes 0 4)) with
    tags := put (fun _ => 0) s.tags a e.owner
    sealedAt := if e.isSealed then s.sealedAt ++ [(a, 4)] else s.sealedAt }

/-- One entry of a table section other than a static FDB entry. -/
def State.loadEntry (s : State) (e : TabEntry) : State :=
  match codeTab e.code with
  | some (.fdb _) => s
  | some t => s.placeAt (t.at e.idx) e (entryBytes t e.bytes)
  | none =>
    if e.code = 0x0701 then s.placeShaper e
    else s.placeAt (slotAt e.idx) e (slotImage e.bytes)

def State.loadTable (s : State) (m : Img) (sid : Nat) : State :=
  let es := m.entries sid
  let s := es.foldl (fun (t : State) e => t.loadEntry e) s
  if sid = 8 then
    [0, 1].foldl (fun (t : State) p =>
      ((fdbPositions [] (staticEntries es p)).getD []).foldl (fun (u : State) x => u.loadStatic p x.1 x.2) t) s
  else s

/-- A program block in every Courser of its mask (R53). -/
def State.loadProgram (s : State) (b : Program) : State :=
  (List.range 8).foldl (fun (t : State) c =>
    if !bitOf b.mask c then t
    else
      let k := 8 * b.team + c
      let t := t.setCrs k { t.crs k with named := true, owner := b.owner, entry := b.entry }
      let imem := (List.range (b.imem.length / 4)).foldl (fun m i =>
        put zeroWord m (4096 * k + i) (word (leAt b.imem (4 * i) 4))) t.teams.imem
      let t := { t with teams := { t.teams with imem := imem } }
      t.dmemWrite k 0 b.dmem) s

/-! ### Register presets (R54, R55, R100, R119, R180, R189, R336, R345) -/

/-- The blocks that a preset may address: EVC, TMB, HST, ARB, PWR, BAT, SWC to EMAC, LANE, CRS and SIG. -/
def presetBlock (a : Nat) : Bool :=
  (decide (0x20000 ≤ a) && decide (a < 0x60000)) || (decide (0xC0000 ≤ a) && decide (a < 0xE0000)) ||
  (decide (0x100000 ≤ a) && decide (a < 0x150000)) || (decide (0x180000 ≤ a) && decide (a < 0x198000)) ||
  (decide (0x200000 ≤ a) && decide (a < 0x210000)) || (decide (0x300000 ≤ a) && decide (a < 0x310000))

/-- A preset of LANE_BTR breaks R119. -/
def btrPresetBad (old new : Word) : Bool :=
  let seg := fun (w : Word) => ((getField w 31 27 + 1, getField w 26 19 + 1, getField w 18 12 + 1, getField w 11 5 + 1) :
    Nat × Nat × Nat × Nat)
  let o := seg old
  let n := seg new
  n.1 != o.1 || n.1 * (1 + n.2.1 + n.2.2.1) != o.1 * (1 + o.2.1 + o.2.2.1) || decide (min n.2.1 n.2.2.1 < n.2.2.2)

/-- A preset that takes register a from `old` to `new` breaks the rule of its register. `fbPorts` holds the ports that the Time
Plan names. [DEDUCED, log entry 22] -/
def State.presetBad (s : State) (fbPorts a : Nat) (old new : Word) : Bool :=
  let changed := (old ^^^ new).toNat
  if 0x180000 ≤ a ∧ a < 0x198000 then
    let n := (a - 0x180000) / 0x800
    let kind := s.laneKind n
    let term := getField new 5 4
    if a = LANE_PHY_CFG n then
      changed &&& 0x3F47 != 0 || (term == 3 && kind != 4) || ((term == 1 || term == 2) && kind != 1)
    else if a = LANE_BTR_NOM n ∨ a = LANE_BTR_DATA n then btrPresetBad old new
    else if a = LANE_TDC n then bitOf changed 15
    else false
  else if 0x140000 ≤ a ∧ a < 0x150000 then
    a % 0x1000 == 0 && (changed &&& 0x0F070000 != 0 || outside (getField new 13 0) 64 9216)
  else if a = SWC_SCHED_CTRL then getField new 8 8 == 1
  else if 0x131000 ≤ a ∧ a < 0x132000 ∧ a % 0x100 = 0 then
    bitOf fbPorts ((a - 0x131000) / 0x100) && bitsOf changed 5 4 != 0
  else if 0x30200 ≤ a ∧ a < 0x30600 ∧ a % 0x20 = 0x0C then new.toNat != 0 && decide (new.toNat < 100)
  else false

/-- The presets in section order, each applied before the next is checked; the first failure ends them.
[DEDUCED, log entry 22] -/
def State.presetRun (s : State) (fbPorts : Nat) : Nat → List Byte → State × Option Nat
  | 0, _ => (s, none)
  | n + 1, bs =>
    let a := leAt bs 0 4
    let mask := word (leAt bs 8 4)
    let old := s.regLast a
    let new := (old &&& ~~~mask) ||| (word (leAt bs 4 4) &&& mask)
    if !presetBlock a || a % 4 != 0 then (s, some 0x18)
    else if s.presetBad fbPorts a old new then (s, some statusFormat)
    else (s.blockWrite true .ostler a new).presetRun fbPorts n (bs.drop 12)

/-- The stream IDs that the image names (R189). -/
def Img.streams (m : Img) : List Nat :=
  let f := fun (e : TabEntry) =>
    let b := e.bytes
    match codeTab e.code with
    | some (.fdb _) => if efIs b FDB_stream_valid then [ef b FDB_stream] else []
    | some (.rules _) => if efIs b RULE_valid && efIs b RULE_stream_en then [ef b RULE_stream] else []
    | some (.frer _) => if efIs b FRER_valid then [ef b FRER_stream] else []
    | some .frameRoute =>
      if !routeLive e then []
      else
        match routeKind e with
        | 1 => if efIs b RXR_stream_en then [ef b RXR_stream] else []
        | 2 => if efIs b PDU_stream_en then [ef b PDU_stream] else []
        | _ => if efIs b ETHD_stream_en then [ef b ETHD_stream] else []
    | some .filter => if efIs b SFLT_valid then [e.idx] else []
    | _ => []
  [6, 8, 9].flatMap fun sid => (m.entries sid).flatMap f

/-- The auto stream pools break R189. -/
def State.poolsBad (s : State) (m : Img) : Bool :=
  let lo := fun p => s.fget (FWD_AUTO_STREAM_first p)
  let n := fun p => s.fget (FWD_AUTO_STREAM_count p)
  let inPool := fun p i => decide (lo p ≤ i) && decide (i < lo p + n p)
  decide (8192 < lo 0 + n 0) || decide (8192 < lo 1 + n 1) ||
  (n 0 != 0 && n 1 != 0 && decide (lo 0 < lo 1 + n 1) && decide (lo 1 < lo 0 + n 0)) ||
  m.streams.any fun i => inPool 0 i || inPool 1 i

/-- Some preset addresses a register of an absent unit. -/
def Img.presetAbsent (m : Img) : Bool :=
  let b := m.body 15
  (List.range (b.length / 12)).any fun i => unitAbsent m.v (leAt b (12 * i) 4)

/-- Section 0x000F. -/
def State.loadPresets (s : State) (m : Img) : State × Option Nat :=
  let b := m.body 15
  let fbPorts := (List.range 4).foldl (fun t d => t ||| leAt (m.body 5) (0x10 + 24 * d + 18) 2) 0
  if m.presetAbsent then (s, some statusAbsent)
  else
    let r := s.presetRun fbPorts (b.length / 12) b
    (r.1, firstFail [r.2, failIf (r.1.poolsBad m) statusFormat])

/-! ### The load (R57) -/

/-- What a checked section writes, and a failure that shows only against the registers: that of the presets, which are applied
after every other section (R54, R57). -/
def State.loadSection (s : State) (m : Img) (id : Nat) : State × Option Nat :=
  match id with
  | 1 => (s.loadPortPlan (m.body 1), none)
  | 2 => (s.loadFabricPlan (m.body 2), none)
  | 3 => (s.loadOwners (m.body 3), none)
  | 4 => (s.loadHobble (m.body 4), none)
  | 5 => (s.loadTimePlan (m.body 5), none)
  | 12 => (m.programs.1.foldl (fun (t : State) b => t.loadProgram b) s, none)
  | 13 => (s.loadWakePlan (m.body 13), none)
  | 14 => (s.loadLoadPlan (m.body 14), none)
  | 15 => (s, (s.loadPresets m).2)
  | 0xFF => (s, none)
  | _ => (s.loadTable m id, none)

/-- The sections in order: the state, the status and, for UNIT_ABSENT, the section ID (R12). -/
def State.loadSections (s : State) (m : Img) : List Sect → State × Nat × Nat
  | [] => (s, 0, 0)
  | x :: l =>
    match m.sectFail x with
    | some c => (s, c, if c = statusAbsent then x.id else 0)
    | none =>
      let r := s.loadSection m x.id
      match r.2 with
      | some c => (r.1, c, if c = statusAbsent then x.id else 0)
      | none => r.1.loadSections m l

/-- Steps 1 to 5 of R57 on an image: the presets are applied once every section has been taken. -/
def State.loadImage (s : State) (m : Img) : State × Nat × Nat :=
  match m.frontFail with
  | some c => (s, c, 0)
  | none =>
    let r := s.loadSections m m.sects
    if r.2.1 = 0 ∧ m.has 15 = true then ((r.1.loadPresets m).1, 0, 0) else r

/-- The first MRAM byte of a slot (R36, R63). -/
def slotBase (b : Bool) : Nat := if b then 256 * 40960 else 0

/-- The image bytes of a slot: image_length bytes, at least the header and at most 10,240,000.
[DEDUCED, log entry 20] -/
def State.slotImg (s : State) (b : Bool) : Img :=
  let n := leNat (memRead s.mram (slotBase b + 8) 4)
  { v := s.variant, bytes := memRead s.mram (slotBase b) (max 64 (min n 10240000)) }

/-! ### The cinch (R60, R258, R262, R318, R333, R400, R484, R501) -/

/-- The owner of an event source (R501, R527). -/
def State.sourceOwner (s : State) (src : Nat) : Nat :=
  if src < 576 then s.portOwnerOf (16 + src / 12)
  else if src < 832 then s.portOwnerOf ((src - 576) / 16)
  else if src < 960 then (s.crs (src - 832)).owner
  else if 1280 ≤ src ∧ src < 1360 then s.fget (PWR_OUT_CFG_owner ((src - 1280) / 4))
  else if 1488 ≤ src ∧ src < 1520 then (s.boundOwner (src - 1488)).getD 0
  else 0

/-- The gate list of a port that the image enables: outside its domain's guard it starts on its fallback list, and the admin
values are a change requested at the cinch (R258, R259). -/
def State.gclCinch (s : State) (n : Nat) : State :=
  if portPresent s.variant n && s.isSet (STM_GCL_CTRL_enable n) then
    (if s.inside (s.gclDomain n) then s.gateForce n else s.gateFallback n).gclChange n
  else s

/-- The time domains at the cinch (R333, R338, R342): each starts from 0 with no step accepted and no good report, a master inside
its guard and a follower outside. [DEDUCED, log entry 163] -/
def State.tmbCinch (s : State) : State :=
  (List.range 4).foldl (fun (t : State) d =>
    t.fsets [(TMB_DOM_STATUS_inside d, t.fget (TMB_DOM_CFG_role d)), (TMB_DOM_STATUS_good_run d, 0),
      (TMB_DOM_STATUS_synced_once d, 0)]) { s with tmbCount := [], tmbOffset := [], lastReport := [] }

/-- What outlasts a fallback and starts afresh at the cinch: a port has been link-up since the cinch only if its link is up at it
(R81, R176), and a lane of kind 0 has no detector that watches (R101, R106). -/
def State.unitsCinch (s : State) : State :=
  { s with
    eths := mapVals noEth (fun n (e : Eth) => { e with linked := s.isSet (EMAC_STATUS_link_up n) }) s.eths
    lanes := mapVals noLane (fun n (l : Lane) =>
      if s.laneKind n = 0 then { l with watching := 0, aonTerm := 0, aonPullup := false, aonKind := 0, aonPn := [], aonWake := 0 } else l)
      s.lanes }

/-- The always-on copies of the Hobble WAKE limit and tamper codes (R400, R482). -/
def State.aonCopies (s : State) : State :=
  { s with
    aonWakeLimit := s.hobLow 0x400 1 4
    aonTamper := (List.range 4).foldl (fun t n => t + leNat (memRead s.hobA (0x690 + n) 1) * 4 ^ n) 0 }

/-- The cinch: the structure that the image has written is fixed. -/
def State.cinch (s : State) (m : Img) : State :=
  let b := s.isSet GLB_IMAGE_STATUS_slot
  let s := (State.unitsCinch { s with cinched := true, boot := .cinched, host := { s.host with configOpen := true } }).tmbCinch
  let s := (s.fsets [(GLB_IMAGE_STATUS_state, 2), (GLB_IMAGE_STATUS_hash, 0), (GLB_IMAGE_STATUS_load_status, 0)]).setRegs
    [(GLB_IMAGE_GEN, (s.slotRec b).gen), (GLB_IMAGE_VERSION, m.u 0x10 4), (GLB_IMAGE_TARGET, m.u 0x14 2)]
  let s := (List.range 1536).foldl (fun (t : State) src => t.fset (EVC_SRC_owner src) (t.sourceOwner src)) s
  let s := (List.range 64).foldl (fun (t : State) p => t.fillCredit p) s
  let s := s.aonCopies.fset SWC_SCHED_STATUS_sweep_busy 1
  let s := (List.range 16).foldl (fun (t : State) n => t.gclCinch n) s
  let s := (List.range 32).foldl (fun (t : State) g =>
    if g ≠ 0 ∧ t.isSet (STM_SGATE_CTRL_enable g) then t.sgateEnable g else t) s
  let s := if (s.usedEntries .school).any fun i => s.eget (schoolAt i) SCH_state == 1 then s.schoolStart else s
  (s.fillShadows.tackOpen.ostlerLoad).outsRefresh

end Sys2Proof.Machine
end

