-- ==== Sys2Proof/Machine/Nvm.lean ====
section
/-!
DEFINITION. The NVM commands and the writer of image slots (R63 to R72, R480), and the in-field Team test of Farrier
(R88 to R92).
-/

namespace Sys2Proof.Machine

/-! ### The image store (R36, R63) -/

/-- The first MRAM row of a slot. -/
def slotRow (b : Bool) : Nat := if b then 40960 else 0

/-- A row is an image row of one of the slots: 40,000 rows at the head of each 40,960. -/
def imageRow (row : Nat) : Bool := decide (row < 81920) && decide (row % 40960 < 40000)

def State.isProgrammed (s : State) (row : Nat) : Bool := look noRow s.rowProgrammed row

/-- The slot that the device runs from: none unless it has cinched an image and not stopped (R65, R69). -/
def State.slotInUse (s : State) : Option Bool :=
  if s.cinched && s.fget GLB_IMAGE_STATUS_state == 2 then some (s.isSet GLB_IMAGE_STATUS_slot) else none

/-- NVM_SIGNER_DIGESTn: MRAM row 40,257 + n (R480). [DESIGN CHOICE, log entry 16] -/
def State.signerDigest (s : State) (n : Nat) : List Byte := memRead s.mram (rowBytes (40257 + n)) 32

/-- The bytes that the digest of R42 covers, with the header's digest bytes read as 0. -/
def Img.digested (m : Img) : List Byte :=
  let n := if m.signed then ((m.sects.find? fun x => x.id == 0xFF).map (·.off)).getD m.length else m.length
  (m.bytes.take 0x20 ++ List.replicate 32 0 ++ m.bytes.drop 0x40).take n

/-- The header digest. [DEDUCED, log entry 24] -/
def Img.headerDigest (m : Img) : List Byte := slice m.bytes 0x20 32

/-- The Signature section names a signer whose digest is that of its key, and its signature verifies (R56, R480).
[DEDUCED, log entry 27] -/
def State.signatureOk (s : State) (m : Img) : Bool :=
  let b := m.body 0xFF
  let want := s.signerDigest (leAt b 0 1 % 4)
  let key := slice b 32 64
  want != List.replicate 32 0 && want != List.replicate 32 0xFF && Config.sha256 key == want &&
    Config.ecdsaVerify key (slice b 96 64) (Config.sha256 m.digested)

/-- Row 0 of a slot and every row below image_length are programmed (step 1 of R64). [DEDUCED, log entry 20] -/
def State.imageComplete (s : State) (b : Bool) : Bool :=
  s.isProgrammed (slotRow b) &&
    (let n := min (leNat (memRead s.mram (slotBase b + 8) 4)) 10240000
     (List.range ((n + 255) / 256)).all fun i => s.isProgrammed (slotRow b + i))

/-- The image checks of COMMIT (R64), without writing anything: the status. -/
def State.commitStatus (s : State) (b : Bool) : Nat :=
  let m := s.slotImg b
  if !s.imageComplete b then 0x1A
  else
    let load := (({ variant := s.variant } : State).loadImage m).2.1
    if load != 0 then load
    else if Config.sha256 m.digested != m.headerDigest then 0x14
    else if m.signed then (if s.signatureOk m then 0 else 0x15)
    else if s.isSet KEY_STATUS_debug then 0
    else 0x16

/-! ### Commands (R65, R66, R71) -/

/-- A command ends with a status: requester, done and NVM_DONE, and for NOT_RETIRED the reject event (R63, R71).
[DEDUCED, log entry 25] -/
def State.nvmEnd (s : State) (requester status : Nat) : State :=
  let s := s.fsets [(NVM_STATUS_status, status), (NVM_STATUS_requester, requester), (NVM_STATUS_done, 1), (NVM_STATUS_busy, 0)]
  let s := if status = 0x11 then (s.fset NVM_STATUS_not_retired 1).raise 1466 else s
  s.raise 1465

/-- An NVM_CMD write: the requester's right, BUSY, NOT_READY, then the command's own refusal, or its start with what it
does at once and the status it ends with. [DEDUCED, log entry 25] -/
def State.nvmCommand (s : State) (r : Requester) (opcode slot row : Nat) (refusal : State → Nat)
    (start : State → State × Nat) : State :=
  if !s.coreOn || (s.ownerOf r).isNone then s
  else if requesterCode r = 0 then (s.fcount ⟨NVM_REJECTS, 15, 0⟩).raise 1467
  else if s.nvmRun.isSome || s.pwk.downStep != 0 then s.fcount ⟨NVM_REJECTS, 31, 16⟩
  else if !s.isSet NVM_STATUS_boot_done then s.nvmEnd (requesterCode r) 0x1B
  else if refusal s != 0 then s.nvmEnd (requesterCode r) (refusal s)
  else
    let t := start s
    { t.1 with nvmRun := some ⟨requesterCode r, opcode, slot, row, t.2⟩ }.fset NVM_STATUS_busy 1

/-- RETIRE (R63): the record is invalid at once; the rows and the retired flag follow at the end. -/
def execRetire (r : Requester) (slotB : Bool) (s : State) : Host.Outcome State Fault Refusal :=
  .next (s.nvmCommand r 1 (b2n slotB) 0 (fun s => if s.slotInUse == some slotB then 0x12 else 0)
    fun s => (s.setSlotRec slotB {}, 0))

/-- The bytes of a requester's NVM_WBUF0 to NVM_WBUF63 (R63, R66). -/
def State.wbufBytes (s : State) (r : Requester) : List Byte :=
  (List.range 64).flatMap fun i => leBytes 4 (look (fun _ => 0) s.nvmBuf (64 * requesterCode r + i)).toNat

/-- PROGRAM (R63): one retired row from the requester's write buffer as it stands. -/
def execProgram (r : Requester) (row : Nat) (s : State) : Host.Outcome State Fault Refusal :=
  .next (s.nvmCommand r 2 0 row (fun s => if !imageRow row then 0x13 else if s.isProgrammed row then 0x11 else 0)
    fun s => ({ s with
      mram := memWrite s.mram (rowBytes row) (s.wbufBytes r)
      rowProgrammed := put noRow s.rowProgrammed row true }, 0))

/-- COMMIT (R64). The image checks take the command's time. -/
def execCommit (r : Requester) (slotB : Bool) (s : State) : Host.Outcome State Fault Refusal :=
  .next (s.nvmCommand r 3 (b2n slotB) 0
    (fun s => if !(s.slotRec slotB).retired then 0x11 else if s.genLast = 0xFFFFFFFF then 0x1C else 0)
    fun s => (s, s.commitStatus slotB))

/-- NVM_UNDEFINED_OPCODE (R65): an NVM_CMD write whose opcode is none of 1, 2 and 3. -/
def execNvmUndefinedOpcode (r : Requester) (opcode : Nat) (s : State) : Host.Outcome State Fault Refusal :=
  if 1 ≤ opcode ∧ opcode ≤ 3 then .next s
  else .next (s.nvmCommand r opcode 0 0 (fun _ => 0x17) fun s => (s, 0))

/-- Every image row of a slot retired, and its retired flag set as the last step (R63). -/
def State.slotRetire (s : State) (b : Bool) : State :=
  { s with rowProgrammed := dropRange s.rowProgrammed (slotRow b) (slotRow b + 39999) }.setSlotRec b { retired := true }

/-- The next generation number and the slot record with it (R64). -/
def State.slotCommit (s : State) (b : Bool) : State :=
  { s with genLast := s.genLast + 1 }.setSlotRec b
    { valid := true, gen := s.genLast + 1, retired := false, digest := (s.slotImg b).headerDigest }

/-- NVM_CMD_COMPLETE (R63, R64, R71). A COMMIT that comes to its signature waits for the job on the ECDSA unit (R376). -/
def execNvmCmdComplete (s : State) : Host.Outcome State Fault Refusal :=
  match s.nvmRun with
  | none => .next s
  | some c =>
    if c.opcode == 3 && s.ecdsaClaimed && (s.jobOn 4).isSome then .next s else
    let b := c.slot == 1
    let s := { s with nvmRun := none }
    let s := if c.opcode = 1 then s.slotRetire b else if c.opcode = 3 ∧ c.status = 0 then s.slotCommit b else s
    .next (s.nvmEnd c.requester c.status)

/-! ### Farrier (R88 to R92) -/

/-- A Farrier command ends with a status. -/
def State.farEnd (s : State) (status : Nat) : State :=
  { s with farRun := none }.fsets [(FAR_STATUS_status, status), (FAR_STATUS_done, 1), (FAR_STATUS_busy, 0)] |>.raise 1474

/-- A FAR_CMD write (R91): accepted from PF0, the service port and Ostler; BUSY changes nothing.
[DEDUCED, log entry 28] -/
def State.farCommand (s : State) (r : Requester) (refusal : State → Nat) (start : State → State) : State :=
  if !s.coreOn || (s.ownerOf r).isNone || requesterCode r == 0 || s.farRun.isSome then s
  else if refusal s != 0 then s.farEnd (refusal s)
  else (start s).fset FAR_STATUS_busy 1

/-- TEAM_TEST (R90): dispatch from the Team's work queue stops. -/
def execTeamTest (r : Requester) (t : Nat) (s : State) : Host.Outcome State Fault Refusal :=
  .next (s.farCommand r
    (fun s => if !teamPresent s.variant t then 0x23 else if !s.teamPowered t then 0x26 else 0)
    fun s => { s.stopTeam t true with farRun := some ⟨t, 0⟩ })

/-- FAR_UNDEFINED_OPCODE (R92): a FAR_CMD write whose opcode is not 1. -/
def execFarUndefinedOpcode (r : Requester) (opcode : Nat) (s : State) : Host.Outcome State Fault Refusal :=
  if opcode = 1 then .next s else .next (s.farCommand r (fun _ => 0x17) fun s => s)

/-- Team t's cache and Courser registers are zeroised (R88). [DEDUCED, log entry 106] -/
def State.teamZeroise (s : State) (t : Nat) : State :=
  let s := s.clearCache t
  { s with teams := { s.teams with gregs := s.teams.gregs.filter fun e => e.1 / 256 != t } }

/-- TEAM_DRAINED (R90): dirty lines are written back, the Team is zeroised and its BIST starts. -/
def execTeamDrained (s : State) : Host.Outcome State Fault Refusal :=
  match s.farRun with
  | some ⟨t, 0⟩ =>
    if s.teamQuiet t then .next { (s.flushTeam t).teamZeroise t with farRun := some ⟨t, 1⟩ } else .next s
  | _ => .next s

/-- DRAIN_TIMEOUT (R90): 1.0 ms after the command some Courser has reached neither a yield nor a wait, and the Team resumes
unchanged. A Team that has drained is tested (TEAM_DRAINED). -/
def execDrainTimeout (s : State) : Host.Outcome State Fault Refusal :=
  match s.farRun with
  | some ⟨t, 0⟩ => if s.teamQuiet t then .next s else .next ((s.teamGoOn t).farEnd 0x25)
  | _ => .next s

/-- TEAM_TEST_COMPLETE (R89, R90): the Team is reset, its Coursers restart and its flag is written.
[DEDUCED, log entry 28; DESIGN CHOICE, log entry 29] -/
def execTeamTestComplete (fail : Bool) (s : State) : Host.Outcome State Fault Refusal :=
  match s.farRun with
  | some ⟨t, 1⟩ =>
    let s := if s.teamPowered t then s.teamRestart t else s
    let s := s.fset ⟨FAR_RESULT, 16 + t, 16 + t⟩ (b2n fail)
    let s := if fail then s.raise 1473 else s
    .next (s.farEnd 0)
  | _ => .next s

end Sys2Proof.Machine
end

