-- ==== Sys2Proof/Machine/Owners.lean ====
section
/-!
DEFINITION. Owners at run time (R405 to R411): CREATE, DESTROY with its steps, and the end of a command.
-/

namespace Sys2Proof.Machine

/-- An owner command starts (R410): the requester's right, BUSY, then the command's own checks and effect. -/
def State.sclCommand (s : State) (r : Requester) (opcode o : Nat) (check : State → Nat) (effect : State → State) : State :=
  s.privWrite r SCL_CMD fun s =>
    if s.sclRun.isSome then (s.fset SCL_STATUS_status 0x10).countSat (SCL_CNT 3)
    else
      let e := check s
      let s := if e = 0 then effect s else s.countSat (SCL_CNT 3)
      ({ s with sclRun := some (opcode, o, e) } : State).fset SCL_STATUS_busy 1

/-- Two key ranges share a slot. -/
def rangesMeet (a n b m : Nat) : Bool := a < b + m && b < a + n && n != 0 && m != 0

/-- The checks of CREATE, in order (R410). -/
def State.createCheck (s : State) (o : Nat) : Nat :=
  let f := s.fget SCL_ARG_host_function
  let first := s.fget SCL_ARG_key_first
  let count := s.fget SCL_ARG_key_count
  if (s.owner o).state ≠ 0 then 0x38
  else if f = 0 || s.owners.any fun e => e.2.func == some f then 0x39
  else if 4096 < first + count || s.owners.any fun e => rangesMeet first count e.2.keyFirst e.2.keyCount then 0x17
  else 0

/-- QDONE of function f carries the owner bound to it (R527). -/
def State.doneOwner (s : State) (f o : Nat) : State := s.fset (EVC_SRC_owner (1488 + f)) o

/-- The effect of CREATE (R410): the owner is active with its function, range, next epoch, and a fresh key unless the Tack
Room is closed. -/
def State.createOwner (s : State) (o : Nat) : State :=
  let w := s.owner o
  let f := s.fget SCL_ARG_host_function
  let s := s.setOwner o {
    state := 1, persistent := false, func := some f, keyFirst := s.fget SCL_ARG_key_first,
    keyCount := s.fget SCL_ARG_key_count, epoch := (w.epoch + 1) % 256, keyValid := !s.roomClosed,
    keyDraw := s.freeNext + 1 }
  (s.doneOwner f o).drew 1

/-- OWNER_CREATE (R410). -/
def execOwnerCreate (r : Requester) (o : Nat) (s : State) : Host.Outcome State Fault Refusal :=
  if 256 ≤ o then .next s else .next (s.sclCommand r 1 o (fun s => s.createCheck o) fun s => s.createOwner o)

/-- Step 3 of R411: the slots of the owner's range are zeroised and their records erased. -/
def State.dropRangeKeys (s : State) (o : Nat) : State :=
  let w := s.owner o
  let mine := fun (k : Nat) => decide (w.keyFirst ≤ k) && decide (k < w.keyFirst + w.keyCount)
  let s := { s with keySlots := s.keySlots.filter fun e => !mine e.1 }
  (s.records.filter fun i => mine (s.recordSlot i)).foldl (fun (t : State) i => t.eraseRecord i) s

/-- Step 5 of R411: the owner's dynamic FDB entries leave both pipelines. -/
def State.fdbLose (s : State) (o : Nat) : State :=
  let pick := fun (t : Tab) => ((s.usedEntries t).map t.at).filter fun a =>
    s.eIs a FDB_valid && !s.eIs a FDB_static && s.eget a FDB_owner == o
  (pick (.fdb 0) ++ pick (.spill 0) ++ pick (.fdb 1) ++ pick (.spill 1)).foldl
    (fun (u : State) a => (u.fdbRemove a).setBad a false) s

/-- Steps 1 to 5 of R411. [DEDUCED, log entry 107] -/
def State.teardown (s : State) (o : Nat) : State :=
  let s := s.setOwner o { s.owner o with state := 2 }
  let s := ((s.teamsLose o).jobsLose o).dropRangeKeys o
  let s := s.setOwner o { s.owner o with keyValid := false }
  s.fdbLose o

/-- OWNER_DESTROY (R410, R411): the owner is draining from now on, and the device takes steps 1 to 5.
[DEDUCED, log entry 107] -/
def execOwnerDestroy (r : Requester) (o : Nat) (s : State) : Host.Outcome State Fault Refusal :=
  if 256 ≤ o then .next s
  else
    let check := fun (s : State) =>
      if o = 0 ∨ o = 1 ∨ (s.owner o).persistent then 0x3A else if (s.owner o).state ≠ 1 then 0x3B else 0
    .next (s.sclCommand r 2 o check fun s => s.teardown o)

/-- Step 6 of R411: the function is unbound with a function-level reset, and the owner is absent; its epoch is kept. -/
def State.ownerGone (s : State) (o : Nat) : State :=
  let w := s.owner o
  let s := match w.func with
    | some f => (s.funcReset f).doneOwner f 0
    | none => s
  (s.setOwner o { epoch := w.epoch }).raise 1448

/-- SCL_CMD_COMPLETE (R411). -/
def execSclCmdComplete (s : State) : Host.Outcome State Fault Refusal :=
  match s.sclRun with
  | none => .next s
  | some (opcode, o, e) =>
    let s := { s with sclRun := none }
    let s := if opcode = 2 ∧ e = 0 then s.ownerGone o else s
    .next ((s.fsets [(SCL_STATUS_status, e), (SCL_STATUS_done, 1), (SCL_STATUS_busy, 0)]).raise 1451)

end Sys2Proof.Machine
end

