-- ==== Sys2Proof/Machine/Startup.lean ====
section
/-!
DEFINITION. From supply to routing (R23 to R27, R69 to R87): resets, rails, boot BIST, the image load and the cinch, the
digest verdict and the fallback. Beside them the die links (R19 to R21), the calibration of ACLK (R24) and the two copies
of the Hobble block (R486).
-/

namespace Sys2Proof.Machine

/-! ### Resets (R26) -/

/-- AON_POWER_ON_RESET (R26): MRAM alone is kept; the levels of PERST_N and VIO come from outside. The debug challenge takes a
new random value (R397). [DEDUCED, log entry 13] -/
def execAonPowerOnReset (s : State) : Host.Outcome State Fault Refusal :=
  let s := s.nvmCut
  let t : State := { State.reset with
    pending := s.pending, out := s.out, freeNext := s.freeNext, variant := s.variant, mram := s.mram
    rowProgrammed := s.rowProgrammed, slotA := s.slotA, slotB := s.slotB, genLast := s.genLast, blackBox := s.blackBox
    perstLow := s.perstLow, host := { vioLow := s.host.vioLow } }
  .next ((List.range 8).foldl (fun (u : State) i => (u.setReg (KEY_DBG_CHALLENGE i) (word u.free)).drew 1) t)

/-- TEST_RESET (R26): the TAP controller alone, which enables no scan from then on. -/
def execTestReset (s : State) : Host.Outcome State Fault Refusal := .next { s with host := { s.host with scan := false } }

/-! ### Rails, PLLs and boot BIST (R69, R73, R78, R87) -/

/-- VBAT_VALID (R73, R421, R424): a cold start begins; after an undervoltage it is the wake source of code 8. -/
def execVbatValid (s : State) : Host.Outcome State Fault Refusal :=
  if s.boot == .down && s.coldStart && s.pwk.downStep == 0 then .next { s with boot := .aonUp }
  else if s.pwk.undervolt && !(s.pwk.wakeReqs.any fun e => e.1.code == 8) then
    .next { s with pwk := { s.pwk with wakeReqs := s.pwk.wakeReqs ++ [({ code := 8 }, s.aclk)] } }
  else .next s

/-- Lanes, ports and Teams that a device in Paddock leaves unpowered (R420). [DEDUCED, log entry 23] -/
def State.paddockMasks (s : State) : State :=
  if s.fget PWK_STATE_state = 1 then
    { s with lanesOff := maskOf s.paddockLanes, portsOff := maskOf s.paddockPorts, teamsOff := maskOf s.paddockTeams }
  else s

/-- The boot field in MRAM row 40,000 gains 1 at each CORE power-up, up to its limit (R372).
[DESIGN CHOICE, log entry 15] -/
def State.bootField (s : State) : State :=
  let n := min (leNat (memRead s.mram (rowBytes 40000) 4) + 1) 0xFFFFFFFF
  { s with mram := memWrite s.mram (rowBytes 40000) (leBytes 4 n) }.setReg CIP_BOOT_FIELD (word n)

/-- CORE, LINE and PDIE are powered, in the state that the wake or the cold start targets (R422).
[DESIGN CHOICE, log entry 15; DEDUCED, log entry 103] -/
def State.railsUp (s : State) : State :=
  let p := s.pwk
  let s := { s with
    boot := .railsUp, coreOn := true, lineOn := true, pdieOn := true
    pwk := { p with wakeOpen := false, held := p.propagate, wakeLanes := [], pnLanes := [] } }
  let s := s.fsets [(PWK_STATE_state, p.wakeTarget), (PWK_STATE_target, p.wakeTarget), (PWK_STATE_phase, 1),
    (PWK_CTRL_target, p.wakeTarget)]
  let s := s.bootField.paddockMasks.tackPowerUp
  let s := p.wakeLanes.foldl (fun (u : State) n => u.raise (12 * n + 4)) s
  p.pnLanes.foldl (fun (u : State) n => u.raise (12 * n + 5)) s

/-- RAILS_IN_REGULATION (R73, R422). [DEDUCED, log entry 32] -/
def execRailsInRegulation (s : State) : Host.Outcome State Fault Refusal :=
  if s.boot == .aonUp && s.pwk.downStep == 0 then .next s.railsUp else .next s

/-- The wake or the cold start has ended (R422, R426, R427, R442): WAKE after a wake, PENDING_ON, counted, after a latched on
request, then a latched off request or a target written meanwhile. -/
def State.wakeEnd (s : State) : State :=
  let s := s.fset PWK_STATE_phase s.basePhase
  let s := if s.coldStart then s else s.raise 1152
  let s := if s.pwk.pendingRaise then
      (({ s with pwk := { s.pwk with pendingRaise := false } } : State).countSat (PWK_CNT 2)).raise 1156
    else s
  let later := s.pwk.laterTarget
  let s := { s with pwk := { s.pwk with laterTarget := none } }
  if s.isSet PWK_STATE_off_latched then s.powerDown false
  else
    match later with
    | some t => if t = s.fget PWK_STATE_state then s else s.moveStart t
    | none => s

/-- The Ethernet PHYs are silent (R27, R82): a link that outlasted a failed verdict goes down. -/
def State.portsSilent (s : State) : State :=
  (List.range 16).foldl (fun (u : State) n =>
    if portPresent u.variant n then u.linkDrop n else u) s

/-- The device settles in state 0 or 3 (R69, R82): the safe state of R27, NVM commands accepted, Ostler firmware read.
[DEDUCED, log entry 17] -/
def State.settle (s : State) (st : Nat) : State :=
  let s := { s with boot := .settled, wakePlan := [], host := { s.host with configOpen := true } }
  let s := s.portsSilent.fsets [(GLB_IMAGE_STATUS_state, st), (NVM_STATUS_boot_done, 1)]
  s.ostlerLoad.wakeEnd

/-- A slot is due to be loaded. -/
def State.loadSlot (s : State) (b fallback : Bool) : State :=
  ({ s with boot := .load } : State).fsets [(GLB_IMAGE_STATUS_state, 1), (GLB_IMAGE_STATUS_slot, b2n b),
    (GLB_IMAGE_STATUS_fallback, b2n fallback)]

/-- The first choice of R69: the valid slot of the higher generation, slot A between equals. -/
def State.firstChoice (s : State) : Option Bool :=
  if s.slotA.valid && s.slotB.valid then some (decide (s.slotA.gen < s.slotB.gen))
  else if s.slotA.valid then some false
  else if s.slotB.valid then some true
  else none

/-- PLL_LOCK (R23, R69, R73, R78): boot BIST starts, or the load; with no valid slot the device settles.
[DEDUCED, log entry 32] -/
def execPllLock (s : State) : Host.Outcome State Fault Refusal :=
  if s.boot != .railsUp || s.pwk.downStep != 0 then .next s
  else
    match s.firstChoice with
    | none => .next (s.settle 0)
    | some b =>
      let s := s.loadSlot b false
      if s.coldStart && (s.slotImg b).bootLbist then
        .next ({ s with boot := .bist 0 }.scanZeroise.fset SWC_SCHED_STATUS_cause_test 1)
      else .next s

/-- The flags of partition p (R87, R89): of P5, one for each Team present. -/
def State.bistFlags (s : State) (p fails : Nat) : State :=
  let teams := if p = 5 then (List.range 16).filter fun t => teamPresent s.variant t && bitOf fails t else []
  let bad := if p = 5 then !teams.isEmpty else fails != 0
  let s := s.fset ⟨FAR_RESULT, p, p⟩ (b2n bad)
  let s := if p = 5 then s.fset FAR_RESULT_team_fail (maskOf teams) else s
  if bad then s.raise 1472 else s

/-- BOOT_BIST_PARTITION_DONE (R87 to R89): the running partition ends with its failures, of P5 as a mask of Teams.
[DESIGN CHOICE, log entry 29] -/
def execBootBistPartitionDone (fails : Nat) (s : State) : Host.Outcome State Fault Refusal :=
  match s.boot with
  | .bist p =>
    if s.pwk.downStep != 0 then .next s
    else
      let s := s.bistFlags p fails
      let s := if p = 0 then s.fset SWC_SCHED_STATUS_cause_test (s.fget SWC_SCHED_CTRL_force_iter) else s
      if p < 5 then .next { s with boot := .bist (p + 1) }
      else .next (({ s with boot := .load } : State).fset FAR_STATUS_boot_ran 1)
  | _ => .next s

/-- SERVICE_PORT_READY (R73, R85): the service port runs, HRB follows its rule and PCIe link training may start. -/
def execServicePortReady (s : State) : Host.Outcome State Fault Refusal :=
  if !s.coreOn || !s.bistEnded then .next s
  else .next ({ s with host := { s.host with ready := true } } : State).linkTrain

/-! ### A failed load or verdict (R81, R82) -/

/-- Cells held in the packet buffer and the egress stores. -/
def State.cellsHeld (s : State) : Nat :=
  s.stored.foldl (fun v e => v + (match e.2 with | some x => x.cells | none => 0)) 0 +
    s.egress.foldl (fun v e => v + s.queueCells e.2) 0

/-- Step 2 of R81: routing stops, transmitters and outputs return to R27, Coursers halt, every frame is discarded. -/
def State.stopRouting (s : State) : State :=
  let s := { s with
    boot := .clearing, egress := [], offered := [], txBufs := [], stored := [], voqs := [], voqShared := [], pairs := []
    poolUsed := 0, rxQueues := [], mirrorSink := []
    lanes := mapVals noLane (fun _ (l : Lane) => { l with
      onBus := none, budgetHold := none, fastNow := false, linId := none, linDir := 0, staging := [], stagedAt := [], owned0 := [], owned1 := []
      disarmed0 := false, disarmed1 := false }) s.lanes
    eths := mapVals noEth (fun _ (e : Eth) => { linked := e.linked, hot := e.hot }) s.eths
    teams := { s.teams with
      fqTx := []
      coursers := mapVals (fun _ => ({} : Courser)) (fun _ (c : Courser) =>
        if c.run == .running || c.run == .waiting then { c with run := .halted } else c) s.teams.coursers } }
  let s := (List.range 48).foldl (fun (u : State) n =>
    let u := u.fsets [(LANE_PHY_CTRL_enable n, 0), (LANE_PHY_STATUS_integrated n, 0)]
    let u := u.laneRefresh n
    let u := (u.resetRegs (LANE_RXQ0_IDX n) (LANE_RXQ0_IDX n)).resetRegs (LANE_RXQ1_IDX n) (LANE_RXQ1_IDX n)
    (List.range 8).foldl (fun (v : State) k => v.fset (LANE_TB_CTRL_pending n k) 0) u) s
  ((s.resetRegs SWC_LANE_FREE SWC_LANE_FREE).resetRegs (SWC_GUAR_USED 0) (SWC_GUAR_USED 31)).outsRefresh

/-- The payload of LOAD_FAIL and HASH_FAIL (R497). -/
def State.failPayload (s : State) (b : Bool) (status sect : Nat) : List Byte :=
  leBytes 4 (b2n b) ++ leBytes 4 (s.slotRec b).gen ++ leBytes 4 (min s.cellsHeld 0xFFFFFFFF) ++ leBytes 2 status ++ leBytes 2 sect

/-- Steps 1 to 3 of R81: what is reported, the event, the stop, and the slot's record. [DEDUCED, log entry 17] -/
def State.bootFail (s : State) (f : Fld) (v st event status sect : Nat) : State :=
  let b := s.isSet GLB_IMAGE_STATUS_slot
  let payload := s.failPayload b status sect
  let s := (s.fsets [(f, v), (GLB_IMAGE_STATUS_state, st)]).stopRouting.raiseWith event payload
  s.setSlotRec b { s.slotRec b with valid := false }

/-- The registers that the plans set in every image, be it to their reset values (R43, R45, R335, R467). -/
def planRegs : List Nat :=
  (List.range 16).flatMap (fun n => [EMAC_CFG n, STM_GCL_CTRL n]) ++
  (List.range 48).flatMap (fun n => [LANE_PHY_CFG n, LANE_BTR_NOM n, LANE_BTR_DATA n, LANE_TDC n, LANE_T1S_PLCA n,
    LANE_PN_CTRL n, LANE_PN_ID n, LANE_PN_ID_MASK n, LANE_PN_DMASK_LO n, LANE_PN_DMASK_HI n]) ++
  [SWC_SCHED_CTRL, SWC_ALPHA, SWC_PORT_STATE, TMB_MODE, TMB_PTP_MAP, BAT_CFG, BAT_LIMITS, BAT_BAL_CFG, BAT_THRESH, BAT_CTRL] ++
  (List.range 4).flatMap (fun d => [TMB_THRESH d, TMB_GUARD d, TMB_DOM_FB d, TMB_DOM_CFG d, TMB_INC_FRAC d, TMB_INC_INT d]) ++
  (List.range 20).flatMap (fun j => [PWR_OUT_CFG j, PWR_OUT_PWM j, PWR_OUT_SLOT j, PWR_OUT_DIAG j]) ++
  (List.range 8).flatMap (fun q => [BAT_SEQ_CTRL q, BAT_SEQ_PERIOD q, BAT_SEQ_SLOT q, BAT_SEQ_CH q 0, BAT_SEQ_CH q 1, BAT_SEQ_CH q 2,
    BAT_SEQ_CH q 3])

/-- Register addresses that an image or its presets set: those of the plans, those that its entries and segments name, and those of
its presets that have a field which a preset writes. -/
def State.imageRegs (s : State) (m : Img) : List Nat :=
  let p := m.body 15
  let sets := fun a => presetBlock a && (match s.rowAt a with | some row => row.rw != 0 || row.rwc != 0 | none => false)
  let named := (m.entries 7).filterMap fun e =>
    if e.code = 0x0701 then some (STM_CBS_SLOPE (e.idx / 8) (e.idx % 8)) else none
  let segs := (segRecs (m.body 14)).flatMap fun r => [PWR_PROF_SEG (leAt r 0 1) (leAt r 1 1), PWR_PROF_SEG (leAt r 0 1) (leAt r 1 1) + 4]
  if m.frontFail.isSome then []
  else
    planRegs ++ named ++ segs ++ (((List.range (p.length / 12)).map fun i => leAt p (12 * i) 4).filter sets) ++
      [GLB_IMAGE_GEN, GLB_IMAGE_VERSION, GLB_IMAGE_TARGET]

/-- Step 4 of R81: every SRAM but Ostler's and the journal ring is cleared, the registers that the image set return to their
reset values, the queue pairs with them, and the cinch is released. [DEDUCED, log entry 18] -/
def State.release (s : State) (m : Img) : State :=
  let set := s.imageRegs m
  let t : State := {
    pending := s.pending, out := s.out, freeNext := s.freeNext, variant := s.variant
    regs := s.regs.filter fun e => !set.contains e.1 && !(decide (HST_QP_CFG 0 ≤ e.1) && decide (e.1 < HST_QP_CFG 64))
    mram := s.mram, rowProgrammed := s.rowProgrammed, slotA := s.slotA, slotB := s.slotB, genLast := s.genLast
    nvmRun := s.nvmRun, nvmBuf := s.nvmBuf, farRun := s.farRun, boot := s.boot, coldStart := s.coldStart, coreOn := s.coreOn
    lineOn := s.lineOn, pdieOn := s.pdieOn, lanesOff := s.lanesOff, portsOff := s.portsOff, teamsOff := s.teamsOff
    links := s.links, aclkCalibrated := s.aclkCalibrated, uptime := s.uptime, perstLow := s.perstLow, msix := s.msix
    msixPending := s.msixPending, windows := s.windows, journal := s.journal, journalHeld := s.journalHeld
    journalSeq := s.journalSeq, class0Coalescing := s.class0Coalescing, bbStaged := s.bbStaged, bbSeq := s.bbSeq
    blackBox := s.blackBox, lanes := s.lanes, ticks := s.ticks, pwk := s.pwk, aonWakeLimit := s.aonWakeLimit
    aonTamper := s.aonTamper
    steerHeld := s.steerHeld.filter fun e => !set.contains e.1, outs := s.outs, conv := s.conv, groupEnergy := s.groupEnergy, eths := s.eths
    teams := { stopped := s.teams.stopped }, cip := { jobCounter := s.cip.jobCounter }
    tack := { stable := s.tack.stable, erasing := s.tack.erasing }, host := s.host, super := s.super }
  let t := (List.range 1536).foldl (fun (u : State) n => u.fset (EVC_SRC_owner n) 0) t
  let t := (List.range 16).foldl (fun (u : State) n => ((u.setCapture n []).setPtp n false []).setPtp n true []) t
  let t := t.fsets [(SWC_SCHED_STATUS_cause_init, 1), (SWC_SCHED_STATUS_cause_test, t.fget SWC_SCHED_CTRL_force_iter),
    (KEY_STATUS_busy, 0), (KEY_STATUS_loaded, 0), (SCL_STATUS_busy, 0), (FWD_TBL_STATUS_busy 0, 0),
    (FWD_TBL_STATUS_busy 1, 0), (CIP_STATUS_engine_busy, 0), (CIP_STATUS_ecdsa_busy, 0)]
  t.outsRefresh

/-- Step 5 of R81 (R82, R69): the other slot is loaded if it is valid and not yet tried, or the device settles: in state 3,
or in state 0 after a first choice that failed its load with no valid fallback. [DEDUCED, log entry 18] -/
def State.afterClear (s : State) : State :=
  let b := s.isSet GLB_IMAGE_STATUS_slot
  let tried := s.isSet GLB_IMAGE_STATUS_fallback
  if !tried && (s.slotRec (!b)).valid then s.loadSlot (!b) true
  else s.settle (if tried || s.fget GLB_IMAGE_STATUS_hash == 2 then 3 else 0)

/-- SRAM_CLEAR_DONE (R81). -/
def execSramClearDone (s : State) : Host.Outcome State Fault Refusal :=
  if s.boot != .clearing || s.pwk.downStep != 0 then .next s
  else .next (s.release (s.slotImg (s.isSet GLB_IMAGE_STATUS_slot))).afterClear

/-! ### The load, the lanes, routing and the verdict (R57, R74 to R80) -/

/-- IMAGE_LOAD (R57, R60, R82). -/
def execImageLoad (s : State) : Host.Outcome State Fault Refusal :=
  if s.boot != .load || s.pwk.downStep != 0 then .next s
  else
    let m := s.slotImg (s.isSet GLB_IMAGE_STATUS_slot)
    let r := ({ s with wakePlan := [] } : State).loadImage m
    if r.2.1 = 0 then .next (r.1.cinch m).paddockMasks
    else .next (r.1.bootFail GLB_IMAGE_STATUS_load_status r.2.1 1 1454 r.2.1 r.2.2)

/-- A port keeps its link through a fallback whose Port Plan record is the same (step 5 of R81). -/
def State.keepsLink (s : State) (n : Nat) : Bool :=
  s.isSet GLB_IMAGE_STATUS_fallback && s.portUp n &&
    portRec ((s.slotImg false).body 1) n == portRec ((s.slotImg true).body 1) n

/-- The lanes and ports that the plan names are enabled; those that Paddock leaves unpowered follow when they are powered.
[DEDUCED, log entry 23] -/
def State.lanesUp (s : State) : State :=
  let s := (List.range 48).foldl (fun (u : State) n =>
    if !lanePresent u.variant n || u.laneKind n == 0 then u
    else if u.lanePowered n then u.laneEnable n
    else u.fset (LANE_PHY_CTRL_enable n) 1) s
  (List.range 16).foldl (fun (u : State) n =>
    if !portPresent u.variant n then u
    else if u.keepsLink n then u.fset (EMAC_CTRL_enable n) 1
    else
      let u := (u.linkDrop n).fset (EMAC_CTRL_enable n) 0
      if u.fget (EMAC_CFG_speed n) = 0 then u else u.portEnable n true) s

/-- LANE_ENABLE (R74). -/
def execLaneEnable (s : State) : Host.Outcome State Fault Refusal :=
  if s.boot != .cinched || s.pwk.downStep != 0 then .next s else .next (State.lanesUp { s with boot := .lanesOn })

/-- ROUTING_READY (R74, R272, R315, R422). Frames held in staging are the aggregators' from now on (R75). -/
def execRoutingReady (s : State) : Host.Outcome State Fault Refusal :=
  if s.boot != .lanesOn || s.pwk.downStep != 0 then .next s
  else
    let s := { s with boot := .routing, gw := { s.gw with routingTick := s.uptime } }
    let s := (List.range 128).foldl (fun (u : State) k =>
      if (u.crs k).named && (u.crs k).run == .idle && u.teamPowered (k / 8) && teamPresent u.variant (k / 8) then u.crsStart k else u) s
    .next s.wakeEnd

/-- DIGEST_VERDICT (R76, R80, R81): the digest of the image as MRAM holds it against the header's and the record's.
[DEDUCED, log entry 24] -/
def execDigestVerdict (s : State) : Host.Outcome State Fault Refusal :=
  if !s.cinched || s.fget GLB_IMAGE_STATUS_hash != 0 || s.boot == .clearing then .next s
  else
    let b := s.isSet GLB_IMAGE_STATUS_slot
    let m := s.slotImg b
    let d := Config.sha256 m.digested
    if d == m.headerDigest && d == (s.slotRec b).digest then
      let s := (s.fsets [(GLB_IMAGE_STATUS_hash, 1), (NVM_STATUS_boot_done, 1)]).outsRefresh
      let s := if s.pwk.held then s.wakeRequest else s
      .next s.evalReady
    else .next (s.bootFail GLB_IMAGE_STATUS_hash 2 3 1455 0 0)

/-! ### Die links (R19 to R21) -/

/-- Die link k carries transfers: both its dies are powered. -/
def State.linkPowered (s : State) (k : Nat) : Bool :=
  if k < 16 then portPresent s.variant k && s.coreOn && s.portPowered k
  else if k = 16 then s.coreOn && s.lineOn
  else k == 17 && s.coreOn && s.pdieOn

/-- A link is declared down (R20): its port reports link down, the lanes are cut as if disabled, or the power die takes no more
commands. -/
def State.dieLinkDown (s : State) (k : Nat) (arriving : Bool) : State :=
  let s := s.setLink k { s.link k with down := true, failsOut := 0, failsIn := 0 }
  if k < 16 then
    ((s.linkDown k arriving).fset (EMAC_PHY_STATUS_training k) 0).emacRaise k 13
  else if k = 16 then
    let cut := (List.range 48).foldl (fun (u : State) n =>
      if lanePresent u.variant n && u.laneEnabled n then (u.laneDark n).fset (LANE_PHY_STATUS_integrated n) 0 else u) s
    cut.raise 1456
  else s.raise 1457

/-- A failed transfer is sent again and counted (R19). [DEDUCED, log entry 31] -/
def State.retransmit (s : State) (k : Nat) (inward : Bool) (fails : Nat) : State :=
  let l := s.link k
  let l := if inward then { l with failsIn := fails } else { l with failsOut := fails }
  if k < 16 then (s.setLink k l).emacCnt k 61 else s.setLink k { l with count := l.count + 1 }

/-- DIE_LINK_TRANSFER (R19, R20): a transfer on link k, towards the logic die or away from it, passes its CRC or fails.
`arriving` says that port k is receiving a frame. [DEDUCED, log entry 31] -/
def execDieLinkTransfer (k : Nat) (inward ok arriving : Bool) (s : State) : Host.Outcome State Fault Refusal :=
  let l := s.link k
  if 18 ≤ k || !s.linkPowered k || l.down then .next s
  else
    let fails := (if inward then l.failsIn else l.failsOut) + 1
    if ok then .next (s.setLink k (if inward then { l with failsIn := 0 } else { l with failsOut := 0 }))
    else if 16 < fails then .next (s.dieLinkDown k arriving)
    else .next (s.retransmit k inward fails)

/-- PLK_SILENCE (R20): the power die turns its outputs off; a link silent for so long is down. -/
def execPlkSilence (s : State) : Host.Outcome State Fault Refusal :=
  if !s.linkPowered 17 then .next s
  else
    let s := if (s.link 17).down then s else s.dieLinkDown 17 false
    .next (s.fset PWR_STATUS_plk_lost 1).outsRefresh

/-- A link is up again (R21). -/
def State.dieLinkUp (s : State) (k : Nat) : State :=
  let s := s.setLink k { s.link k with down := false }
  if k < 16 then
    if s.isSet (EMAC_CTRL_enable k) && !(s.eth k).hot then s.trainStart k else s
  else if k = 16 then
    let on := (List.range 48).foldl (fun (u : State) n =>
      if lanePresent u.variant n && u.laneKind n != 0 && u.laneEnabled n && u.lanePowered n then u.laneEnable n else u) s
    on.raise 1458
  else (s.raise 1459).outsRefresh

/-- DIE_LINK_RETRAIN (R21): a down link restarts its training; it is up once a transfer has passed in each direction. -/
def execDieLinkRetrain (k : Nat) (outOk inOk : Bool) (s : State) : Host.Outcome State Fault Refusal :=
  if 18 ≤ k || !s.linkPowered k || !(s.link k).down || !(outOk && inOk) then .next s else .next (s.dieLinkUp k)

/-- ACLK_CALIBRATION (R24). -/
def execAclkCalibration (s : State) : Host.Outcome State Fault Refusal :=
  if s.coreOn then .next { s with aclkCalibrated := true } else .next s

/-! ### The two copies of the Hobble block (R486) -/

/-- HOBBLE_COPY_MISMATCH (R486): a byte of one copy has changed and the comparison finds it. The stricter copy applies
wherever a limit is read. [DESIGN CHOICE, log entry 126] -/
def execHobbleCopyMismatch (off : Nat) (copyB : Bool) (byte : Byte) (s : State) : Host.Outcome State Fault Refusal :=
  if !s.cinched || 0x6D0 ≤ off then .next s
  else
    let s := if copyB then { s with hobB := memSet s.hobB off byte } else { s with hobA := memSet s.hobA off byte }
    if memGet s.hobA off == memGet s.hobB off then .next s
    else
      let s := if s.isSet HOB_MISMATCH_LOG_valid then s
        else s.fsets [(HOB_MISMATCH_LOG_valid, 1), (HOB_MISMATCH_LOG_offset, off)]
      .next ((s.fset HOB_STATUS_restoring 1).raise 1452)

/-- HOBBLE_RESTORE_DONE (R486): both copies as the running image in MRAM has them. [DESIGN CHOICE, log entry 126] -/
def execHobbleRestoreDone (s : State) : Host.Outcome State Fault Refusal :=
  if !s.isSet HOB_STATUS_restoring then .next s
  else
    .next ((s.loadHobble ((s.slotImg (s.isSet GLB_IMAGE_STATUS_slot)).body 4)).fset HOB_STATUS_restoring 0)

end Sys2Proof.Machine
end

