-- ==== Sys2Proof/Machine/Access.lean ====
section
/-!
DEFINITION. The address spaces as requesters reach them (R9, R15, R178, R406 to R409, R529 to R541): writes of the register
map and of the table aperture, reads with what they compute and clear, and the rows that are plain accesses.
-/

namespace Sys2Proof.Machine

/-! ### Writes of the blocks that presets may not address -/

/-- GLB: the kick of Ostler firmware and the restart of the service port or PF0 (R481). -/
def State.glbWrite (s : State) (r : Requester) (a : Nat) (v : Word) : State :=
  if a ≠ GLB_OSTLER_CTRL then s
  else
    let kick := getField v 0 0 == 1
    let again := getField v 1 1 == 1
    let mayRestart := r == .svc || r == .func 0
    let s := if again && mayRestart then s.restartWrite r else s
    if (kick && r != .ostler) || (again && !mayRestart) then s.rejectWrite r 0 (a / 4) else s

/-- PWK (R419, R424, R430, R431): a target, then a sleep request. -/
def State.pwkWrite (s : State) (r : Requester) (a : Nat) (v : Word) : State :=
  if a = PWK_CTRL then
    s.privWrite r a fun s =>
      let s := s.targetWrite r (getField v 1 0)
      if getField v 8 8 = 1 then
        ({ s with pwk := { s.pwk with consented := false, confirmed := false, dismount := none } } : State).offRequest
      else s
  else if a = PWK_CONSENT then s.consentWrite r v.toNat
  else if a = PWK_WAKE_CTRL then s.privWrite r a fun s => if getField v 0 0 = 1 then s.wakeRequest else s
  else s

/-- A write of KEY_CMD (R388). -/
def State.keyCmdWrite (s : State) (r : Requester) (v : Word) : State :=
  let slot := getField v 27 16
  let run := match getField v 3 0 with
    | 1 => execKeyWrite r slot
    | 2 => execKeyClear r slot
    | 3 => execKeyDerive r slot
    | 4 => execKeyWrap r slot
    | 5 => execKeyUnwrap r slot
    | 6 => execKeyAttest r slot
    | 7 => execKeyInfo r slot
    | op => execKeyUndefinedOpcode r op
  stateOr (run s) s

/-- KEY: each requester has its own KEY_ARG and KEY_DATA (R387). -/
def State.keyBlock (s : State) (r : Requester) (a : Nat) (v : Word) : State :=
  if a = KEY_CMD then s.keyCmdWrite r v
  else if a = KEY_ARG then s.setTackReg r 0 (v &&& 0xEC001FFF)
  else if KEY_DATA 0 ≤ a ∧ a ≤ KEY_DATA 15 then s.setTackReg r (1 + (a - KEY_DATA 0) / 4) v
  else if a = KEY_TAMPER then stateOr (execTamperLatchClear r (getField v 3 0) s) s
  else s.plainWrite false a v

/-- CIP (R368, R382, R383). What the descriptor fetch of a job submitted by a plain register write returns is free. -/
def State.cipWrite (s : State) (r : Requester) (a : Nat) (v : Word) : State :=
  if CIP_SUBMIT_LO 0 ≤ a ∧ a ≤ CIP_SUBMIT_OST_HI then
    let f := (a - CIP_SUBMIT_LO 0) / 8
    if submitPair r ≠ some f then s
    else if (a - CIP_SUBMIT_LO 0) % 8 = 0 then { s with cip := { s.cip with submitLo := put (fun _ => 0) s.cip.submitLo f v } }
    else stateOr (execJobSubmit r f (s.freeBytes 64) (s.drew 64)) s
  else if a = CIP_CFG ∨ CIP_PORT_CFG 0 ≤ a then s.privWrite r a fun s => s.plainWrite false a v
  else s.plainWrite false a v

/-- SCL (R410, R416). [DEDUCED, log entry 109] -/
def State.sclWrite (s : State) (r : Requester) (a : Nat) (v : Word) : State :=
  let o := getField v 11 4
  if a = SCL_CMD then
    match getField v 3 0 with
    | 1 => stateOr (execOwnerCreate r o s) s
    | 2 => stateOr (execOwnerDestroy r o s) s
    | op => s.sclCommand r op o (fun _ => 0x17) fun s => s
  else s.privWrite r a fun s => s.plainWrite false a v

/-- FAR (R91, R92). -/
def State.farWrite (s : State) (r : Requester) (a : Nat) (v : Word) : State :=
  if a = FAR_CMD then
    stateOr (if getField v 3 0 = 1 then execTeamTest r (getField v 7 4) s else execFarUndefinedOpcode r (getField v 3 0) s) s
  else s.plainWrite false a v

/-- NVM: writes of PF0, the service port and Ostler firmware, each with its own buffer (R66, R70).
[DEDUCED, log entry 26] -/
def State.nvmWrite (s : State) (r : Requester) (a : Nat) (v : Word) : State :=
  let slot := getField v 8 8 == 1
  if a = NVM_CMD then
    let run := match getField v 3 0 with
      | 1 => execRetire r slot
      | 2 => execProgram r (getField v 28 12)
      | 3 => execCommit r slot
      | op => execNvmUndefinedOpcode r op
    stateOr (run s) s
  else if requesterCode r = 0 then (s.fcount ⟨NVM_REJECTS, 15, 0⟩).raise 1467
  else if NVM_WBUF 0 ≤ a then { s with nvmBuf := put (fun _ => 0) s.nvmBuf (64 * requesterCode r + (a - NVM_WBUF 0) / 4) v }
  else s.plainWrite false a v

/-- A write of one word of the register map by an exposed requester (R406, R529, R530). -/
def State.busWrite (s : State) (r : Requester) (a : Nat) (v : Word) : State :=
  if !s.coreOn || (s.ownerOf r).isNone || a % 4 != 0 then s
  else if unitAbsent s.variant a then s.absentWrite
  else
    match a / 0x10000 with
    | 0x00 => s.glbWrite r a v
    | 0x01 => s.pwkWrite r a v
    | 0x06 => if (s.rowAt a).isSome then s.keyBlock r a v else s
    | 0x07 => if (s.rowAt a).isSome then s.cipWrite r a v else s
    | 0x08 => if (s.rowAt a).isSome then s.sclWrite r a v else s
    | 0x09 => if (s.rowAt a).isSome then s.farWrite r a v else s
    | 0x0A => if (s.rowAt a).isSome then s.nvmWrite r a v else s
    | 0x0B => s.plainWrite false a v
    | _ => s.blockWrite false r a v

/-! ### Writes of the table aperture (R215, R216, R316, R539 to R541) -/

/-- A write in the window of lane n's buffers (R540). -/
def State.laneBufWrite (s : State) (r : Requester) (a : Nat) (bs : List Byte) : State :=
  let n := (a - laneBuf 0) / 0x4000
  let off := (a - laneBuf 0) % 0x4000
  if !lanePresent s.variant n then s.absentWrite
  else if !s.mayUse r (s.portOwnerOf (16 + n)) then s.rejectWrite r 1 ((a - 0x10000000) / 16)
  else if off < 0x3000 ∨ 0x3800 ≤ off ∨ s.isSet (LANE_TB_CTRL_pending n ((off - 0x2800) / 0x200)) then s
  else if (bs.length = 4 ∧ a % 4 = 0) ∨ (bs.length = 16 ∧ a % 16 = 0) then s.setAper a bs
  else s

/-- A write of a whole signal slot (R316, R328): it goes to the slot's home bank in a batch of its own. -/
def State.slotWindowWrite (s : State) (r : Requester) (a : Nat) (bs : List Byte) : State :=
  let i := (a - slotAt 0) / 16
  if a % 16 ≠ 0 ∨ bs.length ≠ 16 ∨ s.isSealed (slotAt i) = true ∨ s.mayUse r (s.slotOwner i) = false then
    s.tabBreach r .signalRoute a
  else
    let b := s.newBatch
    b.1.sendSig { kind := .hWr, slot := i, owner := (s.ownerOf r).getD 0, value := leAt bs 0 8, batch := b.2,
                  meta_ := some (leAt bs 8 6) }

/-- A write in the aperture: to a table, a lane's buffers, the slots, or the journal and black-box windows, which take none. -/
def State.aperWrite (s : State) (r : Requester) (addr : Nat) (bs : List Byte) : State :=
  if !s.coreOn || (s.ownerOf r).isNone then s
  else
    match aperAddr r addr with
    | none => s
    | some a =>
      if (tabAt a).isSome then s.tabWrite r a bs
      else if laneBuf 0 ≤ a ∧ a < laneBuf 48 then s.laneBufWrite r a bs
      else if slotAt 0 ≤ a ∧ a < slotAt 262144 then s.slotWindowWrite r a bs
      else if (0x10700000 ≤ a ∧ a < 0x10740000) ∨ (0x10800000 ≤ a ∧ a < 0x10A00000) then
        s.rejectWrite r 1 ((a - 0x10000000) / 16)
      else s

/-! ### What a read of a register shows -/

/-- The lanes present, as bits (R6). -/
def laneBits (v : Variant) : Nat := 2 ^ laneCount v - 1

/-- NVM_SLOT_STATE (R72). -/
def State.slotStateWord (s : State) : Nat :=
  b2n (s.slotInUse == some true) * 16 + b2n s.slotB.retired * 8 + b2n s.slotA.retired * 4 + b2n s.slotB.valid * 2 +
    b2n s.slotA.valid

/-- SCL_OWNER_STATE of an owner (R416). -/
def State.ownerWord (s : State) (o : Nat) : Nat :=
  let w := s.owner o
  w.state * 2 ^ 30 + b2n w.keyValid * 2 ^ 29 + b2n w.persistent * 2 ^ 28 + w.epoch * 2 ^ 20 + b2n w.func.isSome * 2 ^ 13 +
    w.func.getD 0 * 2 ^ 8

/-- HOB_CREDITn: bytes of a port, nanoseconds of a lane (R488). -/
def State.creditWord (s : State) (n : Nat) : Word :=
  BitVec.ofInt 32 ((s.creditNow n) / (if n < 16 then 2000 else 256))

def runCode : CrsRun → Nat
  | .idle => 0
  | .running => 1
  | .waiting => 2
  | .halted => 3

/-- CRS_CSTATUS (R299). -/
def State.crsWord (s : State) (k : Nat) : Nat :=
  let c := s.crs k
  c.owner * 2 ^ 24 + runCode c.run * 2 ^ 14 + c.pc % 4096

/-- CRS_TEAM_STATUS (R298). -/
def State.teamWord (s : State) (t : Nat) : Nat :=
  let mask := fun (x : CrsRun) => maskOf ((List.range 8).filter fun c => (s.crs (8 * t + c)).run == x)
  let far := match s.farRun with
    | some f => f.team == t
    | none => false
  mask .halted * 2 ^ 24 + mask .waiting * 2 ^ 16 + b2n far * 2 ^ 9 + (s.workQ t).length

/-- SWC_VOQ_DEPTH: cells of the frames in the selected VOQ; 0 for an absent port (R247). -/
def State.voqDepth (s : State) : Nat :=
  let i := s.fget SWC_VOQ_SEL_input
  let o := s.fget SWC_VOQ_SEL_output
  if !fabricPresent s.variant i || !fabricPresent s.variant o then 0
  else (s.voq (256 * i + 8 * o + s.fget SWC_VOQ_SEL_class)).foldl (fun v id =>
    v + (match look noStored s.stored id with | some x => x.cells | none => 0)) 0

/-- The dismount time that is left, in ms (R438), of the time that the confirm message carried.
[DEDUCED, log entry 117] -/
def State.dismountLeft (s : State) : Nat :=
  match s.pwk.dismount with
  | none => 0
  | some t => s.fget PWK_DISMOUNT_LEFT_ms - (s.ticks - t) / 250000

/-- Functions that are bound to an owner (R511, R528). -/
def State.funcsBound (s : State) : Nat := maskOf ((List.range 32).filter fun f => (s.boundOwner f).isSome)

/-- The EVC registers that show the journal and HRB (R508), and the sources of absent units, whose enable and routing bits read
0 (R10). -/
def State.evcWord (s : State) (a : Nat) : Option Word :=
  if a = EVC_STATUS then some (word (s.class0Unread * 2 ^ 16 + s.occupied))
  else if a = EVC_HRB_NEXT then some (word (match s.hrbSources with | [] => 0 | n :: _ => 2 ^ 31 + n))
  else if a = EVC_BB_STATUS then some (setField (s.reg a) 30 24 s.bbStaged.length)
  else if EVC_SRC 0 ≤ a ∧ a < EVC_SRC 1536 ∧ sourcePresent s.variant ((a - EVC_SRC 0) / 4) = false then
    some (s.reg a &&& 0x60E0C0FF)
  else none

/-- The register of the domain whose increment is in force: domain 0's in Coherent mode (R334). -/
def State.incAddr (s : State) (a : Nat) : Nat :=
  let d := (a - TMB_TIME_LO 0) / 0x40
  if a < TMB_MODE ∧ (a = TMB_INC_INT d ∨ a = TMB_INC_FRAC d) ∧ s.isSet TMB_MODE_mode = false then a - 0x40 * d else a

/-- The TMB registers (R334, R340); a comparator's target registers show the next target (R356). -/
def State.tmbWord (s : State) (r : Requester) (a : Nat) : Word :=
  let d := (a - TMB_TIME_LO 0) / 0x40
  let cap := look zero s.timeCapture (4 * requesterIndex r + d)
  if a < TMB_MODE ∧ a = TMB_TIME_LO d then word (s.timeNs d)
  else if a < TMB_MODE ∧ a = TMB_TIME_HI d then word (cap / 2 ^ 32)
  else if TMB_TRIG_CTRL 0 ≤ a ∧ a = TMB_TRIG_TGT_LO ((a - TMB_TRIG_CTRL 0) / 0x20) ∧ a < TMB_CAP_CTRL 0 then
    word (look zero s.trigTarget ((a - TMB_TRIG_CTRL 0) / 0x20))
  else if TMB_TRIG_CTRL 0 ≤ a ∧ a = TMB_TRIG_TGT_HI ((a - TMB_TRIG_CTRL 0) / 0x20) ∧ a < TMB_CAP_CTRL 0 then
    word (look zero s.trigTarget ((a - TMB_TRIG_CTRL 0) / 0x20) / 2 ^ 32)
  else s.reg (s.incAddr a)

/-- The HST registers and the function's own MSI-X table and pending bits (R519, R528). -/
def State.hstWord (s : State) (r : Requester) (a : Nat) : Word :=
  let q := (a - HST_QP_CFG 0) / 0x40
  if a = HST_FUNC_BOUND then word s.funcsBound
  else if HST_QP_CFG 0 ≤ a ∧ q < 64 ∧ a = HST_QP_STATUS q then setField (s.reg a) 31 24 ((s.qpOwner q).getD 0)
  else if 0x44000 ≤ a ∧ a < 0x44400 then
    match r with
    | .func f => look (fun _ => 0) s.msix (256 * f + (a - 0x44000) / 4)
    | _ => 0
  else if 0x44800 ≤ a ∧ a < 0x44808 then
    match r with
    | .func f =>
      word (maskOf ((List.range 32).filter fun i => look (fun _ => false) s.msixPending (64 * f + 8 * (a - 0x44800) + i)))
    | _ => 0
  else s.regLast a

/-- LANE_PHY_STATUS (R112): while the lane is powered, bus_dominant is the live bus, a free value unless it is known to be stuck
dominant; during a frame that uses fast mode, tx_mode is 2 or 3 as the frame has come to its ADS and DAS fields (R97).
[DEDUCED, log entry 154] -/
def State.phyStatusShown (s : State) (n : Nat) : Word :=
  let w := s.reg (LANE_PHY_STATUS n)
  let dom := s.lanePowered n && s.laneKind n != 0 && ((s.lane n).busDominant || s.free % 2 == 1)
  let w := setField w 1 1 (b2n dom)
  if (s.lane n).fastNow && s.laneTxMode n != 0 then setField w 3 2 (2 + s.free / 2 % 2) else w

/-- A register's value as requester r reads it. -/
def State.regShown (s : State) (r : Requester) (a : Nat) : Word :=
  match a / 0x10000 with
  | 0x00 =>
    if a = GLB_DEVICE_ID then word (deviceId s.variant)
    else if a = GLB_CAP_UNITS then word (capUnits s.variant)
    else if a = GLB_CAP_LANES_LO then word (laneBits s.variant)
    else if a = GLB_CAP_LANES_HI then word (laneBits s.variant / 2 ^ 32)
    else s.reg a
  | 0x01 =>
    if a = PWK_ACLK_COUNT then word s.aclk
    else if a = PWK_DISMOUNT_LEFT then word s.dismountLeft
    else s.reg a
  | 0x02 => (s.evcWord a).getD (s.reg a)
  | 0x03 => s.tmbWord r a
  | 0x04 => s.hstWord r a
  | 0x06 =>
    if a = KEY_ARG then s.tackReg r 0
    else if KEY_OUT 0 ≤ a ∧ a ≤ KEY_OUT 31 then s.tackReg r (17 + (a - KEY_OUT 0) / 4)
    else s.reg a
  | 0x07 => if a = CIP_STATUS then s.cipWord else s.reg a
  | 0x08 => if a = SCL_OWNER_STATE then word (s.ownerWord (s.fget SCL_OWNER_SEL_owner)) else s.reg a
  | 0x0A =>
    if a = NVM_SLOT_STATE then word s.slotStateWord
    else if a = NVM_SLOT_A_GEN then word (if s.slotA.valid then s.slotA.gen else 0)
    else if a = NVM_SLOT_B_GEN then word (if s.slotB.valid then s.slotB.gen else 0)
    else if a = NVM_GEN_LAST then word s.genLast
    else if NVM_SIGNER_DIGEST 0 ≤ a ∧ a < NVM_SIGNER_DIGEST 4 then
      word (leAt (s.signerDigest ((a - NVM_SIGNER_DIGEST 0) / 32)) (a % 32) 4)
    else s.reg a
  | 0x0B =>
    if a < 0xB06D0 then word (leNat (memRead s.hobA (a - 0xB0000) 4))
    else if HOB_CREDIT 0 ≤ a ∧ a ≤ HOB_CREDIT 63 then s.creditWord ((a - HOB_CREDIT 0) / 4)
    else s.reg a
  | 0x10 =>
    if a = SWC_POOL_FREE then word s.poolFree
    else if a = SWC_VOQ_DEPTH then word s.voqDepth
    else s.reg a
  | 0x11 | 0x12 =>
    match bitmapWord (a % 0x10000) with
    | some w => s.reg a &&& word (presentBits s.variant w)
    | none => s.reg a
  | 0x13 =>
    let n := (a - STM_GCL_CTRL 0) / 0x100
    if STM_GCL_CTRL 0 ≤ a ∧ STM_CBS_CREDIT n 0 ≤ a ∧ a ≤ STM_CBS_CREDIT n 7 then
      BitVec.ofInt 32 (s.creditAfter n ((a - STM_CBS_CREDIT n 0) / 4) (s.uptime - (s.gate n).credTick) / 250000)
    else s.reg a
  | 0x20 =>
    let t := (a - CRS_TEAM_CFG 0) / 0x1000
    let c := (a - CRS_CCTRL t 0) / 0x20
    if a = CRS_TEAM_STATUS t then word (s.teamWord t)
    else if CRS_CCTRL t 0 ≤ a ∧ c < 8 ∧ !(s.crs (8 * t + c)).named then 0
    else if CRS_CCTRL t 0 ≤ a ∧ a = CRS_CSTATUS t c then word (s.crsWord (8 * t + c))
    else s.reg a
  | 0x18 | 0x19 =>
    let n := (a - LANE_PHY_CFG 0) / 0x800
    if a = LANE_PHY_STATUS n then s.phyStatusShown n else s.reg a
  | 0x14 => s.regLast a
  | _ => s.reg a

/-! ### What a read clears (R15, R178, R340, R357, R358) -/

/-- What a read of a register changes. [DEDUCED, log entry 136] -/
def State.regRead (s : State) (r : Requester) (a : Nat) : State :=
  let d := (a - TMB_TIME_LO 0) / 0x40
  let k := (a - TMB_CAP_CTRL 0) / 0x10
  let n := (a - TMB_PTP_PORT 0) / 0x40
  if 0x180000 ≤ a ∧ a = LANE_PHY_STATUS ((a - LANE_PHY_CFG 0) / 0x800) then s.drew 1
  else if a = PWK_WREC_IDX then s.setReg a (setField (s.reg a) 31 16 0)
  else if a = SWC_LANE_PEAK then s.fset SWC_LANE_PEAK_peak (16384 - s.fget SWC_LANE_FREE_free)
  else if a = SIG_DEFER_PEAK then
    (s.fset SIG_DEFER_PEAK_peak1 (s.fget SIG_GW_STATUS_defer1)).fset SIG_DEFER_PEAK_peak0 (s.fget SIG_GW_STATUS_defer0)
  else if a / 0x10000 = 3 ∧ a < TMB_MODE ∧ a = TMB_TIME_LO d then s.timeCaptured r d
  else if TMB_CAP_CTRL 0 ≤ a ∧ k < 16 ∧ a = TMB_CAP_TS_HI k then s.setCapture k ((s.captureFifo k).drop 1)
  else if TMB_PTP_PORT 0 ≤ a ∧ n < 16 ∧ a = TMB_PTP_RX n 2 then s.setPtp n false ((s.ptpFifo n false).drop 1)
  else if TMB_PTP_PORT 0 ≤ a ∧ n < 16 ∧ a = TMB_PTP_TX n 2 then s.setPtp n true ((s.ptpFifo n true).drop 1)
  else
    match s.rowAt a with
    | some row => if row.rc then s.counterClear a else s
    | none => s

/-- A read of one word of the register map by an exposed requester (R529, R530): the state after it, and the word. -/
def State.busRead (s : State) (r : Requester) (a : Nat) : State × Word :=
  if !s.coreOn || (s.ownerOf r).isNone || a % 4 != 0 || unitAbsent s.variant a then (s, 0)
  else
    let own := (0x44000 ≤ a && a < 0x44400) || (0x44800 ≤ a && a < 0x44808) || (0xB0000 ≤ a && a < 0xB06D0)
    if (s.rowAt a).isNone && !own then (s, 0) else (s.regRead r a, s.regShown r a)

/-! ### Reads of the table aperture (R539, R540) -/

/-- The 64 bytes of a journal or black-box record (R506). -/
def Record.bytes (x : Record) : List Byte :=
  let head := leBytes 4 ((if x.isCount then 2 else 1) * 2 ^ 30 + x.cls * 2 ^ 28 + x.owner * 2 ^ 16 + x.event) ++
    leBytes 4 x.seq ++ leBytes 8 x.time ++ leBytes 8 x.uptime ++
    (if x.isCount then leBytes 8 x.lastTime ++ leBytes 4 x.count ++ leBytes 24 0 else slice x.payload 0 36)
  head ++ leBytes 4 (crc32 head)

/-- Word w of record i of a ring; 0 where no record stands. -/
def recordWord (l : List (Nat × Record)) (i w : Nat) : Word :=
  match l.find? fun e => e.1 == i with
  | some e => word (leAt e.2.bytes (4 * w) 4)
  | none => 0

/-- The aggregator staging of lane n as its buffer window shows it (R128, R135): the waiting copies, oldest first, each its lane header
and its data padded to 16 bytes. -/
def State.stagingBytes (s : State) (n : Nat) : List Byte :=
  (s.lane n).staging.flatMap fun e => slice (laneBytes e.1 e.2) 0 (16 + up16 e.1.data.length)

/-- A word of the buffers of lane n. -/
def State.laneBufWord (s : State) (n a : Nat) : Word :=
  let off := (a - laneBuf 0) % 0x4000
  if 0x3800 ≤ off then word (leAt (s.stagingBytes n) (off - 0x3800) 4) else s.aperWord a

/-- The slot and word of an aperture address in the Signal Store. -/
def slotWordAt (a : Nat) : Option (Nat × Nat) :=
  if slotAt 0 ≤ a ∧ a < slotAt 262144 then some ((a - slotAt 0) / 16, a % 16 / 4) else none

/-- A read of one word of the aperture outside the Signal Store, whose words come as HRd (R291). -/
def State.aperRead (s : State) (r : Requester) (addr : Nat) : State × Word :=
  if !s.coreOn || (s.ownerOf r).isNone || addr % 4 != 0 then (s, 0)
  else
    match aperAddr r addr with
    | none => (s, 0)
    | some a =>
      match tabAt a with
      | some (t, i) => (s, s.tabRead r t i ((a - t.at i) / 4))
      | none =>
        if laneBuf 0 ≤ a ∧ a < laneBuf 48 then
          let n := (a - laneBuf 0) / 0x4000
          (s, if lanePresent s.variant n && s.mayUse r (s.portOwnerOf (16 + n)) then s.laneBufWord n a else 0)
        else if 0x10700000 ≤ a ∧ a < 0x10740000 then
          (s, if s.privileged r then recordWord s.journal ((a - 0x10700000) / 64) (a % 64 / 4) else 0)
        else if 0x10800000 ≤ a ∧ a < 0x10A00000 then
          (s, if s.privileged r then recordWord s.blackBox ((a - 0x10800000) / 64) (a % 64 / 4) else 0)
        else (s, 0)

/-! ### The rows that are plain accesses -/

/-- A memory request of `len` bytes at `a` that completes with Unsupported Request, and its function: one from an unbound function
(R511), or one that is not a whole number of aligned words (R512). -/
def State.unsupported (s : State) (r : Requester) (a len : Nat) : Option Nat :=
  match r with
  | .func f => if s.coreOn && ((s.ownerOf r).isNone || a % 4 != 0 || len % 4 != 0 || len == 0) then some f else none
  | _ => none

/-- A request that the host port's rules R511 and R512 turn away is answered with Unsupported Request; any other has its effect. -/
def State.supported (s : State) (r : Requester) (a len : Nat) (t : State) : State :=
  match s.unsupported r a len with
  | some f => s.emit (.pcieCompletion f 1 none)
  | none => t

/-- REGISTER_WRITE (R15, R408, R409, R511, R512, R531, R532). -/
def execRegisterWrite (r : Requester) (a : Nat) (v : Word) (s : State) : Host.Outcome State Fault Refusal :=
  .next (s.supported r a 4 (if a < 0x400000 then s.busWrite r a v else s))

/-- ABSENT_WRITE (R9): a write in the register or aperture window of an absent unit. -/
def execAbsentWrite (r : Requester) (a : Nat) (s : State) : Host.Outcome State Fault Refusal :=
  let tab := match (aperAddr r a).bind tabAt with
    | some (t, i) => s.tabAbsent t i
    | none => false
  let buf := match aperAddr r a with
    | some b => decide (laneBuf 0 ≤ b) && decide (b < laneBuf 48) && !lanePresent s.variant ((b - laneBuf 0) / 0x4000)
    | none => false
  if s.coreOn && (s.ownerOf r).isSome && ((decide (a < 0x400000) && unitAbsent s.variant a) || tab || buf) then
    .next s.absentWrite
  else .next s

/-- TABLE_WRITE (R215, R216, R511, R512). -/
def execTableWrite (r : Requester) (a : Nat) (bs : List Byte) (s : State) : Host.Outcome State Fault Refusal :=
  .next (s.supported r a bs.length (s.aperWrite r a bs))

/-- COUNTER_READ (R178, R511, R512, R532): the word goes to its reader; what counts from now on counts in the cleared counter.
[DEDUCED, log entry 136] -/
def execCounterRead (r : Requester) (a : Nat) (s : State) : Host.Outcome State Fault Refusal :=
  let q := s.busRead r a
  .next (s.supported r a 4 (if s.coreOn && (s.ownerOf r).isSome then q.1.emit (.read r q.2) else s))

end Sys2Proof.Machine
end

