-- ==== Sys2Proof/Machine/Service.lean ====
section
/-!
DEFINITION. The service port (R520 to R524) and the mailbox command of Ostler firmware (R480, R523).
-/

namespace Sys2Proof.Machine

/-- SVC_STATUS (R524). -/
def State.svcWord (s : State) : Word :=
  word (b2n s.host.ready * 2 ^ 31 + b2n s.host.run.isSome * 2 ^ 30 + b2n s.host.crcErr * 2 ^ 29 + b2n s.hrbLow * 2 ^ 28 +
    s.host.status % 2 ^ 16)

/-- A transaction with a bad CRC, or whose chip-select rises early, is discarded (R520). -/
def State.svcDiscard (s : State) : State :=
  let s := { s with host := { s.host with crcErr := true } }
  (s.countSat (HST_CNT 12)).raise 1527

/-- A refused transaction (R521). [DEDUCED, log entry 135] -/
def State.svcRefuse (s : State) (status : Nat) : State :=
  let s := { s with host := { s.host with status := status } }
  (s.countSat (HST_CNT 13)).raise 1529

/-- A transaction of the service port: nothing before the port is ready; a bad one is discarded; one other than STATUS and FETCH
is refused while the port is busy, and with `form` false for its format. [DEDUCED, log entry 135] -/
def State.svcTake (s : State) (bad always form : Bool) (f : State → State) : State :=
  if !s.coreOn || !s.host.ready then s
  else if bad then s.svcDiscard
  else
    let s := s.countSat (HST_CNT 11)
    if !always && s.host.run.isSome then s.svcRefuse 0x10
    else if !form then s.svcRefuse 0x17
    else f s

/-- A command makes the port busy until its end; its status where that stands already. -/
def State.svcRun (s : State) (opcode : Nat) (status : Option Nat) : State :=
  { s with host := { s.host with run := some (opcode, status) } }

/-- A busy command completes (R521). -/
def State.svcEnd (s : State) (status : Nat) : State :=
  ({ s with host := { s.host with run := none, status := status, mbox := [] } } : State).raise 1528

/-- An access of `count` words at byte offset `off` is whole, and stays in the window (R521). -/
def svcForm (off count : Nat) : Bool :=
  off % 4 == 0 && decide (1 ≤ count) && decide (count ≤ 16) && decide (off + 4 * count ≤ 0x10000)

/-- The address of a byte offset (R522). -/
def State.svcAddr (s : State) (off : Nat) : Nat := s.host.window * 0x10000 + off

/-- One access of a WRITE: 4 or 16 bytes, in the register map as words one after the other (R522, R529). -/
def State.svcStore (s : State) (a : Nat) (ws : List Word) : State :=
  if a < 0x400000 then (ws.foldl (fun (p : State × Nat) w => (p.1.busWrite .svc p.2 w, p.2 + 4)) (s, a)).1
  else s.aperWrite .svc a (wordsToBytes ws)

/-- The words of a WRITE in order, at most `n`: each four that start on a 16-byte boundary are one access (R522). -/
def State.svcStores (s : State) (a : Nat) : Nat → List Word → State
  | n + 1, w :: ws =>
    if a % 16 = 0 ∧ 3 ≤ ws.length then (s.svcStore a (w :: ws.take 3)).svcStores (a + 16) n (ws.drop 3)
    else (s.svcStore a [w]).svcStores (a + 4) n ws
  | _, _ => s

/-- SVC_WRITE (R521, R522). -/
def execSvcWrite (off : Nat) (ws : List Word) (bad : Bool) (s : State) : Host.Outcome State Fault Refusal :=
  .next (s.svcTake bad false (svcForm off ws.length) fun s => (s.svcStores (s.svcAddr off) ws.length ws).svcRun 1 (some 0))

/-- The words of a READ, in order. -/
def State.svcLoads (s : State) (a : Nat) : Nat → State × List Word
  | 0 => (s, [])
  | n + 1 =>
    let x := if a < 0x400000 then s.busRead .svc a else s.aperRead .svc a
    let y := x.1.svcLoads (a + 4) n
    (y.1, x.2 :: y.2)

/-- The words of a READ that lie in the Signal Store are read at home, in order, and take their places in the read buffer when home
answers (R291). [DEDUCED, log entry 162] -/
def State.svcSlots (s : State) (a count : Nat) : State :=
  (List.range count).foldl (fun (u : State) i =>
    match slotWordAt (a + 4 * i) with
    | some (slot, w) => u.readHome { kind := .hRd, slot := slot, reader := some (.svc, w), svcAt := some i }
    | none => u) s

/-- SVC_READ (R521). -/
def execSvcRead (off count : Nat) (bad : Bool) (s : State) : Host.Outcome State Fault Refusal :=
  .next (s.svcTake bad false (svcForm off count) fun s =>
    let y := s.svcLoads (s.svcAddr off) count
    let s := { y.1 with host := { y.1.host with readBuf := y.2 } }
    (s.svcSlots (s.svcAddr off) count).svcRun 3 (some 0))

/-- A home read for the service port has not been answered. -/
def State.svcWaits (s : State) : Bool :=
  (s.sig.reqs.any fun q => q.svcAt.isSome) || s.sig.trans.any fun e => e.2.any fun x => x.req.svcAt.isSome

/-- The port drives words, SVC_STATUS first; reading it clears crc_err (R521, R524). -/
def State.svcDrive (s : State) (ws : List Word) : State :=
  let s := s.emit (.service (s.svcWord :: ws))
  { s with host := { s.host with crcErr := false } }

/-- SVC_FETCH (R521). -/
def execSvcFetch (bad : Bool) (s : State) : Host.Outcome State Fault Refusal :=
  .next (s.svcTake bad true true fun s => s.svcDrive s.host.readBuf)

/-- SVC_STATUS (R524). -/
def execSvcStatus (bad : Bool) (s : State) : Host.Outcome State Fault Refusal :=
  .next (s.svcTake bad true true fun s => s.svcDrive [])

/-- A window base that covers the register map or the aperture (R522). -/
def windowBase (b : Nat) : Bool := decide (b ≤ 0x3F) || (decide (0x1000 ≤ b) && decide (b ≤ 0x13FF))

/-- SVC_WINDOW (R522). -/
def execSvcWindow (base : Nat) (bad : Bool) (s : State) : Host.Outcome State Fault Refusal :=
  .next (s.svcTake bad false (windowBase base) fun s => { s with host := { s.host with window := base, status := 0 } })

/-- SVC_MBOX (R523): nine words for Ostler firmware; while Ostler does not run, the command ends with OSTLER_DOWN. -/
def execSvcMbox (ws : List Word) (bad : Bool) (s : State) : Host.Outcome State Fault Refusal :=
  .next (s.svcTake bad false (ws.length == 9) fun s =>
    if s.ostlerRuns then
      let s := (s.emit (.mailbox ws)).svcRun 7 none
      { s with host := { s.host with mbox := ws } }
    else s.svcRun 7 (some 0x3D))

/-- SIGNER_SET (R480, R523): a signer digest enters an empty row, or a revocation any row: the status.
[DESIGN CHOICE, log entry 16; DEDUCED, log entry 27] -/
def State.signerSet (s : State) (n : Nat) (digest : List Byte) : State × Nat :=
  if s.signerDigest n == List.replicate 32 0 || digest == List.replicate 32 0xFF then
    ({ s with mram := memWrite s.mram (rowBytes (40257 + n)) digest }, 0)
  else (s, 0x3C)

/-- MBOX_ANSWER (R523): Ostler firmware answers the command that it holds. -/
def execMboxAnswer (s : State) : Host.Outcome State Fault Refusal :=
  match s.host.mbox with
  | [] => .next s
  | w0 :: ws =>
    if !s.ostlerRuns then .next s
    else if getField w0 31 24 = 1 then
      let t := s.signerSet (getField w0 1 0) (slice (wordsToBytes ws) 0 32)
      .next (t.1.svcEnd t.2)
    else .next (s.svcEnd 0x17)

/-- MBOX_TIMEOUT (R523): 100 ms without an answer. -/
def execMboxTimeout (s : State) : Host.Outcome State Fault Refusal :=
  match s.host.run with
  | some (7, none) => .next (s.svcEnd 0x3D)
  | _ => .next s

/-- SVC_COMMAND_DONE (R521): a busy command whose work is done completes. -/
def execSvcCommandDone (s : State) : Host.Outcome State Fault Refusal :=
  match s.host.run with
  | some (_, some status) => .next (if s.svcWaits then s else s.svcEnd status)
  | _ => .next s

end Sys2Proof.Machine
end

