-- ==== Sys2Proof/Machine/Dispatch.lean ====
section
/-!
DEFINITION. Every command goes to its one meaning.
-/

namespace Sys2Proof.Machine

def exec (i : Instr) (s : State) : Host.Outcome State Fault Refusal :=
  match i with
  | .aonPowerOnReset => Sys2Proof.Machine.execAonPowerOnReset s
  | .vbatValid => Sys2Proof.Machine.execVbatValid s
  | .railsInRegulation => Sys2Proof.Machine.execRailsInRegulation s
  | .pllLock => Sys2Proof.Machine.execPllLock s
  | .bootBistPartitionDone fails => Sys2Proof.Machine.execBootBistPartitionDone fails s
  | .imageLoad => Sys2Proof.Machine.execImageLoad s
  | .sramClearDone => Sys2Proof.Machine.execSramClearDone s
  | .servicePortReady => Sys2Proof.Machine.execServicePortReady s
  | .laneEnable => Sys2Proof.Machine.execLaneEnable s
  | .routingReady => Sys2Proof.Machine.execRoutingReady s
  | .digestVerdict => Sys2Proof.Machine.execDigestVerdict s
  | .ostlerFirmwareRead => Sys2Proof.Machine.execOstlerFirmwareRead s
  | .perstNLow => Sys2Proof.Machine.execPerstNLow s
  | .perstNRise => Sys2Proof.Machine.execPerstNRise s
  | .configRequest f q => Sys2Proof.Machine.execConfigRequest f q s
  | .testReset => Sys2Proof.Machine.execTestReset s
  | .dieLinkTransfer k inward ok arriving => Sys2Proof.Machine.execDieLinkTransfer k inward ok arriving s
  | .plkSilence => Sys2Proof.Machine.execPlkSilence s
  | .dieLinkRetrain k outOk inOk => Sys2Proof.Machine.execDieLinkRetrain k outOk inOk s
  | .absentWrite r a => Sys2Proof.Machine.execAbsentWrite r a s
  | .registerWrite r a v => Sys2Proof.Machine.execRegisterWrite r a v s
  | .counterRead r a => Sys2Proof.Machine.execCounterRead r a s
  | .retire r slotB => Sys2Proof.Machine.execRetire r slotB s
  | .program r row => Sys2Proof.Machine.execProgram r row s
  | .commit r slotB => Sys2Proof.Machine.execCommit r slotB s
  | .nvmUndefinedOpcode r opcode => Sys2Proof.Machine.execNvmUndefinedOpcode r opcode s
  | .nvmCmdComplete => Sys2Proof.Machine.execNvmCmdComplete s
  | .teamTest r t => Sys2Proof.Machine.execTeamTest r t s
  | .farUndefinedOpcode r opcode => Sys2Proof.Machine.execFarUndefinedOpcode r opcode s
  | .teamDrained => Sys2Proof.Machine.execTeamDrained s
  | .drainTimeout => Sys2Proof.Machine.execDrainTimeout s
  | .teamTestComplete fail => Sys2Proof.Machine.execTeamTestComplete fail s
  | .laneIntegrated n => Sys2Proof.Machine.execLaneIntegrated n s
  | .overVoltage n pinB => Sys2Proof.Machine.execOverVoltage n pinB s
  | .terminationReclose n => Sys2Proof.Machine.execTerminationReclose n s
  | .cmRange n => Sys2Proof.Machine.execCmRange n s
  | .stuckDominant n => Sys2Proof.Machine.execStuckDominant n s
  | .linPullupShort n => Sys2Proof.Machine.execLinPullupShort n s
  | .laneThermal n => Sys2Proof.Machine.execLaneThermal n s
  | .domTimeout n => Sys2Proof.Machine.execDomTimeout n s
  | .laneFaultRecovery n bit => Sys2Proof.Machine.execLaneFaultRecovery n bit s
  | .lanePhyFaultClear r n v => Sys2Proof.Machine.execLanePhyFaultClear r n v s
  | .laneDisable r n => Sys2Proof.Machine.execLaneDisable r n s
  | .laneReenable r n => Sys2Proof.Machine.execLaneReenable r n s
  | .laneLoopback r n => Sys2Proof.Machine.execLaneLoopback r n s
  | .dominantEdgeWake n ns => Sys2Proof.Machine.execDominantEdgeWake n ns s
  | .selectiveWakeMatch n f => Sys2Proof.Machine.execSelectiveWakeMatch n f s
  | .pnErrorOverflow n => Sys2Proof.Machine.execPnErrorOverflow n s
  | .pnOscillatorIdle n => Sys2Proof.Machine.execPnOscillatorIdle n s
  | .canFrameReceived n f age => Sys2Proof.Machine.execCanFrameReceived n f age s
  | .protocolException n fmt => Sys2Proof.Machine.execProtocolException n fmt s
  | .canReintegrate n => Sys2Proof.Machine.execCanReintegrate n s
  | .busError n kind busNs => Sys2Proof.Machine.execBusError n kind busNs s
  | .busOffRecovery n => Sys2Proof.Machine.execBusOffRecovery n s
  | .hpRelease r n => Sys2Proof.Machine.execHpRelease r n s
  | .ackIdxWrite r n q ack => Sys2Proof.Machine.execAckIdxWrite r n q ack s
  | .watermarkWrite r n q w => Sys2Proof.Machine.execWatermarkWrite r n q w s
  | .txRequest r n k v => Sys2Proof.Machine.execTxRequest r n k v s
  | .txAbort r n k v => Sys2Proof.Machine.execTxAbort r n k v s
  | .laneTxStart n => Sys2Proof.Machine.execLaneTxStart n s
  | .lostArbitration n busNs => Sys2Proof.Machine.execLostArbitration n busNs s
  | .laneTxComplete n age busNs => Sys2Proof.Machine.execLaneTxComplete n age busNs s
  | .fabricFrameToLane n => Sys2Proof.Machine.execFabricFrameToLane n s
  | .linHeader n h => Sys2Proof.Machine.execLinHeader n h s
  | .linNoResp n => Sys2Proof.Machine.execLinNoResp n s
  | .linSlotStart n late busNs => Sys2Proof.Machine.execLinSlotStart n late busNs s
  | .t1sFrameReceived n bytes fcsOk age => Sys2Proof.Machine.execT1sFrameReceived n bytes fcsOk age s
  | .plcaBeacon n => Sys2Proof.Machine.execPlcaBeacon n s
  | .plcaFallback n => Sys2Proof.Machine.execPlcaFallback n s
  | .ethFrameReceived n bs info age => Sys2Proof.Machine.execEthFrameReceived n bs info age s
  | .cutThroughPresent n bs => Sys2Proof.Machine.execCutThroughPresent n bs s
  | .steeringRuleCommit r n ix v => Sys2Proof.Machine.execSteeringRuleCommit r n ix v s
  | .endpointFrameDelivery e buf irq => Sys2Proof.Machine.execEndpointFrameDelivery e buf irq s
  | .teamFrameArrival t c => Sys2Proof.Machine.execTeamFrameArrival t c s
  | .preemptVerifyDone n => Sys2Proof.Machine.execPreemptVerifyDone n s
  | .preemptVerifyTimeout n => Sys2Proof.Machine.execPreemptVerifyTimeout n s
  | .gateHoldApply n sent => Sys2Proof.Machine.execGateHoldApply n sent s
  | .egressFrameStart n sent => Sys2Proof.Machine.execEgressFrameStart n sent s
  | .egressFrameEnd n => Sys2Proof.Machine.execEgressFrameEnd n s
  | .linkDown n arriving => Sys2Proof.Machine.execLinkDown n arriving s
  | .linkUp n => Sys2Proof.Machine.execLinkUp n s
  | .trainingFail n => Sys2Proof.Machine.execTrainingFail n s
  | .sqiLow n sqi => Sys2Proof.Machine.execSqiLow n sqi s
  | .phyThermal n shut => Sys2Proof.Machine.execPhyThermal n shut s
  | .portDisable r n => Sys2Proof.Machine.execPortDisable r n s
  | .portEnable r n => Sys2Proof.Machine.execPortEnable r n s
  | .pipelineFrame q wraps => Sys2Proof.Machine.execPipelineFrame q wraps s
  | .learnApply p => Sys2Proof.Machine.execLearnApply p s
  | .peerQuery p => Sys2Proof.Machine.execPeerQuery p s
  | .peerAnswer p => Sys2Proof.Machine.execPeerAnswer p s
  | .moveNotify p => Sys2Proof.Machine.execMoveNotify p s
  | .ageingTick p => Sys2Proof.Machine.execAgeingTick p s
  | .streamIdRelease id => Sys2Proof.Machine.execStreamIdRelease id s
  | .frerReset p ix => Sys2Proof.Machine.execFrerReset p ix s
  | .mirrorCopyDeliver => Sys2Proof.Machine.execMirrorCopyDeliver s
  | .fwdScrubRead p hit => Sys2Proof.Machine.execFwdScrubRead p hit s
  | .fwdRepairDone p k => Sys2Proof.Machine.execFwdRepairDone p k s
  | .tableWrite r a bs => Sys2Proof.Machine.execTableWrite r a bs s
  | .tblRead r p v => Sys2Proof.Machine.execTblRead r p v s
  | .tblWrite r p v => Sys2Proof.Machine.execTblWrite r p v s
  | .tblInsert r p v => Sys2Proof.Machine.execTblInsert r p v s
  | .tblDelete r p v => Sys2Proof.Machine.execTblDelete r p v s
  | .tblSearch r p v => Sys2Proof.Machine.execTblSearch r p v s
  | .tblCmdComplete p => Sys2Proof.Machine.execTblCmdComplete p s
  | .schedulerMatching parity ecc stall => Sys2Proof.Machine.execSchedulerMatching parity ecc stall s
  | .pointerSweepEnd => Sys2Proof.Machine.execPointerSweepEnd s
  | .parityWindowEnd => Sys2Proof.Machine.execParityWindowEnd s
  | .holStall p o c => Sys2Proof.Machine.execHolStall p o c s
  | .streamGateEntry g => Sys2Proof.Machine.execStreamGateEntry g s
  | .gateListEntry n => Sys2Proof.Machine.execGateListEntry n s
  | .gclChangeRequest r n v => Sys2Proof.Machine.execGclChangeRequest r n v s
  | .gclChangeApply n => Sys2Proof.Machine.execGclChangeApply n s
  | .gateResume n => Sys2Proof.Machine.execGateResume n s
  | .schoolStart r v => Sys2Proof.Machine.execSchoolStart r v s
  | .schoolWindowEnd => Sys2Proof.Machine.execSchoolWindowEnd s
  | .stmScrubRead hit => Sys2Proof.Machine.execStmScrubRead hit s
  | .stmRepairDone k => Sys2Proof.Machine.execStmRepairDone k s
  | .add k ecc => Sys2Proof.Machine.execAdd k ecc s
  | .sub k ecc => Sys2Proof.Machine.execSub k ecc s
  | .and k ecc => Sys2Proof.Machine.execAnd k ecc s
  | .or k ecc => Sys2Proof.Machine.execOr k ecc s
  | .xor k ecc => Sys2Proof.Machine.execXor k ecc s
  | .sll k ecc => Sys2Proof.Machine.execSll k ecc s
  | .srl k ecc => Sys2Proof.Machine.execSrl k ecc s
  | .sra k ecc => Sys2Proof.Machine.execSra k ecc s
  | .slt k ecc => Sys2Proof.Machine.execSlt k ecc s
  | .sltu k ecc => Sys2Proof.Machine.execSltu k ecc s
  | .mul k ecc => Sys2Proof.Machine.execMul k ecc s
  | .mulh k ecc => Sys2Proof.Machine.execMulh k ecc s
  | .addi k ecc => Sys2Proof.Machine.execAddi k ecc s
  | .andi k ecc => Sys2Proof.Machine.execAndi k ecc s
  | .ori k ecc => Sys2Proof.Machine.execOri k ecc s
  | .xori k ecc => Sys2Proof.Machine.execXori k ecc s
  | .slti k ecc => Sys2Proof.Machine.execSlti k ecc s
  | .slli k ecc => Sys2Proof.Machine.execSlli k ecc s
  | .srli k ecc => Sys2Proof.Machine.execSrli k ecc s
  | .srai k ecc => Sys2Proof.Machine.execSrai k ecc s
  | .lui k ecc => Sys2Proof.Machine.execLui k ecc s
  | .lw k ecc => Sys2Proof.Machine.execLw k ecc s
  | .lh k ecc => Sys2Proof.Machine.execLh k ecc s
  | .lhu k ecc => Sys2Proof.Machine.execLhu k ecc s
  | .lb k ecc => Sys2Proof.Machine.execLb k ecc s
  | .lbu k ecc => Sys2Proof.Machine.execLbu k ecc s
  | .sw k ecc => Sys2Proof.Machine.execSw k ecc s
  | .sh k ecc => Sys2Proof.Machine.execSh k ecc s
  | .sb k ecc => Sys2Proof.Machine.execSb k ecc s
  | .beq k ecc => Sys2Proof.Machine.execBeq k ecc s
  | .bne k ecc => Sys2Proof.Machine.execBne k ecc s
  | .blt k ecc => Sys2Proof.Machine.execBlt k ecc s
  | .bge k ecc => Sys2Proof.Machine.execBge k ecc s
  | .bltu k ecc => Sys2Proof.Machine.execBltu k ecc s
  | .bgeu k ecc => Sys2Proof.Machine.execBgeu k ecc s
  | .jal k ecc => Sys2Proof.Machine.execJal k ecc s
  | .jalr k ecc => Sys2Proof.Machine.execJalr k ecc s
  | .bfx k ecc => Sys2Proof.Machine.execBfx k ecc s
  | .bfi k ecc => Sys2Proof.Machine.execBfi k ecc s
  | .bfxr k ecc => Sys2Proof.Machine.execBfxr k ecc s
  | .bfir k ecc => Sys2Proof.Machine.execBfir k ecc s
  | .crcb k ecc => Sys2Proof.Machine.execCrcb k ecc s
  | .crcw k ecc => Sys2Proof.Machine.execCrcw k ecc s
  | .scale k ecc => Sys2Proof.Machine.execScale k ecc s
  | .qget k ecc => Sys2Proof.Machine.execQget k ecc s
  | .qput k ecc => Sys2Proof.Machine.execQput k ecc s
  | .sld k ecc => Sys2Proof.Machine.execSld k ecc s
  | .sst k ecc => Sys2Proof.Machine.execSst k ecc s
  | .sstc k ecc => Sys2Proof.Machine.execSstc k ecc s
  | .sfl k ecc => Sys2Proof.Machine.execSfl k ecc s
  | .waitt k ecc => Sys2Proof.Machine.execWaitt k ecc s
  | .waite k ecc => Sys2Proof.Machine.execWaite k ecc s
  | .rdt k ecc => Sys2Proof.Machine.execRdt k ecc s
  | .evr k ecc => Sys2Proof.Machine.execEvr k ecc s
  | .ciph k ecc => Sys2Proof.Machine.execCiph k ecc s
  | .yield k ecc => Sys2Proof.Machine.execYield k ecc s
  | .runLimit k => Sys2Proof.Machine.execRunLimit k s
  | .courserResume k => Sys2Proof.Machine.execCourserResume k s
  | .courserAutoRestart k => Sys2Proof.Machine.execCourserAutoRestart k s
  | .courserRestart r k => Sys2Proof.Machine.execCourserRestart r k s
  | .courserHalt r k => Sys2Proof.Machine.execCourserHalt r k s
  | .doorbellRing r t v => Sys2Proof.Machine.execDoorbellRing r t v s
  | .gets t slot ecc => Sys2Proof.Machine.execGets t slot ecc s
  | .getm t slot ecc => Sys2Proof.Machine.execGetm t slot ecc s
  | .putm t slot => Sys2Proof.Machine.execPutm t slot s
  | .puts t slot => Sys2Proof.Machine.execPuts t slot s
  | .hwr slot => Sys2Proof.Machine.execHwr slot s
  | .hrd r slot x => Sys2Proof.Machine.execHrd r slot x s
  | .fetch t slot => Sys2Proof.Machine.execFetch t slot s
  | .fetchinv t slot => Sys2Proof.Machine.execFetchinv t slot s
  | .inv t slot => Sys2Proof.Machine.execInv t slot s
  | .snoopData t slot => Sys2Proof.Machine.execSnoopData t slot s
  | .snoopAck t slot => Sys2Proof.Machine.execSnoopAck t slot s
  | .snoopAbsent t slot => Sys2Proof.Machine.execSnoopAbsent t slot s
  | .putmAck t slot => Sys2Proof.Machine.execPutmAck t slot s
  | .lineFill t slot cycles => Sys2Proof.Machine.execLineFill t slot cycles s
  | .sigScrubRead hit => Sys2Proof.Machine.execSigScrubRead hit s
  | .dirRebuildDone t => Sys2Proof.Machine.execDirRebuildDone t s
  | .aggregatorFrame n => Sys2Proof.Machine.execAggregatorFrame n s
  | .deferredRelease u => Sys2Proof.Machine.execDeferredRelease u s
  | .stalenessSweep ix => Sys2Proof.Machine.execStalenessSweep ix s
  | .eventSend d => Sys2Proof.Machine.execEventSend d s
  | .cyclicSend d => Sys2Proof.Machine.execCyclicSend d s
  | .tunnelSend d => Sys2Proof.Machine.execTunnelSend d s
  | .acfDownlink n => Sys2Proof.Machine.execAcfDownlink n s
  | .routeScrubRead hit => Sys2Proof.Machine.execRouteScrubRead hit s
  | .routeRepairDone k => Sys2Proof.Machine.execRouteRepairDone k s
  | .incrementCommit r d v => Sys2Proof.Machine.execIncrementCommit r d v s
  | .timeStep r d => Sys2Proof.Machine.execTimeStep r d s
  | .threshWrite r d v => Sys2Proof.Machine.execThreshWrite r d v s
  | .threshRestore r d => Sys2Proof.Machine.execThreshRestore r d s
  | .timeCaptureRead r d => Sys2Proof.Machine.execTimeCaptureRead r d s
  | .syncReport r d offset => Sys2Proof.Machine.execSyncReport r d offset s
  | .syncLost d => Sys2Proof.Machine.execSyncLost d s
  | .wakeGuardExpiry => Sys2Proof.Machine.execWakeGuardExpiry s
  | .triggerFire n => Sys2Proof.Machine.execTriggerFire n s
  | .triggerTargetCommit r n hi => Sys2Proof.Machine.execTriggerTargetCommit r n hi s
  | .gpioPulseEnd n => Sys2Proof.Machine.execGpioPulseEnd n s
  | .captureEdge k rising age => Sys2Proof.Machine.execCaptureEdge k rising age s
  | .captureFifoPop r k => Sys2Proof.Machine.execCaptureFifoPop r k s
  | .ptpFifoPop r n tx => Sys2Proof.Machine.execPtpFifoPop r n tx s
  | .macsecIcvVerdict n => Sys2Proof.Machine.execMacsecIcvVerdict n s
  | .jobSubmit r f desc => Sys2Proof.Machine.execJobSubmit r f desc s
  | .jobStart n src => Sys2Proof.Machine.execJobStart n src s
  | .jobSuspend done => Sys2Proof.Machine.execJobSuspend done s
  | .jobComplete n writeFail cycles => Sys2Proof.Machine.execJobComplete n writeFail cycles s
  | .frameJob => Sys2Proof.Machine.execFrameJob s
  | .frameJobDone n => Sys2Proof.Machine.execFrameJobDone n s
  | .keyWrite r slot => Sys2Proof.Machine.execKeyWrite r slot s
  | .keyClear r slot => Sys2Proof.Machine.execKeyClear r slot s
  | .keyDerive r slot => Sys2Proof.Machine.execKeyDerive r slot s
  | .keyWrap r slot => Sys2Proof.Machine.execKeyWrap r slot s
  | .keyUnwrap r slot => Sys2Proof.Machine.execKeyUnwrap r slot s
  | .keyAttest r slot => Sys2Proof.Machine.execKeyAttest r slot s
  | .keyInfo r slot => Sys2Proof.Machine.execKeyInfo r slot s
  | .keyUndefinedOpcode r opcode => Sys2Proof.Machine.execKeyUndefinedOpcode r opcode s
  | .keyCmdComplete => Sys2Proof.Machine.execKeyCmdComplete s
  | .persistLoadDone => Sys2Proof.Machine.execPersistLoadDone s
  | .debugUnlock token => Sys2Proof.Machine.execDebugUnlock token s
  | .tamperAssert n => Sys2Proof.Machine.execTamperAssert n s
  | .persistEraseDone => Sys2Proof.Machine.execPersistEraseDone s
  | .tamperLatchClear r mask => Sys2Proof.Machine.execTamperLatchClear r mask s
  | .ownerCreate r o => Sys2Proof.Machine.execOwnerCreate r o s
  | .ownerDestroy r o => Sys2Proof.Machine.execOwnerDestroy r o s
  | .sclCmdComplete => Sys2Proof.Machine.execSclCmdComplete s
  | .stateTargetWrite r target => Sys2Proof.Machine.execStateTargetWrite r target s
  | .stateMoveDone => Sys2Proof.Machine.execStateMoveDone s
  | .paddockDrainTimeout => Sys2Proof.Machine.execPaddockDrainTimeout s
  | .wakeLineLow us => Sys2Proof.Machine.execWakeLineLow us s
  | .wakeTimer => Sys2Proof.Machine.execWakeTimer s
  | .serviceCsWake => Sys2Proof.Machine.execServiceCsWake s
  | .wakeStart => Sys2Proof.Machine.execWakeStart s
  | .sleepWrite r => Sys2Proof.Machine.execSleepWrite r s
  | .undervoltage => Sys2Proof.Machine.execUndervoltage s
  | .offLatchAct => Sys2Proof.Machine.execOffLatchAct s
  | .detectorArm => Sys2Proof.Machine.execDetectorArm s
  | .laneRelease => Sys2Proof.Machine.execLaneRelease s
  | .ethernetSilence => Sys2Proof.Machine.execEthernetSilence s
  | .coreLineOff => Sys2Proof.Machine.execCoreLineOff s
  | .pdieOff => Sys2Proof.Machine.execPdieOff s
  | .buckDropout => Sys2Proof.Machine.execBuckDropout s
  | .wakeAssert r => Sys2Proof.Machine.execWakeAssert r s
  | .wakePulseEnd => Sys2Proof.Machine.execWakePulseEnd s
  | .wakeHeldRelease => Sys2Proof.Machine.execWakeHeldRelease s
  | .wakeStuck => Sys2Proof.Machine.execWakeStuck s
  | .consentWrite r v => Sys2Proof.Machine.execConsentWrite r v s
  | .quietTimeExpiry wake => Sys2Proof.Machine.execQuietTimeExpiry wake s
  | .minAwakeExpiry => Sys2Proof.Machine.execMinAwakeExpiry s
  | .ringMessage bytes => Sys2Proof.Machine.execRingMessage bytes s
  | .ringSilenceExpiry => Sys2Proof.Machine.execRingSilenceExpiry s
  | .hopTimeout => Sys2Proof.Machine.execHopTimeout s
  | .confirmSilenceExpiry => Sys2Proof.Machine.execConfirmSilenceExpiry s
  | .dismountEnd => Sys2Proof.Machine.execDismountEnd s
  | .outputCommand r j v => Sys2Proof.Machine.execOutputCommand r j v s
  | .pwmPeriod j => Sys2Proof.Machine.execPwmPeriod j s
  | .currentSample currents => Sys2Proof.Machine.execCurrentSample currents s
  | .shortCircuit j => Sys2Proof.Machine.execShortCircuit j s
  | .inrush j => Sys2Proof.Machine.execInrush j s
  | .outputThermal j => Sys2Proof.Machine.execOutputThermal j s
  | .shedReevaluate g => Sys2Proof.Machine.execShedReevaluate g s
  | .maxOnExpiry j => Sys2Proof.Machine.execMaxOnExpiry j s
  | .minOffExpiry j => Sys2Proof.Machine.execMinOffExpiry j s
  | .outputRetry j => Sys2Proof.Machine.execOutputRetry j s
  | .retryBudgetRestore j => Sys2Proof.Machine.execRetryBudgetRestore j s
  | .outputFaultClear r j v active => Sys2Proof.Machine.execOutputFaultClear r j v active s
  | .openLoad j => Sys2Proof.Machine.execOpenLoad j s
  | .offStateCheck j above => Sys2Proof.Machine.execOffStateCheck j above s
  | .offStatePullupEnd j above => Sys2Proof.Machine.execOffStatePullupEnd j above s
  | .plkLostClear => Sys2Proof.Machine.execPlkLostClear s
  | .profileRun r j v => Sys2Proof.Machine.execProfileRun r j v s
  | .profileStop r j v => Sys2Proof.Machine.execProfileStop r j v s
  | .profileJump r j v => Sys2Proof.Machine.execProfileJump r j v s
  | .profileSample j => Sys2Proof.Machine.execProfileSample j s
  | .sarSequenceGo r q => Sys2Proof.Machine.execSarSequenceGo r q s
  | .sarPeriod q => Sys2Proof.Machine.execSarPeriod q s
  | .sequenceDone results => Sys2Proof.Machine.execSequenceDone results s
  | .batMeasStart r => Sys2Proof.Machine.execBatMeasStart r s
  | .batPeriod => Sys2Proof.Machine.execBatPeriod s
  | .batMeasDone cells vpack => Sys2Proof.Machine.execBatMeasDone cells vpack s
  | .openWireStart r => Sys2Proof.Machine.execOpenWireStart r s
  | .openWirePhase cells => Sys2Proof.Machine.execOpenWirePhase cells s
  | .ostlerKick r => Sys2Proof.Machine.execOstlerKick r s
  | .watchdog => Sys2Proof.Machine.execWatchdog s
  | .lockstep => Sys2Proof.Machine.execLockstep s
  | .ostlerAutoRestart => Sys2Proof.Machine.execOstlerAutoRestart s
  | .ostlerRestart r => Sys2Proof.Machine.execOstlerRestart r s
  | .hobbleCopyMismatch off copyB byte => Sys2Proof.Machine.execHobbleCopyMismatch off copyB byte s
  | .hobbleRestoreDone => Sys2Proof.Machine.execHobbleRestoreDone s
  | .arbiterGrant a waiting running wait => Sys2Proof.Machine.execArbiterGrant a waiting running wait s
  | .pendClear r n v => Sys2Proof.Machine.execPendClear r n v s
  | .coalesceWindowEnd src => Sys2Proof.Machine.execCoalesceWindowEnd src s
  | .bbWrite => Sys2Proof.Machine.execBbWrite s
  | .bbScanDone => Sys2Proof.Machine.execBbScanDone s
  | .journalRdWrite r ost rd => Sys2Proof.Machine.execJournalRdWrite r ost rd s
  | .readerEnable r ost => Sys2Proof.Machine.execReaderEnable r ost s
  | .hostLinkUp width gen => Sys2Proof.Machine.execHostLinkUp width gen s
  | .hostLinkDown => Sys2Proof.Machine.execHostLinkDown s
  | .pmeTurnOff => Sys2Proof.Machine.execPmeTurnOff s
  | .flr f => Sys2Proof.Machine.execFlr f s
  | .qpTxPost r q tail => Sys2Proof.Machine.execQpTxPost r q tail s
  | .txDescriptor q w2 buffer => Sys2Proof.Machine.execTxDescriptor q w2 buffer s
  | .dmaError q tx => Sys2Proof.Machine.execDmaError q tx s
  | .svcWrite off ws bad => Sys2Proof.Machine.execSvcWrite off ws bad s
  | .svcRead off count bad => Sys2Proof.Machine.execSvcRead off count bad s
  | .svcFetch bad => Sys2Proof.Machine.execSvcFetch bad s
  | .svcStatus bad => Sys2Proof.Machine.execSvcStatus bad s
  | .svcWindow base bad => Sys2Proof.Machine.execSvcWindow base bad s
  | .svcMbox ws bad => Sys2Proof.Machine.execSvcMbox ws bad s
  | .mboxAnswer => Sys2Proof.Machine.execMboxAnswer s
  | .mboxTimeout => Sys2Proof.Machine.execMboxTimeout s
  | .svcCommandDone => Sys2Proof.Machine.execSvcCommandDone s
  | .aclkCalibration => Sys2Proof.Machine.execAclkCalibration s
  | .scanEnable => Sys2Proof.Machine.execScanEnable s
  | .linResponseEnd n data checksum framingErr break_ busNs => Sys2Proof.Machine.execLinResponseEnd n data checksum framingErr break_ busNs s
  | .rxJabber n => Sys2Proof.Machine.execRxJabber n s
  | .hostPost r t w0 w1 w2 w3 => Sys2Proof.Machine.execHostPost r t w0 w1 w2 w3 s
  | .sensorDeassert n => Sys2Proof.Machine.execSensorDeassert n s
  | .wakeLineHigh => Sys2Proof.Machine.execWakeLineHigh s
  | .lowPowerBiasActive n => Sys2Proof.Machine.execLowPowerBiasActive n s
  | .lowPowerBiasIdle n => Sys2Proof.Machine.execLowPowerBiasIdle n s
  | .vioLow => Sys2Proof.Machine.execVioLow s
  | .vioRestored => Sys2Proof.Machine.execVioRestored s

end Sys2Proof.Machine
end

