-- ==== Sys2Proof/Safety.lean ====
section
/-!
DEFINITION. What counts as a safe state and a safe run of the block, and the vocabulary that statements use: a command
that completes, and what an instruction of a Courser leaves.
-/

namespace Sys2Proof.Machine

/-! ### Safe states and runs -/

/-- Every byte memory and the register map in canonical form: keys strictly rising, and nothing listed that an unlisted
key reads as. -/
def State.memOk (s : State) : Bool :=
  memWf s.aper && memWf s.aperImage && memWf s.mram && memWf s.hobA && memWf s.hobB && memWf s.teams.dmem && memWf s.super.ram &&
    sparseWf resetValue s.regs

/-- `k` steps go on from `s` to `t`. -/
inductive Reaches : Nat → State → State → Prop where
  | refl (s : State) : Reaches 0 s s
  | step {k : Nat} {s t u : State} (h : step s = .next t) (r : Reaches k t u) : Reaches (k + 1) s u

/-- No run from `s` stops. -/
def NeverStops (s : State) : Prop := ∀ k, ∃ t, Reaches k s t

/-- The command answers a next state, of which `P` holds. -/
def Completes (c : Instr) (s : State) (P : State → Prop) : Prop := ∃ t, exec c s = .next t ∧ P t

/-! ### Instructions of a Courser (R279) -/

/-- Courser k issues an instruction now, and it is the word w. -/
def State.Issues (s : State) (k w : Nat) : Prop := s.crsIssues k = true ∧ s.imemAt k (s.crs k).pc = w

/-- A word in format A. -/
def formA (op rd rs1 rs2 func : Nat) : Nat := op * 2 ^ 26 + rd * 2 ^ 21 + rs1 * 2 ^ 16 + rs2 * 2 ^ 11 + func

/-- A word in format I or B. -/
def formI (op rd rs1 : Nat) (imm : BitVec 16) : Nat := op * 2 ^ 26 + rd * 2 ^ 21 + rs1 * 2 ^ 16 + imm.toNat

/-- A word in format J. -/
def formJ (op rd : Nat) (off : BitVec 21) : Nat := op * 2 ^ 26 + rd * 2 ^ 21 + off.toNat

/-- A word in format X. -/
def formX (op rd rs1 lenM1 sgn be pos : Nat) : Nat :=
  op * 2 ^ 26 + rd * 2 ^ 21 + rs1 * 2 ^ 16 + lenM1 * 2 ^ 11 + sgn * 2 ^ 10 + be * 2 ^ 9 + pos

/-- The general registers of Courser k with register rd written: g0 ignores the write. -/
def State.gregWith (s : State) (k rd : Nat) (v : Word) (r : Nat) : Word :=
  if r = rd ∧ rd ≠ 0 then v else s.greg k r

/-- What an instruction of Courser k leaves that goes to word address `pc` after `cycles` cycles with general registers `g`:
no other Courser, no register of the register map but the busy count, and nothing else changes but what the statement says of data
memory and of the cipher jobs. -/
structure CourserRan (s t : State) (k pc cycles : Nat) (g : Nat → Word) : Prop where
  courser : t.crs k = { s.crs k with pc := pc, missed := false, published := 0 }
  gregs : ∀ r, r < 32 → t.greg k r = g r
  others : ∀ j r, j ≠ k → r < 32 → t.crs j = s.crs j ∧ t.greg j r = s.greg j r
  busy : t.reg (CRS_CBUSY (k / 8) (k % 8)) = word (min ((s.reg (CRS_CBUSY (k / 8) (k % 8))).toNat + cycles) 0xFFFFFFFF)
  map : ∀ a, a ≠ CRS_CBUSY (k / 8) (k % 8) → t.reg a = s.reg a
  teams : { t.teams with gregs := s.teams.gregs, coursers := s.teams.coursers, dmem := s.teams.dmem } = s.teams
  rest : { t with regs := s.regs, teams := s.teams, cip := s.cip } = s

/-- The word address after that of Courser k's present instruction. -/
def State.pcNext (s : State) (k : Nat) : Nat := ((s.crs k).pc + 1) % 4096

/-- An exception halts Courser k at its instruction with this cause and value; no register and no memory of it changes. -/
structure CourserHalted (s t : State) (k cause : Nat) (val : Word) : Prop where
  halted : (t.crs k).run = .halted ∧ (t.crs k).pc = (s.crs k).pc
  valid : t.fget (CRS_CEXC_valid (k / 8) (k % 8)) = 1
  cause : t.fget (CRS_CEXC_cause (k / 8) (k % 8)) = cause
  pc : t.fget (CRS_CEXC_pc (k / 8) (k % 8)) = (s.crs k).pc % 4096
  value : t.reg (CRS_CEXC_VAL (k / 8) (k % 8)) = val
  gregs : t.teams.gregs = s.teams.gregs
  dmem : t.teams.dmem = s.teams.dmem

end Sys2Proof.Machine
end

