-- ==== Sys2Proof/Certificates/Slice0/Obligations.lean ====
section
/-!
DEFINITION. Statements for the provers, by the chapters of the specification.
-/

open Sys2Proof Sys2Proof.Machine

/-! ### Courser instructions (R271 to R293) -/

/-- Register arithmetic of R281: constructor, func, cycles and result. -/
def Sys2Proof.Machine.aluTable : List ((Nat → EccHit → Instr) × Nat × Nat × (Word → Word → Word)) :=
  [(.add, 0x001, 1, fun a b => a + b), (.sub, 0x002, 1, fun a b => a - b), (.and, 0x003, 1, fun a b => a &&& b),
    (.or, 0x004, 1, fun a b => a ||| b), (.xor, 0x005, 1, fun a b => a ^^^ b),
    (.sll, 0x006, 1, fun a b => a <<< (b.toNat % 32)), (.srl, 0x007, 1, fun a b => a >>> (b.toNat % 32)),
    (.sra, 0x008, 1, fun a b => a.sshiftRight (b.toNat % 32)), (.slt, 0x009, 1, fun a b => if a.slt b then 1 else 0),
    (.sltu, 0x00A, 1, fun a b => if a.ult b then 1 else 0), (.mul, 0x00B, 2, fun a b => a * b),
    (.mulh, 0x00C, 2, fun a b => (a.signExtend 64 * b.signExtend 64).extractLsb' 32 32)]

/-- Immediate arithmetic of R281: constructor, op, how the immediate is read, and result. -/
def Sys2Proof.Machine.immTable : List ((Nat → EccHit → Instr) × Nat × (BitVec 16 → Word) × (Word → Word → Word)) :=
  [(.addi, 0x01, fun i => i.signExtend 32, fun a b => a + b), (.andi, 0x02, fun i => i.zeroExtend 32, fun a b => a &&& b),
    (.ori, 0x03, fun i => i.zeroExtend 32, fun a b => a ||| b), (.xori, 0x04, fun i => i.zeroExtend 32, fun a b => a ^^^ b),
    (.slti, 0x05, fun i => i.signExtend 32, fun a b => if a.slt b then 1 else 0)]

/-- Shifts by an immediate of R281: constructor, op and result. -/
def Sys2Proof.Machine.shiftTable : List ((Nat → EccHit → Instr) × Nat × (Word → Nat → Word)) :=
  [(.slli, 0x06, fun a n => a <<< n), (.srli, 0x07, fun a n => a >>> n), (.srai, 0x08, fun a n => a.sshiftRight n)]

/-- ADD to MULH: an issued instruction writes the result of R281's table to rd, unless rd is g0, takes its cycles, and changes
nothing else; data memory is unchanged. ADDI to LUI: as the register forms, with imm16 sign-extended in ADDI and SLTI, zero-
extended in ANDI, ORI and XORI, and imm16[4:0] as shift amount; a shift whose imm16[15:5] is not 0 and a LUI whose rs1 is
not 0 raise ILLEGAL. -/
def Obligations.CourserArithmetic : Prop :=
  (∀ (s : State) (k rd rs1 rs2 : Nat) (ecc : EccHit), ecc ≠ .imem → rd < 32 → rs1 < 32 → rs2 < 32 →
     ∀ e ∈ aluTable, s.Issues k (formA 0 rd rs1 rs2 e.2.1) →
       Completes (e.1 k ecc) s fun t =>
         CourserRan s t k (s.pcNext k) e.2.2.1 (s.gregWith k rd (e.2.2.2 (s.greg k rs1) (s.greg k rs2))) ∧
         t.teams.dmem = s.teams.dmem) ∧
  (∀ (s : State) (k rd rs1 : Nat) (imm : BitVec 16) (ecc : EccHit), ecc ≠ .imem → rd < 32 → rs1 < 32 →
     (∀ e ∈ immTable, s.Issues k (formI e.2.1 rd rs1 imm) →
       Completes (e.1 k ecc) s fun t =>
         CourserRan s t k (s.pcNext k) 1 (s.gregWith k rd (e.2.2.2 (s.greg k rs1) (e.2.2.1 imm))) ∧
         t.teams.dmem = s.teams.dmem) ∧
     (∀ e ∈ shiftTable, s.Issues k (formI e.2.1 rd rs1 imm) →
       (imm.toNat < 32 → Completes (e.1 k ecc) s fun t =>
         CourserRan s t k (s.pcNext k) 1 (s.gregWith k rd (e.2.2 (s.greg k rs1) imm.toNat)) ∧ t.teams.dmem = s.teams.dmem) ∧
       (32 ≤ imm.toNat → Completes (e.1 k ecc) s fun t => CourserHalted s t k 1 (word (formI e.2.1 rd rs1 imm)))) ∧
     (s.Issues k (formI 0x09 rd rs1 imm) →
       (rs1 = 0 → Completes (.lui k ecc) s fun t =>
         CourserRan s t k (s.pcNext k) 1 (s.gregWith k rd (imm.zeroExtend 32 <<< 16)) ∧ t.teams.dmem = s.teams.dmem) ∧
       (rs1 ≠ 0 → Completes (.lui k ecc) s fun t => CourserHalted s t k 1 (word (formI 0x09 rd rs1 imm)))))

/-- The data address of a load or store. -/
def Sys2Proof.Machine.State.loadAddr (s : State) (k rs1 : Nat) (imm : BitVec 16) : Nat := (s.greg k rs1 + imm.signExtend 32).toNat

/-- Loads of R281: constructor, op, bytes, and how they make the word. -/
def Sys2Proof.Machine.loadTable : List ((Nat → EccHit → Instr) × Nat × Nat × (Nat → Word)) :=
  [(.lw, 0x10, 4, fun v => BitVec.ofNat 32 v), (.lh, 0x11, 2, fun v => (BitVec.ofNat 16 v).signExtend 32),
    (.lhu, 0x12, 2, fun v => BitVec.ofNat 32 v), (.lb, 0x13, 1, fun v => (BitVec.ofNat 8 v).signExtend 32),
    (.lbu, 0x14, 1, fun v => BitVec.ofNat 32 v)]

/-- Stores of R281: constructor, op, bytes. -/
def Sys2Proof.Machine.storeTable : List ((Nat → EccHit → Instr) × Nat × Nat) := [(.sw, 0x15, 4), (.sh, 0x16, 2), (.sb, 0x17, 1)]

/-- LW, LH, LHU, LB, LBU: an aligned address inside data memory gives its little-endian bytes, extended, in rd; an unaligned
one raises ALIGN, one outside data memory DMEM_RANGE, and an uncorrectable error ECC, each with the address. SW, SH, SB:
the low bytes of rd stand little-endian at an aligned address inside data memory; every other byte of every Courser's data
memory and every general register stay as they were. Other addresses raise ALIGN or DMEM_RANGE. Where the specification
leaves room, it follows the model's own reading in log entries 75, 76 and 81. -/
def Obligations.CourserLoadsAndStores : Prop :=
  (∀ (s : State) (k rd rs1 : Nat) (imm : BitVec 16) (ecc : EccHit), ecc ≠ .imem → rd < 32 → rs1 < 32 →
     ∀ e ∈ loadTable, s.Issues k (formI e.2.1 rd rs1 imm) →
       (s.loadAddr k rs1 imm % e.2.2.1 = 0 → s.loadAddr k rs1 imm < 32768 → ecc ≠ .dmem →
         Completes (e.1 k ecc) s fun t =>
           CourserRan s t k (s.pcNext k) 2
             (s.gregWith k rd (e.2.2.2 (leNat (s.dmemRead k (s.loadAddr k rs1 imm) e.2.2.1)))) ∧
           t.teams.dmem = s.teams.dmem) ∧
       (s.loadAddr k rs1 imm % e.2.2.1 ≠ 0 →
         Completes (e.1 k ecc) s fun t => CourserHalted s t k 3 (s.greg k rs1 + imm.signExtend 32)) ∧
       (s.loadAddr k rs1 imm % e.2.2.1 = 0 → 32768 ≤ s.loadAddr k rs1 imm →
         Completes (e.1 k ecc) s fun t => CourserHalted s t k 4 (s.greg k rs1 + imm.signExtend 32)) ∧
       (s.loadAddr k rs1 imm % e.2.2.1 = 0 → s.loadAddr k rs1 imm < 32768 → ecc = .dmem →
         Completes (e.1 k ecc) s fun t => CourserHalted s t k 8 (s.greg k rs1 + imm.signExtend 32))) ∧
  (∀ (s : State) (k rd rs1 : Nat) (imm : BitVec 16) (ecc : EccHit), ecc ≠ .imem → rd < 32 → rs1 < 32 →
     ∀ e ∈ storeTable, s.Issues k (formI e.2.1 rd rs1 imm) →
       (s.loadAddr k rs1 imm % e.2.2 = 0 → s.loadAddr k rs1 imm < 32768 →
         Completes (e.1 k ecc) s fun t =>
           CourserRan s t k (s.pcNext k) 2 (s.greg k) ∧
           (∀ i, i < e.2.2 → memGet t.teams.dmem (32768 * k + s.loadAddr k rs1 imm + i) = (s.greg k rd).extractLsb' (8 * i) 8) ∧
           (∀ a, a < 32768 * k + s.loadAddr k rs1 imm ∨ 32768 * k + s.loadAddr k rs1 imm + e.2.2 ≤ a →
             memGet t.teams.dmem a = memGet s.teams.dmem a)) ∧
       (s.loadAddr k rs1 imm % e.2.2 ≠ 0 →
         Completes (e.1 k ecc) s fun t => CourserHalted s t k 3 (s.greg k rs1 + imm.signExtend 32)) ∧
       (s.loadAddr k rs1 imm % e.2.2 = 0 → 32768 ≤ s.loadAddr k rs1 imm →
         Completes (e.1 k ecc) s fun t => CourserHalted s t k 4 (s.greg k rs1 + imm.signExtend 32)))

/-- Branches of R281: constructor, op and condition. -/
def Sys2Proof.Machine.branchTable : List ((Nat → EccHit → Instr) × Nat × (Word → Word → Bool)) :=
  [(.beq, 0x18, fun a b => a == b), (.bne, 0x19, fun a b => a != b), (.blt, 0x1A, fun a b => a.slt b),
    (.bge, 0x1B, fun a b => !a.slt b), (.bltu, 0x1C, fun a b => a.ult b), (.bgeu, 0x1D, fun a b => !a.ult b)]

/-- A word address in instruction memory. -/
def Sys2Proof.Machine.inImem (i : Int) : Prop := 0 ≤ i ∧ i < 4096

/-- BEQ to BGEU, JAL and JALR: a branch that is taken, and a jump, goes to its target in instruction memory in 2 cycles, a
branch not taken to the next word in 1; JAL and JALR write PC + 1 to rd; a target outside raises IMEM_RANGE. Where the
specification leaves room, it follows the model's own reading in log entry 76. -/
def Obligations.CourserBranchesAndJumps : Prop :=
  ∀ (s : State) (k ra rb : Nat) (off : BitVec 16) (far : BitVec 21) (ecc : EccHit), ecc ≠ .imem → ra < 32 → rb < 32 →
    (∀ e ∈ branchTable, s.Issues k (formI e.2.1 ra rb off) →
      (e.2.2 (s.greg k ra) (s.greg k rb) = false →
        Completes (e.1 k ecc) s fun t => CourserRan s t k (s.pcNext k) 1 (s.greg k)) ∧
      (e.2.2 (s.greg k ra) (s.greg k rb) = true → inImem ((s.crs k).pc + 1 + off.toInt) →
        Completes (e.1 k ecc) s fun t => CourserRan s t k ((s.crs k).pc + 1 + off.toInt).toNat 2 (s.greg k)) ∧
      (e.2.2 (s.greg k ra) (s.greg k rb) = true → ¬inImem ((s.crs k).pc + 1 + off.toInt) →
        Completes (e.1 k ecc) s fun t => ∃ v, CourserHalted s t k 2 v)) ∧
    (s.Issues k (formJ 0x1E ra far) →
      (inImem ((s.crs k).pc + 1 + far.toInt) → Completes (.jal k ecc) s fun t =>
        CourserRan s t k ((s.crs k).pc + 1 + far.toInt).toNat 2 (s.gregWith k ra (word ((s.crs k).pc + 1)))) ∧
      (¬inImem ((s.crs k).pc + 1 + far.toInt) →
        Completes (.jal k ecc) s fun t => ∃ v, CourserHalted s t k 2 v)) ∧
    (s.Issues k (formI 0x1F ra rb off) →
      (s.loadAddr k rb off < 4096 → Completes (.jalr k ecc) s fun t =>
        CourserRan s t k (s.loadAddr k rb off) 2 (s.gregWith k ra (word ((s.crs k).pc + 1)))) ∧
      (4096 ≤ s.loadAddr k rb off →
        Completes (.jalr k ecc) s fun t => ∃ v, CourserHalted s t k 2 v))

/-- A bit position of a field counted from byte `base` of Courser k's data memory: its address in the memories of all
Coursers. -/
def Sys2Proof.Machine.fieldByte (k base : Nat) (p : Int) : Nat := 32768 * k + (base + p / 8).toNat

/-- A bit of a byte memory. -/
def Sys2Proof.Machine.memBit (m : List Host.Cell) (a i : Nat) : Bool := (memGet m a).getLsbD i

/-- The positions of R282's loop lie in data memory. -/
def Sys2Proof.Machine.fieldInside (base : Nat) (ps : List Int) : Prop := ∀ p ∈ ps, 0 ≤ (base : Int) + p / 8 ∧ (base : Int) + p / 8 < 32768

/-- The word v is the field at positions ps, zero-extended, or sign-extended from its top bit. -/
def Sys2Proof.Machine.fieldIs (s : State) (k base : Nat) (ps : List Int) (sgn : Bool) (v : Word) : Prop :=
  ∀ j, j < 32 → v.getLsbD j =
    match ps[j]? with
    | some p => memBit s.teams.dmem (fieldByte k base p) (p % 8).toNat
    | none => sgn && (ps.getLast?.any fun p => memBit s.teams.dmem (fieldByte k base p) (p % 8).toNat)

/-- The field at positions ps holds the low bits of v in t, and every other bit of memory is as in s. -/
def Sys2Proof.Machine.fieldWritten (s t : State) (k base : Nat) (ps : List Int) (v : Word) : Prop :=
  (∀ j p, ps[j]? = some p → memBit t.teams.dmem (fieldByte k base p) (p % 8).toNat = v.getLsbD j) ∧
  (∀ a i, i < 8 → (∀ p ∈ ps, ¬(a = fieldByte k base p ∧ i = (p % 8).toNat)) →
    memBit t.teams.dmem a i = memBit s.teams.dmem a i)

/-- BFX, BFXR, BFI, BFIR (R282): a field whose every byte lies in data memory is extracted into rd, or takes the low bits of
rd and leaves every other bit of data memory; a field from a base address below 2^31 that runs below byte 0 or beyond
0x7FFF raises DMEM_RANGE. CRCB, CRCW and SCALE (R283): the CRC state of rs1 advanced over the low byte, or over the four
bytes, of rs2 by polynomial i of the Team; and ((raw × mul) >> shift) + add, exact, saturated to 32 bits when func[6] is
set. Where the specification leaves room, it follows the model's own reading in log entry 77. -/
def Obligations.CourserFieldsAndScaling : Prop :=
  (∀ (s : State) (k rd rs1 rs2 lenM1 sgn be pos : Nat) (ecc : EccHit), ecc ≠ .imem → ecc ≠ .dmem → rd < 32 → rs1 < 32 →
     rs2 < 32 → lenM1 < 32 → sgn < 2 → be < 2 → pos < 512 →
     (s.Issues k (formX 0x20 rd rs1 lenM1 sgn be pos) →
       (fieldInside (s.greg k rs1).toNat (bitWalk (be == 1) (lenM1 + 1) pos) → Completes (.bfx k ecc) s fun t =>
         t.teams.dmem = s.teams.dmem ∧ ∃ v, CourserRan s t k (s.pcNext k) 2 (s.gregWith k rd v) ∧
           fieldIs s k (s.greg k rs1).toNat (bitWalk (be == 1) (lenM1 + 1) pos) (sgn == 1) v) ∧
       ((s.greg k rs1).toNat < 2 ^ 31 → ¬fieldInside (s.greg k rs1).toNat (bitWalk (be == 1) (lenM1 + 1) pos) →
         Completes (.bfx k ecc) s fun t => ∃ a, CourserHalted s t k 4 a)) ∧
     (s.Issues k (formX 0x21 rd rs1 lenM1 0 be pos) →
       (fieldInside (s.greg k rs1).toNat (bitWalk (be == 1) (lenM1 + 1) pos) → Completes (.bfi k ecc) s fun t =>
         CourserRan s t k (s.pcNext k) 3 (s.greg k) ∧
           fieldWritten s t k (s.greg k rs1).toNat (bitWalk (be == 1) (lenM1 + 1) pos) (s.greg k rd)) ∧
       ((s.greg k rs1).toNat < 2 ^ 31 → ¬fieldInside (s.greg k rs1).toNat (bitWalk (be == 1) (lenM1 + 1) pos) →
         Completes (.bfi k ecc) s fun t => ∃ a, CourserHalted s t k 4 a)) ∧
     (s.Issues k (formA 0x22 rd rs1 rs2 (lenM1 * 64 + sgn * 32 + be * 16)) →
       fieldInside (s.greg k rs1).toNat (bitWalk (be == 1) (lenM1 + 1) ((s.greg k rs2).toNat % 4096 : Nat)) →
       Completes (.bfxr k ecc) s fun t =>
         t.teams.dmem = s.teams.dmem ∧ ∃ v, CourserRan s t k (s.pcNext k) 2 (s.gregWith k rd v) ∧
           fieldIs s k (s.greg k rs1).toNat (bitWalk (be == 1) (lenM1 + 1) ((s.greg k rs2).toNat % 4096 : Nat)) (sgn == 1) v) ∧
     (∀ c ∈ [(Instr.bfxr, 0x22, sgn), (.bfir, 0x23, 0)],
       s.Issues k (formA c.2.1 rd rs1 rs2 (lenM1 * 64 + c.2.2 * 32 + be * 16)) → (s.greg k rs1).toNat < 2 ^ 31 →
       ¬fieldInside (s.greg k rs1).toNat (bitWalk (be == 1) (lenM1 + 1) ((s.greg k rs2).toNat % 4096 : Nat)) →
       Completes (c.1 k ecc) s fun t => ∃ a, CourserHalted s t k 4 a) ∧
     (s.Issues k (formA 0x23 rd rs1 rs2 (lenM1 * 64 + be * 16)) →
       fieldInside (s.greg k rs1).toNat (bitWalk (be == 1) (lenM1 + 1) ((s.greg k rs2).toNat % 4096 : Nat)) →
       Completes (.bfir k ecc) s fun t =>
         CourserRan s t k (s.pcNext k) 3 (s.greg k) ∧
           fieldWritten s t k (s.greg k rs1).toNat (bitWalk (be == 1) (lenM1 + 1) ((s.greg k rs2).toNat % 4096 : Nat))
             (s.greg k rd))) ∧
  (∀ (s : State) (k rd rs1 rs2 : Nat) (ecc : EccHit), ecc ≠ .imem → rd < 32 → rs1 < 32 → rs2 < 32 →
     (∀ i, i < 4 → s.Issues k (formA 0x24 rd rs1 rs2 i) → Completes (.crcb k ecc) s fun t =>
       CourserRan s t k (s.pcNext k) 1
         (s.gregWith k rd (s.crcOp k i (s.greg k rs1) [(s.greg k rs2).toNat % 256])) ∧ t.teams.dmem = s.teams.dmem) ∧
     (∀ i, i < 4 → s.Issues k (formA 0x25 rd rs1 rs2 i) → Completes (.crcw k ecc) s fun t =>
       CourserRan s t k (s.pcNext k) 2
         (s.gregWith k rd (s.crcOp k i (s.greg k rs1) [(s.greg k rs2).toNat % 256, (s.greg k rs2).toNat / 256 % 256,
           (s.greg k rs2).toNat / 65536 % 256, (s.greg k rs2).toNat / 16777216])) ∧ t.teams.dmem = s.teams.dmem) ∧
     (∀ shift sgn sat, shift < 32 → sgn < 2 → sat < 2 → rs2 ≤ 30 →
       s.Issues k (formA 0x26 rd rs1 rs2 (sat * 64 + sgn * 32 + shift)) → Completes (.scale k ecc) s fun t =>
         ∃ x : Int, x = (if sgn = 1 then (s.greg k rs1).toInt else (s.greg k rs1).toNat) * (s.greg k rs2).toInt / 2 ^ shift +
             (s.greg k (rs2 + 1)).toInt ∧
           CourserRan s t k (s.pcNext k) 2 (s.gregWith k rd (BitVec.ofInt 32
             (if sat = 1 then max (-2 ^ 31) (min (2 ^ 31 - 1) x) else x))) ∧ t.teams.dmem = s.teams.dmem))

/-- The slot that a slot instruction of format I names. -/
def Sys2Proof.Machine.State.slotOf (s : State) (k rs1 : Nat) (imm : BitVec 16) : Nat := s.loadAddr k rs1 imm

/-- SLD and SST on a line that the Team holds (R284): SLD writes value and version to three registers; SST on a line in M,
listed already or with room in the dirty list, stores the value and the next version, and the slot is listed. SSTC on a
line that the Team holds in M (R284): with the version that it names it stores the value and the next version, and writes
that to rd; with another it stores nothing and writes the line's version to rd, with bit 31 set. Where the specification
leaves room, it follows the model's own reading in log entries 81 and 82. -/
def Obligations.CourserSlotInstructions : Prop :=
  (∀ (s : State) (k rd rs1 : Nat) (imm : BitVec 16) (ecc : EccHit) (x : Line), ecc = .none → rs1 < 32 →
     s.slotOf k rs1 imm < 262144 → s.slotCause k (s.slotOf k rs1 imm) = 0 →
     s.line (k / 8) (s.slotOf k rs1 imm) = some x →
     (s.Issues k (formI 0x2C rd rs1 imm) → rd ≤ 29 → Completes (.sld k ecc) s fun t =>
       (∀ r, r < 32 → t.greg k r =
         if r = 0 then 0 else if r = rd then word x.value else if r = rd + 1 then word (x.value / 2 ^ 32)
         else if r = rd + 2 then word x.version else s.greg k r) ∧
       (t.crs k).pc = s.pcNext k ∧ t.line (k / 8) (s.slotOf k rs1 imm) = some x ∧ t.teams.dmem = s.teams.dmem) ∧
     (s.Issues k (formI 0x2D rd rs1 imm) → rd ≤ 30 → x.modified = true →
       ((s.crs k).dirty.contains (s.slotOf k rs1 imm) = true ∨ (s.crs k).dirty.length < 16) →
       Completes (.sst k ecc) s fun t =>
         t.line (k / 8) (s.slotOf k rs1 imm) =
           some { x with value := (s.greg k rd).toNat + (s.greg k (rd + 1)).toNat * 2 ^ 32, version := (x.version + 1) % 65536 } ∧
         (t.crs k).dirty.contains (s.slotOf k rs1 imm) = true ∧ (t.crs k).pc = s.pcNext k ∧
         t.teams.gregs = s.teams.gregs ∧ t.teams.dmem = s.teams.dmem)) ∧
  (∀ (s : State) (k rd rs1 rs2 : Nat) (x : Line), rd < 32 → rs1 < 32 → rs2 ≤ 30 →
     s.Issues k (formA 0x2E rd rs1 rs2 0) → (s.greg k rs1).toNat < 262144 → s.slotCause k (s.greg k rs1).toNat = 0 →
     s.line (k / 8) (s.greg k rs1).toNat = some x → x.modified = true →
     (x.version = (s.greg k rd).toNat % 65536 →
       ((s.crs k).dirty.contains (s.greg k rs1).toNat = true ∨ (s.crs k).dirty.length < 16) →
       Completes (.sstc k .none) s fun t =>
         t.line (k / 8) (s.greg k rs1).toNat =
           some { x with value := (s.greg k rs2).toNat + (s.greg k (rs2 + 1)).toNat * 2 ^ 32, version := (x.version + 1) % 65536 } ∧
         (∀ r, r < 32 → t.greg k r = s.gregWith k rd (word ((x.version + 1) % 65536)) r) ∧ (t.crs k).pc = s.pcNext k) ∧
     (x.version ≠ (s.greg k rd).toNat % 65536 →
       Completes (.sstc k .none) s fun t =>
         t.line (k / 8) (s.greg k rs1).toNat = some x ∧
         (∀ r, r < 32 → t.greg k r = s.gregWith k rd (word (x.version + 2 ^ 31)) r) ∧ (t.crs k).pc = s.pcNext k))

/-- SFL, YIELD, WAITE and WAITT with nothing to publish, RDT and EVR (R285, R286, R293): SFL takes its slot off the dirty list
and goes on, YIELD goes on; the waits suspend with their mask and, WAITT, its target; RDT writes the domain's time to two
registers; EVR writes its code. QGET and QPUT of the work queue, QGET of an empty receive queue, and CIPH (R285): the
oldest entry of the owner leaves the queue into four registers, an entry joins the target Team's queue, a job takes a
place, and rd takes the flag (1 for an entry, 0 for none) or status 0. Where the specification leaves room, it follows the
model's own reading in log entries 78 and 79. -/
def Obligations.CourserWaitsAndQueues : Prop :=
  (∀ (s : State) (k rd rs1 rs2 : Nat) (imm : BitVec 16), rd < 32 → rs1 < 32 → rs2 < 32 →
     (s.Issues k (formI 0x2F 0 rs1 imm) → s.slotOf k rs1 imm < 262144 → s.slotCause k (s.slotOf k rs1 imm) = 0 →
       s.line (k / 8) (s.slotOf k rs1 imm) = none → Completes (.sfl k .none) s fun t =>
         (t.crs k).pc = s.pcNext k ∧ (t.crs k).dirty = (s.crs k).dirty.filter (· != s.slotOf k rs1 imm) ∧
         t.teams.gregs = s.teams.gregs ∧ t.teams.dmem = s.teams.dmem) ∧
     (s.Issues k (0x35 * 2 ^ 26) → (s.crs k).dirty = [] → Completes (.yield k .none) s fun t =>
       (t.crs k).pc = s.pcNext k ∧ (t.crs k).run = .running ∧ t.teams.gregs = s.teams.gregs ∧ t.teams.dmem = s.teams.dmem) ∧
     (s.Issues k (formA 0x31 rd rs1 0 0) → (s.crs k).dirty = [] → (bitOf (s.greg k rs1).toNat 0 = true → rd ≤ 27) →
       Completes (.waite k .none) s fun t =>
         t.crs k = { s.crs k with
           run := .waiting, mask := (s.greg k rs1).toNat % 64, waitRd := rd, target := none, taken := 0 } ∧
         t.teams.gregs = s.teams.gregs ∧ t.teams.dmem = s.teams.dmem) ∧
     (∀ d, d < 4 → rs1 ≤ 30 → s.Issues k (formA 0x30 rd rs1 rs2 d) → (s.crs k).dirty = [] →
       (bitOf (s.greg k rs2).toNat 0 = true → rd ≤ 27) → Completes (.waitt k .none) s fun t =>
         t.crs k = { s.crs k with
           run := .waiting, mask := (s.greg k rs2).toNat % 64, waitRd := rd, taken := 0,
           target := some (d, (s.greg k rs1).toNat + (s.greg k (rs1 + 1)).toNat * 2 ^ 32) } ∧
         t.teams.gregs = s.teams.gregs ∧ t.teams.dmem = s.teams.dmem) ∧
     (∀ d, d < 4 → rd ≤ 30 → s.Issues k (formA 0x32 rd 0 0 d) → Completes (.rdt k .none) s fun t =>
       (∀ r, r < 32 → t.greg k r =
         if r = 0 then 0 else if r = rd then word (s.timeNs d) else if r = rd + 1 then word (s.timeNs d / 2 ^ 32)
         else s.greg k r) ∧ (t.crs k).pc = s.pcNext k ∧ t.teams.dmem = s.teams.dmem) ∧
     (s.Issues k (formI 0x33 0 0 imm) → Completes (.evr k .none) s fun t =>
       t.fget (CRS_CEVT_code (k / 8) (k % 8)) = imm.toNat ∧ (t.crs k).pc = s.pcNext k ∧
       t.teams.gregs = s.teams.gregs ∧ t.teams.dmem = s.teams.dmem)) ∧
  (∀ (s : State) (k rd rs1 rs2 : Nat), rd < 32 → rs1 < 32 → rs2 < 32 →
     (∀ e, rd ≤ 27 → s.Issues k (formA 0x28 rd 0 0 0) →
       ((s.workQ (k / 8)).find? fun x => x.owner == (s.crs k).owner) = some e → Completes (.qget k .none) s fun t =>
         t.workQ (k / 8) = (s.workQ (k / 8)).erase e ∧
         (rd ≠ 0 → t.greg k rd = 1) ∧ t.greg k (rd + 1) = word e.w0 ∧ t.greg k (rd + 2) = word e.w1 ∧
         t.greg k (rd + 3) = word e.w2 ∧ t.greg k (rd + 4) = word e.w3 ∧ (t.crs k).pc = s.pcNext k) ∧
     (∀ q, 1 ≤ q → q ≤ 2 → rd ≤ 30 → s.Issues k (formA 0x28 rd rs1 0 q) → (s.greg k rs1).toNat % 16 = 0 →
       s.fqHead (k / 8) (q - 1) (s.crs k).owner = none → Completes (.qget k .none) s fun t =>
         CourserRan s t k (s.pcNext k) 2 (s.gregWith k rd 0) ∧ t.teams.dmem = s.teams.dmem) ∧
     (s.Issues k (formA 0x29 rd rs1 rs2 0) → rs1 ≤ 28 → teamPresent s.variant ((s.greg k rs2).toNat % 16) = true →
       s.teamPowered ((s.greg k rs2).toNat % 16) = true → s.teamHas ((s.greg k rs2).toNat % 16) (s.crs k).owner = true →
       (s.workQ ((s.greg k rs2).toNat % 16)).length < 256 → Completes (.qput k .none) s fun t =>
         t.workQ ((s.greg k rs2).toNat % 16) = s.workQ ((s.greg k rs2).toNat % 16) ++
           [{ w0 := (s.greg k rs1).toNat % 2 ^ 28 + 3 * 2 ^ 28, w1 := (s.greg k (rs1 + 1)).toNat,
              w2 := (s.greg k (rs1 + 2)).toNat, w3 := (s.greg k (rs1 + 3)).toNat, owner := (s.crs k).owner }] ∧
         (∀ r, r < 32 → t.greg k r = s.gregWith k rd 0 r) ∧ (t.crs k).pc = s.pcNext k) ∧
     (s.Issues k (formA 0x34 rd rs1 0 0) → (s.greg k rs1).toNat % 64 = 0 → (s.greg k rs1).toNat < 32768 →
       s.teamJobs (k / 8) < 4 → Completes (.ciph k .none) s fun t =>
         t.cip.jobs = s.cip.jobs ++ [{ requester := 33 + k, owner := (s.crs k).owner, seq := s.cip.jobNext,
                                       desc := s.dmemRead k (s.greg k rs1).toNat 64 }] ∧
         CourserRan s t k (s.pcNext k) 2 (s.gregWith k rd 0) ∧ t.teams.dmem = s.teams.dmem))

/-- The Courser instructions. -/
def Sys2Proof.Machine.courserOps : List (Nat → EccHit → Instr) :=
  [.add, .sub, .and, .or, .xor, .sll, .srl, .sra, .slt, .sltu, .mul, .mulh, .addi, .andi, .ori, .xori, .slti, .slli, .srli,
    .srai, .lui, .lw, .lh, .lhu, .lb, .lbu, .sw, .sh, .sb, .beq, .bne, .blt, .bge, .bltu, .bgeu, .jal, .jalr, .bfx, .bfi,
    .bfxr, .bfir, .crcb, .crcw, .scale, .qget, .qput, .sld, .sst, .sstc, .sfl, .waitt, .waite, .rdt, .evr, .ciph, .yield]

/-- A word that names no instruction halts the Courser with ILLEGAL, and an error in instruction memory with ECC (R287),
whichever instruction the command says it issues. RUN_LIMIT, COURSER_HALT, COURSER_RESTART and COURSER_AUTO_RESTART (R287,
R288): the halts, with cause 9 and 11, leave the program counter and the general registers; a restart, of a Courser whose
owner is not torn down, begins at the entry address with the general registers at 0 and data memory kept. Where the
specification leaves room, it follows the model's own reading in log entry 74. -/
def Obligations.CourserExceptions : Prop :=
  (∀ (s : State) (k w : Nat), s.Issues k w → w < 2 ^ 32 → ∀ c ∈ courserOps,
     (opDefined w = false → Completes (c k .none) s fun t => CourserHalted s t k 1 (word w)) ∧
     Completes (c k .imem) s fun t => ∃ v, CourserHalted s t k 8 v) ∧
  (∀ (s : State) (k : Nat), k < 128 → s.crsPowered k = true →
     ((s.crs k).run = .running → (s.crs k).parked = false → s.fget (CRS_TEAM_CFG_run_limit (k / 8)) ≠ 0 →
       Completes (.runLimit k) s fun t => ∃ v, CourserHalted s t k 9 v) ∧
     (∀ r, s.privileged r = true → (s.crs k).run = .running ∨ (s.crs k).run = .waiting →
       Completes (.courserHalt r k) s fun t => ∃ v, CourserHalted s t k 11 v) ∧
     (∀ r, s.privileged r = true → (s.crs k).run = .halted → (s.crs k).named = true → (s.crs k).gone = false →
       Completes (.courserRestart r k) s fun t =>
         (t.crs k).run = .running ∧ (t.crs k).pc = (s.crs k).entry ∧ (∀ g, g < 32 → t.greg k g = 0) ∧
         t.teams.dmem = s.teams.dmem ∧ t.fget (CRS_CEXC_valid (k / 8) (k % 8)) = 0) ∧
     (s.isSet (CRS_TEAM_CFG_auto_restart (k / 8)) = true → (s.crs k).run = .halted → (s.crs k).named = true →
       (s.crs k).gone = false → Completes (.courserAutoRestart k) s fun t =>
         (t.crs k).run = .running ∧ (t.crs k).pc = (s.crs k).entry ∧ (∀ g, g < 32 → t.greg k g = 0) ∧
         t.teams.dmem = s.teams.dmem))

/-! ### The Signal Store (R289 to R297) -/

/-- GETS and GETM reach home with no other holder and no transaction (R291): home sends a line in S or M, and the directory
records it, where the request passes home's checks and the bank meets no error. PUTM, PUTS and PUTM_ACK (R290, R292,
R294): with no transaction on the slot, a PutM from a Team that the directory does not record in M is acknowledged and
discarded; one from the M holder, of a slot without emit routes, is written and acknowledged, and the Team holds S or
nothing; a PutS from a Team not recorded in M ends the Team's hold; an acknowledgement frees the eviction-buffer entry.
HWR and HRD of a slot that no Team holds (R290, R297, R316): a genuine write without emit routes leaves its value, the
next version and clear stale and subst marks; a read answers its requester, with 0 where the slot is not its owner's.
Where the specification leaves room, it follows the model's own reading in log entries 82 and 83. -/
def Obligations.HomeRequests : Prop :=
  (∀ (s : State) (tm slot : Nat) (q : SigReq), s.trans slot = none → s.homeCause q.owner slot = 0 → s.holders slot = [] →
     (s.teamReq .getS tm slot = some q → Completes (.gets tm slot .clean) s fun t =>
       t.holders slot = [(tm, false)] ∧ t.sig.reqs = s.sig.reqs.erase q ∧
       ∃ v w, t.sig.fills = s.sig.fills ++ [{ team := tm, courser := q.courser, line :=
         { slot := slot, owner := s.slotOwner slot, value := v, version := w, modified := false }, cause := 0 }]) ∧
     (s.teamReq .getM tm slot = some q → Completes (.getm tm slot .clean) s fun t =>
       t.holders slot = [(tm, true)] ∧ t.sig.reqs = s.sig.reqs.erase q ∧
       ∃ v w, t.sig.fills = s.sig.fills ++ [{ team := tm, courser := q.courser, line :=
         { slot := slot, owner := s.slotOwner slot, value := v, version := w, modified := true }, cause := 0 }])) ∧
  (∀ (s : State) (tm slot : Nat) (q : SigReq),
     (s.teamReq .putM tm slot = some q → s.trans slot = none → s.holdsM slot tm = false →
       Completes (.putm tm slot) s fun t =>
         t.sig.putAcks = s.sig.putAcks ++ [(tm, slot)] ∧ t.aper = s.aper ∧ t.holders slot = s.holders slot) ∧
     (s.teamReq .putM tm slot = some q → s.trans slot = none → s.holdsM slot tm = true → (s.slot slot).emitCount = 0 →
       Completes (.putm tm slot) s fun t =>
         t.sig.putAcks = s.sig.putAcks ++ [(tm, slot)] ∧ (t.slot slot).value = q.value % 2 ^ 64 ∧
         (t.slot slot).version = q.version % 2 ^ 16 ∧ (t.slot slot).stale = false ∧
         t.holders slot = ((s.holders slot).filter fun h => h.1 != tm) ++ (if q.keep then [(tm, false)] else [])) ∧
     (s.teamReq .putS tm slot = some q → s.holdsM slot tm = false → Completes (.puts tm slot) s fun t =>
       t.holders slot = (s.holders slot).filter (fun h => h.1 != tm) ∧ t.sig.reqs = s.sig.reqs.erase q) ∧
     (s.sig.putAcks.contains (tm, slot) = true → Completes (.putmAck tm slot) s fun t =>
       t.evictBuf tm = (s.evictBuf tm).filter (fun e => e.slot != slot) ∧ t.sig.putAcks = s.sig.putAcks.erase (tm, slot))) ∧
  (∀ (s : State) (slot : Nat), slot < 262144 → s.trans slot = none → s.holders slot = [] →
     (∀ q, s.sig.reqs.find? (fun q => q.kind == .hWr && q.slot == slot) = some q → q.subst = false → q.meta_ = none →
       (s.owner (s.slotOwner slot)).keyValid = true → (s.slot slot).emitCount = 0 → Completes (.hwr slot) s fun t =>
         (t.slot slot).value = q.value % 2 ^ 64 ∧ (t.slot slot).version = ((s.slot slot).version + 1) % 65536 ∧
         (t.slot slot).stale = false ∧ (t.slot slot).subst = false ∧ t.sig.reqs = s.sig.reqs.erase q) ∧
     (∀ r w, (s.ownerOf r).isSome = true → s.sig.reqs.find? (fun q => q.kind == .hRd && q.slot == slot) = none →
       Completes (.hrd r slot { w := w }) s fun t =>
         (∃ v, t.out.head? = some (.read r v) ∧ (s.mayUse r (s.slotOwner slot) = false → v = 0)) ∧ t.aper = s.aper))

/-- FETCH, FETCHINV and INV at a Team with no line of the slot on its way (R292): a line in M answers Data and goes to S on
Fetch and to I on FetchInv; a line in S answers Ack and goes to I on Inv; a Team without the line answers Absent.
SNOOP_DATA, SNOOP_ACK and SNOOP_ABSENT that leave other answers outstanding (R291, R294): the transaction goes on without
this Team; a second copy of the Team's data is discarded. Where the specification leaves room, it follows the model's own
reading in log entry 82. -/
def Obligations.Snoops : Prop :=
  (∀ (s : State) (tm slot : Nat) (l : Line), tm < 16 → s.inEvict tm slot = none →
     (s.sig.fills.any fun f => f.team == tm && f.line.slot == slot) = false → s.line tm slot = some l →
     (s.sig.snoops.contains { kind := .fetch, team := tm, slot := slot } = true → l.modified = true →
       Completes (.fetch tm slot) s fun t =>
         t.sig.answers = s.sig.answers ++ [{ team := tm, slot := slot, data := some (l.value, l.version), keeps := true }] ∧
         t.line tm slot = some { l with modified := false }) ∧
     (s.sig.snoops.contains { kind := .fetchInv, team := tm, slot := slot } = true → l.modified = true →
       Completes (.fetchinv tm slot) s fun t =>
         t.sig.answers = s.sig.answers ++ [{ team := tm, slot := slot, data := some (l.value, l.version) }] ∧
         t.line tm slot = none) ∧
     (s.sig.snoops.contains { kind := .inv, team := tm, slot := slot } = true → l.modified = false →
       Completes (.inv tm slot) s fun t =>
         t.sig.answers = s.sig.answers ++ [{ team := tm, slot := slot }] ∧ t.line tm slot = none)) ∧
  (∀ (s : State) (tm slot : Nat) (a : SnoopAnswer) (x : SigTrans), a.team = tm → a.slot = slot → s.trans slot = some x →
     x.waits.filter (· != tm) ≠ [] →
     (s.answerOf tm slot (fun a => a.data.isSome) = some (a, x) → x.got.contains tm = true →
       Completes (.snoopData tm slot) s fun t =>
         t.trans slot = some { x with waits := x.waits.filter (· != tm) } ∧ t.aper = s.aper ∧
         t.sig.answers = s.sig.answers.erase a) ∧
     (s.answerOf tm slot (fun a => a.data.isNone && !a.absent) = some (a, x) →
       Completes (.snoopAck tm slot) s fun t =>
         t.trans slot = some { x with waits := x.waits.filter (· != tm) } ∧ t.aper = s.aper ∧
         t.sig.answers = s.sig.answers.erase a) ∧
     (s.answerOf tm slot (fun a => a.absent) = some (a, x) →
       Completes (.snoopAbsent tm slot) s fun t =>
         t.trans slot = some { x with waits := x.waits.filter (· != tm) } ∧ t.aper = s.aper ∧
         t.sig.answers = s.sig.answers.erase a))

/-- HOST_POST, TEAM_FRAME_ARRIVAL, DOORBELL_RING and COURSER_RESUME (R275, R278, R286): a post joins the Team's queue with the
poster's owner and kind 2; a frame of an owner that the Team has becomes available to QGET; a ring sets the DOOR bits; a
waiting Courser with DOOR in its mask and no cause but its ring goes on with that in rd, and the ring ends. LINE_FILL,
SIG_SCRUB_READ and DIR_REBUILD_DONE (R291, R296): a line that no instruction waits for enters the Team cache, the scrubber
moves to the next slot, and a Team's rebuild ends. Where the specification leaves room, it follows the model's own reading
in log entries 79, 82 and 84. -/
def Obligations.TeamArrivalsAndStoreUpkeep : Prop :=
  (∀ (s : State) (r : Requester) (tm : Nat), tm < 16 → teamPresent s.variant tm = true →
     (∀ w0 w1 w2 w3 o, s.ownerOf r = some o → s.teamPowered tm = true → s.teamHas tm o = true → (s.workQ tm).length < 256 →
       Completes (.hostPost r tm w0 w1 w2 w3) s fun t =>
         t.workQ tm = s.workQ tm ++ [{ w0 := w0.toNat % 2 ^ 28 + 2 ^ 29, w1 := w1.toNat, w2 := w2.toNat, w3 := w3.toNat,
                                       owner := o }] ∧ t.out.head? = some (.read r 0)) ∧
     (∀ c f rest, c < 8 → s.egressQ (8 * (64 + tm) + c) = f :: rest → f.arrived = false → f.bytes.length ≤ 2048 →
       s.teamHas tm f.owner = true → Completes (.teamFrameArrival tm c) s fun t =>
         t.egressQ (8 * (64 + tm) + c) = { f with arrived := true } :: rest) ∧
     (∀ v : Word, s.privileged r = true → Completes (.doorbellRing r tm v) s fun t =>
       t.reg (CRS_DOORBELL tm) = s.reg (CRS_DOORBELL tm) ||| (v &&& 0xFF)) ∧
     (∀ c, c < 8 → s.crsPowered (8 * tm + c) = true → (s.crs (8 * tm + c)).run = .waiting →
       s.causes (8 * tm + c) = 16 → bitOf (s.crs (8 * tm + c)).mask 4 = true → s.teamStopped tm = false → look (fun _ => false) s.teams.rebuilding tm = false →
       (s.crs (8 * tm + c)).waitRd ≠ 0 → (s.crs (8 * tm + c)).waitRd < 32 →
       Completes (.courserResume (8 * tm + c)) s fun t =>
         (t.crs (8 * tm + c)).run = .running ∧ t.greg (8 * tm + c) (s.crs (8 * tm + c)).waitRd = 16 ∧
         bitOf (t.fget (CRS_DOORBELL_ring tm)) c = false)) ∧
  (∀ s : State,
     (∀ f : Fill, s.sig.fills.find? (fun g => g.team == f.team && g.line.slot == f.line.slot) = some f → f.cause = 0 →
       (s.crs (8 * f.team + f.courser)).miss = none → ∀ n, Completes (.lineFill f.team f.line.slot n) s fun t =>
         t.line f.team f.line.slot = some f.line ∧ t.sig.fills = s.sig.fills.erase f) ∧
     (s.cinched = true → s.fget SIG_SCRUB_period ≠ 0 → ∀ hit, hit = .clean ∨ hit = .single ∨ hit = .double →
       Completes (.sigScrubRead hit) s fun t => t.sig.scrub = (s.sig.scrub + 1) % 262144) ∧
     (∀ tm, Completes (.dirRebuildDone tm) s fun t =>
       look (fun _ => false) t.teams.rebuilding tm = false ∧ t.teams.coursers = s.teams.coursers))

/-! ### Start-up, NVM, Farrier and die links (R19 to R27, R63 to R92) -/

/-- IMAGE_LOAD, LANE_ENABLE, ROUTING_READY and SRAM_CLEAR_DONE (R57, R60, R74, R81, R82, R272): an image that loads is cinched
in state 2 with its digest pending, and one that fails leaves state 1, no frame and an invalid record for the clear;
LANE_ENABLE enables the controller of every lane present whose kind is not 0, and the MAC of every port present whose
speed is not 0; ROUTING_READY starts the gateway's millisecond count and every idle Courser that a block names, in a
powered Team, at its entry address; the clear releases the cinch and leaves no frame, owner, key or table entry, and the
other slot's load is next where its record is valid and was not the fallback, else the device settles. DIGEST_VERDICT
(R76, R80, R81): with no held WAKE request, when the digest of the image in MRAM equals those of its header and of the
slot record, hash becomes 1, boot_done sets and the device stays cinched; when it differs from the header's, or from the
record's, hash becomes 2 and state 3, the slot's record invalid, and no frame is left. Where the specification leaves
room, it follows the model's own reading in log entries 8, 17, 18, 19, 22 and 24. -/
def Obligations.LoadAndVerdict : Prop :=
  (∀ s : State, s.pwk.downStep = 0 →
     (s.boot = .load → Completes .imageLoad s fun t =>
       let r := ({ s with wakePlan := [] } : State).loadImage (s.slotImg (s.isSet GLB_IMAGE_STATUS_slot))
       if r.2.1 = 0
       then t.cinched = true ∧ t.boot = .cinched ∧ t.fget GLB_IMAGE_STATUS_state = 2 ∧ t.fget GLB_IMAGE_STATUS_hash = 0
       else t.boot = .clearing ∧ t.egress = [] ∧ t.stored = [] ∧ t.offered = [] ∧ t.fget GLB_IMAGE_STATUS_state = 1 ∧
         (t.slotRec (r.1.isSet GLB_IMAGE_STATUS_slot)).valid = false) ∧
     (s.boot = .cinched → Completes .laneEnable s fun t =>
       t.boot = .lanesOn ∧
       (∀ n, n < 48 → lanePresent s.variant n = true → s.laneKind n ≠ 0 → t.isSet (LANE_PHY_CTRL_enable n) = true) ∧
       ∀ n, n < 16 → portPresent s.variant n = true → s.fget (EMAC_CFG_speed n) ≠ 0 → t.isSet (EMAC_CTRL_enable n) = true) ∧
     (s.boot = .lanesOn → s.isSet PWK_STATE_off_latched = false → s.pwk.laterTarget = none →
       Completes .routingReady s fun t =>
         t.boot = .routing ∧ t.gw.routingTick = s.uptime ∧
         ∀ k, k < 128 → (s.crs k).named = true → (s.crs k).run = .idle → s.crsPowered k = true →
           (t.crs k).run = .running ∧ (t.crs k).pc = (s.crs k).entry) ∧
     (s.boot = .clearing → s.isSet PWK_STATE_off_latched = false → s.pwk.laterTarget = none →
       Completes .sramClearDone s fun t =>
         t.cinched = false ∧ t.owners = [] ∧ t.keySlots = [] ∧ t.stored = [] ∧ t.egress = [] ∧ t.aper = [] ∧
         t.slotA = s.slotA ∧ t.slotB = s.slotB ∧
         if s.isSet GLB_IMAGE_STATUS_fallback = false ∧ (s.slotRec !(s.isSet GLB_IMAGE_STATUS_slot)).valid = true
         then t.boot = .load ∧ t.isSet GLB_IMAGE_STATUS_fallback = true ∧
           t.isSet GLB_IMAGE_STATUS_slot = !(s.isSet GLB_IMAGE_STATUS_slot)
         else t.boot = .settled)) ∧
  (∀ s : State, s.cinched = true → s.fget GLB_IMAGE_STATUS_hash = 0 → s.boot ≠ .clearing → s.pwk.held = false →
     (Config.sha256 (s.slotImg (s.isSet GLB_IMAGE_STATUS_slot)).digested =
         (s.slotImg (s.isSet GLB_IMAGE_STATUS_slot)).headerDigest →
       Config.sha256 (s.slotImg (s.isSet GLB_IMAGE_STATUS_slot)).digested = (s.slotRec (s.isSet GLB_IMAGE_STATUS_slot)).digest →
       Completes .digestVerdict s fun t =>
         t.cinched = true ∧ t.boot = s.boot ∧ t.fget GLB_IMAGE_STATUS_hash = 1 ∧ t.isSet NVM_STATUS_boot_done = true) ∧
     (Config.sha256 (s.slotImg (s.isSet GLB_IMAGE_STATUS_slot)).digested ≠
         (s.slotImg (s.isSet GLB_IMAGE_STATUS_slot)).headerDigest ∨
       Config.sha256 (s.slotImg (s.isSet GLB_IMAGE_STATUS_slot)).digested ≠ (s.slotRec (s.isSet GLB_IMAGE_STATUS_slot)).digest →
       Completes .digestVerdict s fun t =>
         t.boot = .clearing ∧ t.fget GLB_IMAGE_STATUS_hash = 2 ∧ t.fget GLB_IMAGE_STATUS_state = 3 ∧
         (t.slotRec (s.isSet GLB_IMAGE_STATUS_slot)).valid = false ∧ t.egress = [] ∧ t.stored = [] ∧ t.offered = []))

/-- AON_POWER_ON_RESET (R26): every register but the debug challenge is at its value after reset, every SRAM is cleared, and
MRAM with its slot records, row marks and black box is kept but for an NVM command that the reset cuts. Where the
specification leaves room, it follows the model's own reading in log entries 11 and 30. -/
def Obligations.PowerOnResetKeepsMram : Prop :=
  ∀ s : State, s.nvmRun = none → Completes .aonPowerOnReset s fun t =>
    (∀ a, (∀ i, i < 8 → a ≠ KEY_DBG_CHALLENGE i) → t.reg a = State.reset.reg a) ∧
    t.mram = s.mram ∧ t.slotA = s.slotA ∧ t.slotB = s.slotB ∧ t.genLast = s.genLast ∧ t.rowProgrammed = s.rowProgrammed ∧
    t.blackBox = s.blackBox ∧ t.aper = [] ∧ t.owners = [] ∧ t.keySlots = [] ∧ t.teams = State.reset.teams ∧
    t.boot = .down ∧ t.coreOn = false ∧ t.cinched = false ∧ t.perstLow = s.perstLow ∧ t.variant = s.variant

/-- VBAT_VALID, RAILS_IN_REGULATION, PLL_LOCK, BOOT_BIST_PARTITION_DONE and SERVICE_PORT_READY (R69, R73, R78, R87): a cold
start brings the rails up; the PLLs lock into boot BIST where a cold start's first choice asks for it, else into the load
of the first choice, or with no valid slot the device settles in state 0; the partitions run in order, each of P0 to P4
setting its flag as it failed or not; and the service port becomes ready once they have ended. The first choice of R69: of
two valid slots the one with the higher generation, slot A where they are equal; otherwise the valid one, otherwise none.
TEST_RESET and ACLK_CALIBRATION (R24, R26): the first resets the TAP controller alone; the second leaves ACLK calibrated.
Where the specification leaves room, it follows the model's own reading in log entries 13, 29 and 32. -/
def Obligations.PowerUp : Prop :=
  (∀ s : State, s.pwk.downStep = 0 →
     (s.boot = .down → s.coldStart = true → Completes .vbatValid s fun t => t = { s with boot := .aonUp }) ∧
     (s.boot = .aonUp → Completes .railsInRegulation s fun t =>
       t.boot = .railsUp ∧ t.coreOn = true ∧ t.lineOn = true ∧ t.pdieOn = true ∧ t.pwk.wakeOpen = false) ∧
     (∀ b, s.boot = .railsUp → s.firstChoice = some b → s.coldStart = false → Completes .pllLock s fun t =>
       t.boot = .load ∧ t.fget GLB_IMAGE_STATUS_state = 1 ∧ t.fget GLB_IMAGE_STATUS_slot = b2n b ∧
       t.fget GLB_IMAGE_STATUS_fallback = 0) ∧
     (∀ b, s.boot = .railsUp → s.firstChoice = some b → s.coldStart = true → Completes .pllLock s fun t =>
       t.boot = (if (s.slotImg b).bootLbist then .bist 0 else .load) ∧ t.fget GLB_IMAGE_STATUS_slot = b2n b) ∧
     (s.boot = .railsUp → s.firstChoice = none → s.isSet PWK_STATE_off_latched = false → s.pwk.laterTarget = none →
       Completes .pllLock s fun t =>
         t.boot = .settled ∧ t.fget GLB_IMAGE_STATUS_state = 0 ∧ t.isSet NVM_STATUS_boot_done = true ∧ t.cinched = s.cinched) ∧
     (∀ p fails, s.boot = .bist p → p < 6 → fails < 65536 → Completes (.bootBistPartitionDone fails) s fun t =>
       t.boot = (if p < 5 then .bist (p + 1) else .load) ∧ (p < 5 → t.fget ⟨FAR_RESULT, p, p⟩ = b2n (fails != 0))) ∧
     (s.coreOn = true → s.bistEnded = true → Completes .servicePortReady s fun t => t.host.ready = true ∧ t.boot = s.boot)) ∧
  (∀ s : State,
     (s.slotA.valid = true → s.slotB.valid = true → s.slotA.gen < s.slotB.gen → s.firstChoice = some true) ∧
     (s.slotA.valid = true → s.slotB.valid = true → s.slotB.gen < s.slotA.gen → s.firstChoice = some false) ∧
     (s.slotA.valid = true → s.slotB.valid = true → s.slotA.gen = s.slotB.gen → s.firstChoice = some false) ∧
     (s.slotA.valid = true → s.slotB.valid = false → s.firstChoice = some false) ∧
     (s.slotA.valid = false → s.slotB.valid = true → s.firstChoice = some true) ∧
     (s.slotA.valid = false → s.slotB.valid = false → s.firstChoice = none)) ∧
  (∀ s : State, Completes .testReset s (fun t => t = { s with host := { s.host with scan := false } }) ∧
     (s.coreOn = true → Completes .aclkCalibration s fun t => t = { s with aclkCalibrated := true }))

/-- RETIRE, PROGRAM, COMMIT and an undefined opcode, accepted (R63 to R66), and NVM_CMD_COMPLETE (R71): RETIRE invalidates the
record, PROGRAM writes one row and no other byte of MRAM, COMMIT changes neither MRAM nor a record before its end, an
undefined opcode ends with FORMAT; at the end a RETIRE has marked every image row retired, and a successful COMMIT, with
no job on the ECDSA unit, has written a valid record with the next generation. Where the specification leaves room, it
follows the model's own reading in log entries 25 and 26. -/
def Obligations.NvmCommands : Prop :=
  ∀ (s : State) (r : Requester), s.coreOn = true → (s.ownerOf r).isSome = true → requesterCode r ≠ 0 → s.pwk.downStep = 0 →
    (∀ b, s.nvmRun = none → s.isSet NVM_STATUS_boot_done = true → s.slotInUse ≠ some b →
      Completes (.retire r b) s fun t =>
        (t.slotRec b).valid = false ∧ t.slotRec (!b) = s.slotRec (!b) ∧ t.mram = s.mram ∧ t.genLast = s.genLast ∧
        t.nvmRun = some ⟨requesterCode r, 1, b2n b, 0, 0⟩ ∧ t.isSet NVM_STATUS_busy = true) ∧
    (∀ row, s.nvmRun = none → s.isSet NVM_STATUS_boot_done = true → imageRow row = true → s.isProgrammed row = false →
      Completes (.program r row) s fun t =>
        (∀ i, i < 256 → memGet t.mram (256 * row + i) = (s.wbufBytes r)[i]?.getD 0) ∧
        (∀ a, a < 256 * row ∨ 256 * row + 256 ≤ a → memGet t.mram a = memGet s.mram a) ∧
        (∀ x, t.isProgrammed x = (decide (x = row) || s.isProgrammed x)) ∧ t.slotA = s.slotA ∧ t.slotB = s.slotB ∧
        t.nvmRun = some ⟨requesterCode r, 2, 0, row, 0⟩) ∧
    (∀ b, s.nvmRun = none → s.isSet NVM_STATUS_boot_done = true → (s.slotRec b).retired = true → s.genLast ≠ 0xFFFFFFFF →
      Completes (.commit r b) s fun t =>
        t.mram = s.mram ∧ t.slotA = s.slotA ∧ t.slotB = s.slotB ∧ t.genLast = s.genLast ∧
        t.nvmRun = some ⟨requesterCode r, 3, b2n b, 0, s.commitStatus b⟩) ∧
    (∀ op, s.nvmRun = none → s.isSet NVM_STATUS_boot_done = true → op < 16 → ¬(1 ≤ op ∧ op ≤ 3) →
      Completes (.nvmUndefinedOpcode r op) s fun t =>
        t.nvmRun = none ∧ t.mram = s.mram ∧ t.fget NVM_STATUS_status = 0x17 ∧ t.isSet NVM_STATUS_done = true ∧
        t.isSet NVM_STATUS_busy = false) ∧
    (∀ q b, q < 4 → s.nvmRun = some ⟨q, 1, b2n b, 0, 0⟩ → Completes .nvmCmdComplete s fun t =>
      (t.slotRec b).retired = true ∧ (t.slotRec b).valid = false ∧
      (∀ i, i < 40000 → t.isProgrammed (slotRow b + i) = false) ∧ t.nvmRun = none ∧ t.isSet NVM_STATUS_busy = false ∧
      t.fget NVM_STATUS_requester = q) ∧
    (∀ q b, q < 4 → s.nvmRun = some ⟨q, 3, b2n b, 0, 0⟩ → s.jobOn 4 = none → Completes .nvmCmdComplete s fun t =>
      (t.slotRec b).valid = true ∧ (t.slotRec b).gen = s.genLast + 1 ∧ t.genLast = s.genLast + 1 ∧ t.nvmRun = none ∧
      t.fget NVM_STATUS_status = 0)

/-- TEAM_TEST, TEAM_DRAINED, DRAIN_TIMEOUT, TEAM_TEST_COMPLETE and an undefined FAR_CMD opcode (R88 to R92): a test stops the
Team's dispatch; once the Team is quiet its registers and cache are zeroised; the drain of a Team that is not quiet in
time ends with DRAIN_TIMEOUT; the end writes the Team's flag; an undefined opcode ends with FORMAT. Where the
specification leaves room, it follows the model's own reading in log entries 28, 29 and 80. -/
def Obligations.FarrierTests : Prop :=
  ∀ (s : State) (tm : Nat), tm < 16 →
    (∀ r, s.coreOn = true → (s.ownerOf r).isSome = true → requesterCode r ≠ 0 → s.farRun = none →
      teamPresent s.variant tm = true → s.teamPowered tm = true → Completes (.teamTest r tm) s fun t =>
        t.farRun = some ⟨tm, 0⟩ ∧ t.teamStopped tm = true ∧ t.isSet FAR_STATUS_busy = true) ∧
    (∀ r op, s.coreOn = true → (s.ownerOf r).isSome = true → requesterCode r ≠ 0 → s.farRun = none → op < 16 → op ≠ 1 →
      Completes (.farUndefinedOpcode r op) s fun t =>
        t.farRun = none ∧ t.fget FAR_STATUS_status = 0x17 ∧ t.isSet FAR_STATUS_done = true) ∧
    (s.farRun = some ⟨tm, 0⟩ → s.teamQuiet tm = true → Completes .teamDrained s fun t =>
      t.farRun = some ⟨tm, 1⟩ ∧ (∀ c g, c < 8 → g < 32 → t.greg (8 * tm + c) g = 0) ∧
      (∀ slot, t.cacheSet tm slot = [])) ∧
    (s.farRun = some ⟨tm, 0⟩ → s.teamQuiet tm = false → Completes .drainTimeout s fun t =>
      t.farRun = none ∧ t.fget FAR_STATUS_status = 0x25 ∧ t.isSet FAR_STATUS_busy = false) ∧
    (∀ fail, s.farRun = some ⟨tm, 1⟩ → Completes (.teamTestComplete fail) s fun t =>
      t.farRun = none ∧ t.fget ⟨FAR_RESULT, 16 + tm, 16 + tm⟩ = b2n fail ∧ t.fget FAR_STATUS_status = 0 ∧
      t.isSet FAR_STATUS_done = true)

/-- DIE_LINK_TRANSFER, DIE_LINK_RETRAIN and PLK_SILENCE (R19 to R21): a passed transfer ends its direction's failures; a
failed one is sent again and counted (a port's link in EMAC_CNT61, the others in the link's own count), up to 16 times in
a row, and the link is down at the next failure; a link is up once both directions have passed a retraining; a silent PLK
is down with plk_lost set. HOBBLE_COPY_MISMATCH and HOBBLE_RESTORE_DONE (R486): a byte of copy B that differs from copy A
starts a restore, and a limit read meanwhile is no higher than in either copy; the restore leaves both copies equal. Where
the specification leaves room, it follows the model's own reading in log entries 31 and 126. -/
def Obligations.DieLinksAndHobbleCopies : Prop :=
  (∀ (s : State) (k : Nat), s.linkPowered k = true → k < 18 →
     (∀ inward arriving, (s.link k).down = false → Completes (.dieLinkTransfer k inward true arriving) s fun t =>
       (t.link k).down = false ∧ (if inward then (t.link k).failsIn else (t.link k).failsOut) = 0 ∧ t.regs = s.regs) ∧
     (∀ inward arriving, (s.link k).down = false → (if inward then (s.link k).failsIn else (s.link k).failsOut) < 16 →
       Completes (.dieLinkTransfer k inward false arriving) s fun t =>
         (t.link k).down = false ∧
         (if inward then (t.link k).failsIn else (t.link k).failsOut) =
           (if inward then (s.link k).failsIn else (s.link k).failsOut) + 1 ∧
         if k < 16 then t.reg (EMAC_CNT k 61) = word (((s.reg (EMAC_CNT k 61)).toNat + 1) % 2 ^ 32)
         else (t.link k).count = (s.link k).count + 1) ∧
     (∀ inward arriving, (s.link k).down = false → (if inward then (s.link k).failsIn else (s.link k).failsOut) = 16 →
       Completes (.dieLinkTransfer k inward false arriving) s fun t => (t.link k).down = true) ∧
     ((s.link k).down = true → Completes (.dieLinkRetrain k true true) s fun t => (t.link k).down = false) ∧
     (k = 17 → Completes .plkSilence s fun t => t.isSet PWR_STATUS_plk_lost = true ∧ (t.link 17).down = true)) ∧
  (∀ s : State,
     (∀ off byte, s.cinched = true → off < 0x6D0 → byte ≠ memGet s.hobA off →
       Completes (.hobbleCopyMismatch off true byte) s fun t =>
         t.isSet HOB_STATUS_restoring = true ∧ t.hobA = s.hobA ∧ memGet t.hobB off = byte ∧
         ∀ o n z, t.hobLow o n z ≤ hobCopy t.hobA o n z ∧ t.hobLow o n z ≤ hobCopy t.hobB o n z) ∧
     (s.isSet HOB_STATUS_restoring = true → Completes .hobbleRestoreDone s fun t =>
       t.isSet HOB_STATUS_restoring = false ∧ t.hobA = t.hobB))

/-! ### Address spaces and the service port (R9, R15, R178, R409, R520 to R541) -/

/-- What a register write leaves of bit i (R15): RW takes the bit written, W1C clears and W1S sets where a 1 is written. -/
def Sys2Proof.Machine.bitAfter (row : RegRow) (old v : Word) (i : Nat) : Bool :=
  if row.w1s.testBit i && v.getLsbD i then true
  else if row.w1c.testBit i && v.getLsbD i then false
  else if row.rw.testBit i then v.getLsbD i else old.getLsbD i

/-- REGISTER_WRITE (R15, R408, R409): a write of a switch-core register by a privileged requester changes each bit by its
access code and nothing else; one by a requester that the rules do not admit changes no such register and is counted;
ABSENT_WRITE counts in GLB_ABSENT_WRITES, saturating, and changes nothing else. COUNTER_READ of a port or forwarding
counter (R178): the read returns the count and leaves the counter and its half bit 0. TABLE_WRITE of a transmit payload
(R137, R215, R540): a word in the payload of a buffer of TB4 to TB7 that is not pending stands there, little-endian, and
no other byte of the aperture changes. A request of an unbound function, or one that is no whole number of aligned words,
is answered with Unsupported Request and has no other effect (R511, R512). Where the specification leaves room, it follows
the model's own reading in log entries 108, 109, 110 and 136. -/
def Obligations.RegisterAccess : Prop :=
  (∀ (s : State) (r : Requester) (a : Nat), s.coreOn = true → (s.ownerOf r).isSome = true → a % 4 = 0 →
     (∀ row v, a / 0x10000 = 0x10 → a ≠ SWC_SCHED_CTRL → s.rowAt a = some row → s.privileged r = true →
       Completes (.registerWrite r a v) s fun t =>
         (∀ i, i < 32 → (t.reg a).getLsbD i = bitAfter row (s.reg a) v i) ∧ (∀ b, b ≠ a → t.reg b = s.reg b) ∧ t.aper = s.aper) ∧
     (∀ row v, a / 0x10000 = 0x10 → a ≠ SWC_SCHED_CTRL → s.rowAt a = some row → s.privileged r = false →
       Completes (.registerWrite r a v) s fun t =>
         t.reg a = s.reg a ∧
         t.reg SCL_REJECT_COUNT = word (min ((s.reg SCL_REJECT_COUNT).toNat + 1) 0xFFFFFFFF) ∧
         t.fget SCL_REJECT_LOG_valid = 1) ∧
     (a < 0x400000 → unitAbsent s.variant a = true → Completes (.absentWrite r a) s fun t =>
       t.fget ⟨GLB_ABSENT_WRITES, 15, 0⟩ = min (s.fget ⟨GLB_ABSENT_WRITES, 15, 0⟩ + 1) 0xFFFF ∧
       (∀ b, b ≠ GLB_ABSENT_WRITES → t.reg b = s.reg b) ∧ t.aper = s.aper)) ∧
  (∀ (s : State) (r : Requester) (a u i base : Nat) (row : RegRow), s.coreOn = true → (s.ownerOf r).isSome = true →
     (base = EMAC_CNT 0 0 ∧ u < 16 ∧ i < 64 ∧ a = EMAC_CNT u i ∨ base = FWD_CNT 0 0 ∧ u < 2 ∧ i < 32 ∧ a = FWD_CNT u i) →
     unitAbsent s.variant a = false → s.rowAt a = some row → row.rc = true →
     Completes (.counterRead r a) s fun t =>
       t.out = .read r (s.reg a) :: s.out ∧ t.reg a = 0 ∧ t.fget (halfField base u i) = 0 ∧
       ∀ b, b ≠ a → b ≠ (halfField base u i).addr → t.reg b = s.reg b) ∧
  (∀ (s : State) (r : Requester) (n off : Nat) (bs : List Byte), s.coreOn = true → n < 48 → lanePresent s.variant n = true →
     s.mayUse r (s.portOwnerOf (16 + n)) = true → off % 4 = 0 → 0x3000 ≤ off → off < 0x3800 → bs.length = 4 →
     s.isSet (LANE_TB_CTRL_pending n ((off - 0x2800) / 0x200)) = false →
     Completes (.tableWrite r (laneBuf n + off) bs) s fun t =>
       (∀ i, i < 4 → memGet t.aper (laneBuf n + off + i) = bs[i]?.getD 0) ∧
       (∀ x, x < laneBuf n + off ∨ laneBuf n + off + 4 ≤ x → memGet t.aper x = memGet s.aper x) ∧ t.regs = s.regs) ∧
  (∀ (s : State) (c : Instr) (f a : Nat) (v : Word) (bs : List Byte), s.coreOn = true →
     (s.ownerOf (.func f) = none →
       c ∈ [Instr.registerWrite (.func f) a v, .counterRead (.func f) a, .tableWrite (.func f) a bs] →
       Completes c s fun t => t = s.emit (.pcieCompletion f 1 none)) ∧
     (a % 4 ≠ 0 →
       c ∈ [Instr.registerWrite (.func f) a v, .counterRead (.func f) a, .tableWrite (.func f) a bs] →
       Completes c s fun t => t = s.emit (.pcieCompletion f 1 none)) ∧
     (bs.length % 4 ≠ 0 → Completes (.tableWrite (.func f) a bs) s fun t => t = s.emit (.pcieCompletion f 1 none)))

/-- SVC_WINDOW, SVC_WRITE, SVC_READ, SVC_FETCH and SVC_STATUS (R520 to R524): a good transaction sets the window; a word
written through it changes a switch-core register by its access codes, and one read through it at the ports fills the read
buffer; WRITE and READ make the port busy; FETCH and STATUS drive SVC_STATUS, then the words read; a bad CRC discards each
of them. SVC_MBOX, MBOX_ANSWER, MBOX_TIMEOUT and SVC_COMMAND_DONE (R480, R521, R523): nine words reach Ostler firmware
while it runs; its answer, or none in time, ends the command with a status, and SIGNER_SET writes an empty signer row;
another command completes with its status once home has answered every word that it read in the Signal Store. Where the
specification leaves room, it follows the model's own reading in log entries 16, 125 and 135. -/
def Obligations.ServicePortAndMailbox : Prop :=
  (∀ s : State, s.coreOn = true → s.host.ready = true →
     (∀ base, s.host.run = none → base ≤ 0x3F ∨ 0x1000 ≤ base ∧ base ≤ 0x13FF → Completes (.svcWindow base false) s fun t =>
       t.host.window = base ∧ t.host.status = 0 ∧ t.host.run = none) ∧
     (∀ off w row, s.host.run = none → s.host.window = 0x10 → off < 0x10000 → off % 4 = 0 → off + 0x100000 ≠ SWC_SCHED_CTRL →
       s.rowAt (0x100000 + off) = some row → Completes (.svcWrite off [w] false) s fun t =>
         (∀ i, i < 32 → (t.reg (0x100000 + off)).getLsbD i = bitAfter row (s.reg (0x100000 + off)) w i) ∧
         t.host.run = some (1, some 0)) ∧
     (∀ off row, s.host.run = none → s.host.window = 0x14 → off < 0x10000 → off % 4 = 0 →
       unitAbsent s.variant (0x140000 + off) = false → s.rowAt (0x140000 + off) = some row → row.rc = false →
       Completes (.svcRead off 1 false) s fun t =>
         t.host.readBuf = [s.regLast (0x140000 + off)] ∧ t.host.run = some (3, some 0)) ∧
     (∀ off ws, s.host.run = none → svcForm off ws.length = true → Completes (.svcWrite off ws false) s fun t =>
       t.host.run = some (1, some 0)) ∧
     (∀ off n, s.host.run = none → svcForm off n = true → Completes (.svcRead off n false) s fun t =>
       t.host.run = some (3, some 0)) ∧
     Completes (.svcFetch false) s (fun t =>
       t.out = .service (s.svcWord :: s.host.readBuf) :: s.out ∧ t.host = { s.host with crcErr := false }) ∧
     Completes (.svcStatus false) s (fun t => t.out = .service [s.svcWord] :: s.out ∧ t.host = { s.host with crcErr := false }) ∧
     (∀ c, c = .svcFetch true ∨ c = .svcStatus true ∨ (∃ b, c = .svcWindow b true) ∨ (∃ o w, c = .svcWrite o w true) ∨
         (∃ o n, c = .svcRead o n true) ∨ (∃ w, c = .svcMbox w true) → Completes c s fun t =>
       t.host = { s.host with crcErr := true } ∧ t.isSet (pendFld 1527) = true ∧ t.aper = s.aper)) ∧
  (∀ s : State,
     (∀ ws, s.coreOn = true → s.host.ready = true → s.host.run = none → ws.length = 9 →
       (s.ostlerRuns = true → Completes (.svcMbox ws false) s fun t =>
         t.host.mbox = ws ∧ t.host.run = some (7, none) ∧ t.out = .mailbox ws :: s.out) ∧
       (s.ostlerRuns = false → Completes (.svcMbox ws false) s fun t => t.host.run = some (7, some 0x3D) ∧ t.out = s.out)) ∧
     (∀ w0 ws, s.host.mbox = w0 :: ws → s.ostlerRuns = true → getField w0 31 24 = 1 → ws.length = 8 →
       s.signerDigest (getField w0 1 0) = List.replicate 32 0 → Completes .mboxAnswer s fun t =>
         (∀ i, i < 32 → memGet t.mram (256 * (40257 + getField w0 1 0) + i) = (wordsToBytes ws)[i]?.getD 0) ∧
         (∀ a, a < 256 * (40257 + getField w0 1 0) ∨ 256 * (40257 + getField w0 1 0) + 32 ≤ a →
           memGet t.mram a = memGet s.mram a) ∧
         t.host.run = none ∧ t.host.status = 0 ∧ t.host.mbox = []) ∧
     (∀ w0 ws, s.host.mbox = w0 :: ws → s.ostlerRuns = true → getField w0 31 24 ≠ 1 → Completes .mboxAnswer s fun t =>
       t.mram = s.mram ∧ t.host.run = none ∧ t.host.status = 0x17) ∧
     (s.host.run = some (7, none) → Completes .mboxTimeout s fun t => t.host.run = none ∧ t.host.status = 0x3D) ∧
     (∀ op st, s.host.run = some (op, some st) →
       (s.svcWaits = false → Completes .svcCommandDone s fun t =>
         t.host.run = none ∧ t.host.status = st ∧ t.isSet (pendFld 1528) = true) ∧
       (s.svcWaits = true → Completes .svcCommandDone s fun t => t = s)))

/-! ### PCIe, owners, Ostler, the event controller and the arbiters (R405 to R411, R478 to R528) -/

/-- HOST_LINK_UP, HOST_LINK_DOWN, PME_TURN_OFF, PERST_N_LOW, PERST_N_RISE, VIO_LOW, VIO_RESTORED and CONFIG_REQUEST (R26, R85,
R510, R511, R527, R550): the link reaches L0, goes down, trains again or enters L2; PERST_N low, or VIO low, resets it
with NumVFs, configuration space and every queue pair; a configuration request is retried until configuration space opens,
then reads or writes a word of an exposed function's space, and to another function is unsupported. Where the
specification leaves room, it follows the model's own reading in log entries 14, 131 and 132. -/
def Obligations.HostLink : Prop :=
  ∀ s : State,
    (∀ width gen, width < 8 → gen < 4 → s.pcieOn = true → s.linkRuns = false → Completes (.hostLinkUp width gen) s fun t =>
      t.linkState = 2 ∧ t.fget HST_LINK_STATUS_width = width ∧ t.fget HST_LINK_STATUS_gen = gen ∧
      t.isSet (pendFld 1520) = true) ∧
    (2 ≤ s.linkState → Completes .hostLinkDown s fun t =>
      t.linkState = (if s.pcieOn then 1 else 0) ∧ t.isSet (pendFld 1521) = true) ∧
    (s.linkRuns = true → Completes .pmeTurnOff s fun t => t.linkState = 4) ∧
    (s.perst = false → s.coreOn = true → ∀ c, c = .perstNLow ∨ c = .vioLow → Completes c s fun t =>
      t.perst = true ∧ t.linkState = 0 ∧ t.host.numVfs = 0 ∧ t.host.config = [] ∧
      ∀ a, HST_QP_CFG 0 ≤ a → a < HST_QP_CFG 64 → t.reg a = State.reset.reg a) ∧
    (({ s with perstLow := false } : State).pcieOn = true → s.linkState = 0 → Completes .perstNRise s fun t =>
      t.perstLow = false ∧ t.linkState = 1) ∧
    (({ s with host := { s.host with vioLow := false } } : State).pcieOn = true → s.linkState = 0 →
      Completes .vioRestored s fun t => t.linkState = 1 ∧ t.hrbPin.isSome = true) ∧
    (∀ f vfs i v, s.linkRuns = true →
      (s.configReady = false → Completes (.configRequest f ⟨vfs, i, v⟩) s fun t => t = s.emit (.pcieCompletion f 2 none)) ∧
      (s.configReady = true → s.vfsExposed < f →
        Completes (.configRequest f ⟨vfs, i, v⟩) s fun t => t = s.emit (.pcieCompletion f 1 none)) ∧
      (s.configReady = true → f ≤ s.vfsExposed →
        (∀ x, v = some x → Completes (.configRequest f ⟨vfs, i, v⟩) s fun t =>
          t.out = .pcieCompletion f 0 none :: s.out ∧ t.configWord f i = x ∧ t.regs = s.regs ∧
          t.host.numVfs = (match vfs with
            | some n => if f = 0 ∧ s.boot ≠ .settled then min 31 n else s.host.numVfs
            | none => s.host.numVfs)) ∧
        (v = none → Completes (.configRequest f ⟨vfs, i, v⟩) s fun t =>
          t.out = .pcieCompletion f 0 (some (s.configWord f i)) :: s.out ∧ t.host = s.host ∧ t.regs = s.regs)))

/-- QP_TX_POST, TX_DESCRIPTOR, ENDPOINT_FRAME_DELIVERY, DMA_ERROR and FLR (R168, R169, R513 to R518): a post sets the tail; a
good descriptor's frame is offered to the endpoint's fabric port and the head moves on; a delivered frame is written to
the buffer of the receive descriptor, or reaches Ostler; an error stops one side; a reset disables the function's queue
pairs. Where the specification leaves room, it follows the model's own reading in log entries 133 and 134. -/
def Obligations.QueuePairs : Prop :=
  ∀ s : State,
    (∀ r q tail, q < 64 → s.privileged r = true ∨ (s.ownerOf r).isSome = true ∧ r = .func (s.fget (HST_QP_CFG_func q)) →
      Completes (.qpTxPost r q tail) s fun t =>
        t.reg (HST_QP_TX_TAIL q) = word (tail % 2048) ∧ ∀ a, a ≠ HST_QP_TX_TAIL q → t.reg a = s.reg a) ∧
    (∀ q w2 buffer, q < 64 → s.qpRuns q = true → s.isSet (HST_QP_STATUS_tx_error q) = false → s.linkRuns = true →
      s.qpDepth q (HST_QP_TX_TAIL q) (HST_QP_TX_HEAD q) ≠ 0 → s.txStatus q w2 = 0 → bitOf w2 31 = false →
      s.epMaySend (s.fget (HST_QP_CFG_ep q)) (slice buffer 0 (bitsOf w2 13 0)) = true →
      Completes (.txDescriptor q w2 buffer) s fun t =>
        t.offeredTo (22 + s.fget (HST_QP_CFG_ep q)) = s.offeredTo (22 + s.fget (HST_QP_CFG_ep q)) ++
          [{ bytes := slice buffer 0 (bitsOf w2 13 0), src := 80 + s.fget (HST_QP_CFG_ep q), owner := bitsOf w2 29 22,
             cls := bitsOf w2 21 19, rx0 := s.timeNs 0 }] ∧
        (t.reg (HST_QP_TX_HEAD q)).toNat = ((s.reg (HST_QP_TX_HEAD q)).toNat + 1) % (2 * s.ringSize q) ∧
        ∃ a, t.out = .hostWrite a (leBytes 4 0) :: s.out) ∧
    (∀ e k f rest buf qu q, e < 2 → k < 8 → s.egressQ (egressKey (80 + e) k) = f :: rest →
      (∀ c, k < c → c < 8 → s.egressQ (egressKey (80 + e) c) = []) → s.epQueue e f = some qu →
      (List.range 64).find? (fun q => s.qpRuns q && s.fget (HST_QP_CFG_ep q) == e && s.fget (HST_QP_CFG_rxq q) == qu &&
        s.qpOwner q == some f.owner) = some q →
      s.linkRuns = true → s.isSet (HST_QP_STATUS_rx_stalled q) = false →
      s.qpDepth q (HST_QP_RX_TAIL q) (HST_QP_RX_HEAD q) ≠ 0 →
      Completes (.endpointFrameDelivery e buf false) s fun t =>
        t.egressQ (egressKey (80 + e) k) = rest ∧
        (t.reg (HST_QP_RX_HEAD q)).toNat = ((s.reg (HST_QP_RX_HEAD q)).toNat + 1) % (2 * s.ringSize q) ∧
        ∃ a w, t.out = .hostWrite a w :: .hostWrite buf (f.bytes.take (s.qpBuffer q)) :: s.out) ∧
    (∀ k f rest buf irq qu, k < 8 → s.egressQ (egressKey 83 k) = f :: rest →
      (∀ c, k < c → c < 8 → s.egressQ (egressKey 83 c) = []) → s.ostlerRuns = true → s.epQueue 2 f = some qu →
      Completes (.endpointFrameDelivery 2 buf irq) s fun t =>
        t.egressQ (egressKey 83 k) = rest ∧ t.out = .ostlerFrame qu f.bytes :: s.out) ∧
    (∀ q tx, q < 64 → s.qpRuns q = true → s.linkRuns = true → Completes (.dmaError q tx) s fun t =>
      t.isSet (if tx then HST_QP_STATUS_tx_error q else HST_QP_STATUS_rx_stalled q) = true ∧ t.isSet (pendFld 1523) = true) ∧
    (∀ f, f < 32 → s.linkRuns = true → Completes (.flr f) s fun t =>
      (∀ q, q < 64 → t.isSet (HST_QP_CFG_enable q) =
        (s.isSet (HST_QP_CFG_enable q) && !(f == 0 || s.fget (HST_QP_CFG_func q) == f))) ∧
      t.host.numVfs = if f = 0 then 0 else s.host.numVfs)

/-- OWNER_CREATE, OWNER_DESTROY and SCL_CMD_COMPLETE (R410, R411): an accepted CREATE makes the owner active with the next
epoch and a fresh key; an accepted DESTROY leaves it draining without its key, and no Tack Room slot of its range holds
one; at the end it is absent with its epoch kept. Where the specification leaves room, it follows the model's own reading
in log entry 107. -/
def Obligations.OwnerLifetimes : Prop :=
  ∀ (s : State) (o : Nat), o < 256 →
    (∀ r, s.privileged r = true → s.sclRun = none → s.createCheck o = 0 → Completes (.ownerCreate r o) s fun t =>
      (t.owner o).state = 1 ∧ (t.owner o).persistent = false ∧ (t.owner o).func = some (s.fget SCL_ARG_host_function) ∧
      (t.owner o).keyFirst = s.fget SCL_ARG_key_first ∧ (t.owner o).keyCount = s.fget SCL_ARG_key_count ∧
      (t.owner o).epoch = ((s.owner o).epoch + 1) % 256 ∧ (t.owner o).keyValid = !s.roomClosed ∧
      (∀ p, p ≠ o → t.owner p = s.owner p) ∧ t.sclRun = some (1, o, 0) ∧ t.isSet SCL_STATUS_busy = true) ∧
    (∀ r, s.privileged r = true → s.sclRun = none → 2 ≤ o → (s.owner o).persistent = false → (s.owner o).state = 1 →
      Completes (.ownerDestroy r o) s fun t =>
        t.owner o = { s.owner o with state := 2, keyValid := false } ∧ (∀ p, p ≠ o → t.owner p = s.owner p) ∧
        (∀ e ∈ t.keySlots, ¬((s.owner o).keyFirst ≤ e.1 ∧ e.1 < (s.owner o).keyFirst + (s.owner o).keyCount)) ∧
        t.sclRun = some (2, o, 0)) ∧
    (s.sclRun = some (2, o, 0) → Completes .sclCmdComplete s fun t =>
      t.owner o = { epoch := (s.owner o).epoch } ∧ t.sclRun = none ∧ t.fget SCL_STATUS_status = 0 ∧
      t.isSet SCL_STATUS_done = true ∧ t.isSet SCL_STATUS_busy = false)

/-- OSTLER_FIRMWARE_READ, OSTLER_KICK, WATCHDOG, LOCKSTEP, OSTLER_AUTO_RESTART and OSTLER_RESTART (R84, R478, R481): verified
firmware runs and other firmware leaves Ostler halted with cause 1; a halt records its cause; a restart reads the firmware
again and counts. A kick changes nothing, since the model does not hold the 100 ms (the model's choice, log entry 123).
Where the specification leaves room, it follows the model's own reading in log entries 9, 124 and 125. -/
def Obligations.OstlerLife : Prop :=
  ∀ s : State,
    (s.fget GLB_OSTLER_STATUS_state = 1 → s.jobOn 4 = none → Completes .ostlerFirmwareRead s fun t =>
      if Config.firmwareVerifies (memRead s.mram firmwareBase 0x200000) then t.ostlerRuns = true
      else t.fget GLB_OSTLER_STATUS_state = 3 ∧ t.fget GLB_OSTLER_STATUS_halt_cause = 1 ∧ t.isSet (pendFld 1461) = true) ∧
    (s.coreOn = true → Completes (.ostlerKick .ostler) s fun t => t = s) ∧
    (s.ostlerRuns = true →
      Completes .watchdog s (fun t => t.fget GLB_OSTLER_STATUS_state = 3 ∧ t.fget GLB_OSTLER_STATUS_halt_cause = 3 ∧
        t.isSet (pendFld 1462) = true) ∧
      Completes .lockstep s (fun t => t.fget GLB_OSTLER_STATUS_state = 3 ∧ t.fget GLB_OSTLER_STATUS_halt_cause = 2 ∧
        t.isSet (pendFld 1460) = true)) ∧
    (s.fget GLB_OSTLER_STATUS_state = 3 →
      (2 ≤ s.fget GLB_OSTLER_STATUS_halt_cause → s.super.stays = false → Completes .ostlerAutoRestart s fun t =>
        t.fget GLB_OSTLER_STATUS_state = 1 ∧
        t.fget GLB_OSTLER_STATUS_restarts = min (s.fget GLB_OSTLER_STATUS_restarts + 1) 255) ∧
      (∀ r, s.coreOn = true → r = .svc ∨ r = .func 0 → Completes (.ostlerRestart r) s fun t =>
        t.fget GLB_OSTLER_STATUS_state = 1 ∧
        t.fget GLB_OSTLER_STATUS_restarts = min (s.fget GLB_OSTLER_STATUS_restarts + 1) 255))

/-- PEND_CLEAR, READER_ENABLE, JOURNAL_RD_WRITE, COALESCE_WINDOW_END, BB_WRITE and BB_SCAN_DONE (R499 to R507): ones clear
pending bits; a reader joins at the oldest record; its index moves forward only, up to wr; a window that hid nothing ends;
the oldest staged copy enters the black box at its next index; numbering begins after the scan. ARBITER_GRANT (R490,
R494): with nothing in mid-transfer, the winner's completed grant counts with its wait, and it drops to the lowest rank of
its class; every other rank list stays. Where the specification leaves room, it follows the model's own reading in log
entries 93, 127 and 128. -/
def Obligations.EventsAndArbiters : Prop :=
  (∀ s : State, s.coreOn = true →
     (∀ r n v, n < 48 → s.privileged r = true → Completes (.pendClear r n v) s fun t =>
       (∀ b, b < 32 → t.isSet (pendFld (32 * n + b)) = (s.isSet (pendFld (32 * n + b)) && !bitOf v b)) ∧
       ∀ a, a ≠ EVC_PEND n → t.reg a = s.reg a) ∧
     (∀ r, s.privileged r = true → s.isSet EVC_JRNL_CTRL_host_en = false → Completes (.readerEnable r false) s fun t =>
       t.isSet EVC_JRNL_CTRL_host_en = true ∧ t.fget EVC_JRNL_RD_HOST_rd = s.oldestRd) ∧
     (∀ r rd, s.privileged r = true → rd < 8192 →
       ((rd + 8192 - s.fget EVC_JRNL_RD_HOST_rd) % 8192 ≤ (s.fget EVC_JRNL_WR_wr + 8192 - s.fget EVC_JRNL_RD_HOST_rd) % 8192 →
         Completes (.journalRdWrite r false rd) s fun t =>
           t.fget EVC_JRNL_RD_HOST_rd = rd ∧ ∀ a, a ≠ EVC_JRNL_RD_HOST → t.reg a = s.reg a) ∧
       ((s.fget EVC_JRNL_WR_wr + 8192 - s.fget EVC_JRNL_RD_HOST_rd) % 8192 < (rd + 8192 - s.fget EVC_JRNL_RD_HOST_rd) % 8192 →
         Completes (.journalRdWrite r false rd) s fun t =>
           t.fget EVC_JRNL_RD_HOST_rd = s.fget EVC_JRNL_RD_HOST_rd ∧
           (t.reg EVC_RD_REJECT).toNat = min ((s.reg EVC_RD_REJECT).toNat + 1) 0xFFFFFFFF)) ∧
     (∀ src, src < 1536 → (s.window src).isOpen = true →
       ((s.window src).hidden = 0 → Completes (.coalesceWindowEnd src) s fun t => t = s.setWindow src {}) ∧
       (s.isSet (EVC_SRC_jrnl src) = false → s.isSet (EVC_SRC_bb src) = false → Completes (.coalesceWindowEnd src) s fun t =>
         t = s.setWindow src {}) ∧
       ((s.window src).hidden ≠ 0 → s.isSet (EVC_SRC_jrnl src) = true ∨ s.isSet (EVC_SRC_bb src) = true → src ≠ 1482 → src ≠ 1483 → Completes (.coalesceWindowEnd src) s fun t =>
         t.window src = { isOpen := true })) ∧
     (∀ x rest, s.bbStaged = x :: rest → s.isSet EVC_BB_STATUS_ready = true → Completes .bbWrite s fun t =>
       t.bbStaged = rest ∧ look noRecord t.blackBox (s.fget EVC_BB_STATUS_next) = x ∧
       t.fget EVC_BB_STATUS_next = (s.fget EVC_BB_STATUS_next + 1) % 32768) ∧
     (s.cinched = true → s.isSet EVC_BB_STATUS_ready = false → Completes .bbScanDone s fun t =>
       t.isSet EVC_BB_STATUS_ready = true ∧ t.blackBox = s.blackBox ∧ t.bbStaged.length = s.bbStaged.length ∧
       (s.blackBox = [] → t.fget EVC_BB_STATUS_next = 0 ∧ t.bbSeq = s.bbSeq))) ∧
  (∀ (s : State) (a waiting wait r : Nat) (pre : Bool), s.coreOn = true → a < 21 → s.arbiterPick a waiting = some (r, pre) →
     Completes (.arbiterGrant a waiting none wait) s fun t =>
       (t.reg (ARB_GRANTS a r)).toNat = min ((s.reg (ARB_GRANTS a r)).toNat + 1) 0xFFFFFFFF ∧
       (t.reg (ARB_WAIT_SUM a r)).toNat = min ((s.reg (ARB_WAIT_SUM a r)).toNat + wait) 0xFFFFFFFF ∧
       t.ranks (2 * a + b2n pre) = (s.ranks (2 * a + b2n pre)).filter (· != r) ++ [r] ∧
       ∀ k, k ≠ 2 * a + b2n pre → t.ranks k = s.ranks k)

/-! ### The Tack Room and the bulk cipher engines (R368 to R403) -/

/-- Requester r, of an exposed owner with the slot in its range, may give a key command now: the Tack Room is open, its load has
ended and no command runs. -/
def Sys2Proof.Machine.State.keyFree (s : State) (r : Requester) (slot : Nat) : Prop :=
  ∃ o, s.ownerOf r = some o ∧ s.keyInRange o slot = true ∧ s.tack.run = none ∧ s.roomClosed = false ∧ s.tack.loading = false

/-- What a key command that passed left: the running command with status 0, and no slot changed but the one named. -/
def Sys2Proof.Machine.keyPassed (s t : State) (r : Requester) (opcode slot : Nat) (v : Option KeySlot) : Prop :=
  t.keySlot slot = v ∧ (∀ k, k ≠ slot → t.keySlot k = s.keySlot k) ∧
    t.tack.run = some { requester := r, opcode := opcode, slot := slot, status := 0 } ∧ t.isSet KEY_STATUS_busy = true

/-- The slot contents that a key and KEY_ARG without persist describe. -/
def Sys2Proof.Machine.State.argSlot (s : State) (r : Requester) (key : List Byte) : KeySlot :=
  { key := key, usage := s.keyArg r KEY_ARG_usage, len256 := s.keyArg r KEY_ARG_len256 == 1,
    exportable := s.keyArg r KEY_ARG_exportable == 1, persist := false }

/-- KEY_WRITE, KEY_DERIVE, KEY_UNWRAP and KEY_CLEAR (R388, R390, R394): an empty slot takes the key written, derived or
unwrapped, and an unwrap that fails changes no slot; a cleared slot is empty and no persistent record names it. KEY_WRAP,
KEY_ATTEST, KEY_INFO, an undefined opcode and KEY_CMD_COMPLETE (R387, R388, R399): the words read in KEY_OUT; the end of a
command shows its status and clears the requester's KEY_DATA. Where the specification leaves room, it follows the model's
own reading in log entries 8, 101 and 102. -/
def Obligations.KeyCommands : Prop :=
  (∀ (s : State) (r : Requester) (slot : Nat), s.keyFree r slot →
     Completes (.keyClear r slot) s (fun t =>
       keyPassed s t r 2 slot none ∧ ∀ i, i < 1024 → t.recordValid i = true → t.recordSlot i ≠ slot) ∧
     (s.keySlot slot = none → s.keyArg r KEY_ARG_persist = 0 →
     Completes (.keyWrite r slot) s (fun t =>
       keyPassed s t r 1 slot (some (s.argSlot r ((s.keyData r).take (s.keyArgLen r))))) ∧
     ((∀ f, r ≠ .func f) → s.keyArg r KEY_ARG_src_root = 1 → ((s.keyData r).drop 48).all (· == 0) = true →
       Completes (.keyDerive r slot) s fun t =>
         keyPassed s t r 3 slot (some (s.argSlot r (kdf (s.deriveFrom Config.rootSecret) ((s.keyData r).take 16)
           (slice (s.keyData r) 16 32) (8 * s.keyArgLen r))))) ∧
     (∀ kek, s.keyFree r (s.keyArg r KEY_ARG_src) → s.keyOf (s.keyArg r KEY_ARG_src) 2 = .ok kek →
       Completes (.keyUnwrap r slot) s fun t =>
         match Config.keyUnwrap kek ((s.keyData r).take (s.keyArgLen r + 8)) with
         | some key => keyPassed s t r 5 slot (some (s.argSlot r (slice key 0 (s.keyArgLen r))))
         | none => t.keySlots = s.keySlots ∧ t.tack.run = some { requester := r, opcode := 5, slot := slot, status := 0x35 }))) ∧
  (∀ (s : State) (r : Requester) (slot : Nat),
     (∀ kek v, s.keyFree r slot → s.keyFree r (s.keyArg r KEY_ARG_src) → s.keyOf (s.keyArg r KEY_ARG_src) 2 = .ok kek →
       s.keySlot slot = some v → v.exportable = true → v.key.length = 16 ∨ v.key.length = 32 →
       Completes (.keyWrap r slot) s fun t => keyPassed s t r 4 slot (some v) ∧
         ∀ i, i < (v.key.length + 8) / 4 →
           t.tackReg r (17 + i) = word (leAt (slice (Config.keyWrap kek v.key) 0 (v.key.length + 8)) (4 * i) 4)) ∧
     (∀ key, s.keyFree r slot → s.keyOf slot 3 = .ok key → s.fget GLB_IMAGE_STATUS_hash = 1 →
       Completes (.keyAttest r slot) s fun t => keyPassed s t r 6 slot (s.keySlot slot) ∧
         ∀ i, i < 32 → t.tackReg r (17 + i) = word (leAt (s.attestHead ((s.keyData r).take 32) ++
           slice (Config.hmacSha256 (kdf (s.deriveFrom key) attestLabel ((s.keyData r).take 32) 256)
             (s.attestHead ((s.keyData r).take 32))) 0 32) (4 * i) 4)) ∧
     (∀ o, s.ownerOf r = some o → s.keyInRange o slot = true → s.tack.run = none → s.tack.loading = false →
       Completes (.keyInfo r slot) s fun t => keyPassed s t r 7 slot (s.keySlot slot) ∧
         t.tackReg r 17 = word (s.attributeWord slot)) ∧
     (∀ op, op < 16 → op = 0 ∨ 8 ≤ op → s.keyFree r slot → Completes (.keyUndefinedOpcode r op) s fun t =>
       t.tack.run = some { requester := r, opcode := op, slot := 0, status := 0x17 } ∧ t.keySlots = s.keySlots) ∧
     (∀ c, s.tack.run = some c → c.status < 0x10000 → Completes .keyCmdComplete s fun t =>
       t.tack.run = none ∧ t.fget KEY_STATUS_status = c.status ∧ t.isSet KEY_STATUS_done = true ∧
       t.isSet KEY_STATUS_busy = false ∧ (∀ i, i < 16 → t.tackReg c.requester (1 + i) = 0) ∧ t.keySlots = s.keySlots))

/-- PERSIST_LOAD_DONE, DEBUG_UNLOCK, TAMPER_ASSERT, SENSOR_DEASSERT, TAMPER_LATCH_CLEAR, PERSIST_ERASE_DONE and SCAN_ENABLE
(R88, R396 to R402): the load ends; a good token or a tamper with a response leaves no key; latches clear only where the
sensor is quiet; the erase leaves no record; a scan leaves no key and no slot value. Where the specification leaves room,
it follows the model's own reading in log entries 8, 104, 105 and 106. -/
def Obligations.TackRoomGuards : Prop :=
  ∀ s : State,
    (s.tack.loading = true → Completes .persistLoadDone s fun t =>
      t.tack.loading = false ∧ t.isSet KEY_STATUS_loaded = true ∧ (s.records = [] → t.keySlots = s.keySlots)) ∧
    (∀ token, s.coreOn = true → Completes (.debugUnlock token) s fun t =>
      if Config.sha256 (slice token 0 64) = Config.debugKeyDigest ∧
          Config.ecdsaVerify (slice token 0 64) (slice token 64 64)
            (Config.sha256 (wordsToBytes ((List.range 8).map fun i => s.reg (KEY_DBG_CHALLENGE i)) ++
              beBytes 4 (deviceId s.variant))) = true
      then t.isSet KEY_STATUS_debug = true ∧ t.keySlots = [] ∧ t.isSet (pendFld 1404) = true
      else t = s) ∧
    (∀ n, n < 4 → s.coreOn = true → s.tamperCode n ≠ 0 → Completes (.tamperAssert n) s fun t =>
      t.keySlots = [] ∧ t.isSet KEY_STATUS_closed = true ∧ t.isSet ⟨KEY_TAMPER, n, n⟩ = true ∧
      t.isSet ⟨KEY_TAMPER, 16 + n, 16 + n⟩ = true) ∧
    (∀ n, n < 4 → Completes (.sensorDeassert n) s fun t =>
      t.isSet ⟨KEY_TAMPER, 16 + n, 16 + n⟩ = false ∧ t.fget KEY_TAMPER_latch = s.fget KEY_TAMPER_latch) ∧
    (∀ r mask, s.coreOn = true → r = .svc ∨ r = .ostler → Completes (.tamperLatchClear r mask) s fun t =>
      (∀ n, n < 4 → bitOf (t.fget KEY_TAMPER_latch) n =
        (bitOf (s.fget KEY_TAMPER_latch) n && (!bitOf mask n || bitOf (s.fget KEY_TAMPER_active) n))) ∧
      t.fget KEY_TAMPER_active = s.fget KEY_TAMPER_active) ∧
    (s.tack.erasing = true → Completes .persistEraseDone s fun t =>
      t.tack.erasing = false ∧ t.records = [] ∧ t.fget KEY_PERSIST_used = 0) ∧
    (s.isSet KEY_STATUS_debug = true → Completes .scanEnable s fun t =>
      t.host.scan = true ∧ t.keySlots = [] ∧ ∀ a, slotAt 0 ≤ a → a < slotAt 262144 → memGet t.aper a = 0)

/-- JOB_SUBMIT, JOB_START, JOB_SUSPEND, JOB_COMPLETE, FRAME_JOB and FRAME_JOB_DONE (R368 to R380): a submission is queued; a
free engine runs the job that is next for it; a suspended job keeps its progress; a host job's result and completion
record are written; a frame of an entry becomes a job whose result enters pipeline B. Where the specification leaves room,
it follows the model's own reading in log entries 8, 95, 96, 97, 98 and 100. -/
def Obligations.CipherJobs : Prop :=
  ∀ s : State,
    (∀ f o desc, f < 32 → s.ownerOf (.func f) = some o → s.jobsOf f < 16 → Completes (.jobSubmit (.func f) f desc) s fun t =>
      t.cip.jobs = s.cip.jobs ++ [{ requester := f, owner := o, seq := s.cip.jobNext, desc := slice desc 0 64 }] ∧
      t.regs = s.regs) ∧
    (∀ n j bs, s.bulkOn = true → n = 4 ∧ s.ecdsaClaimed = false ∨ n < 4 ∧ enginePresent s.variant n = true → s.jobOn n = none →
      s.jobsWaiting.find? (fun j => jobAllows s.variant j.desc n) = some j → j.run = .waiting → jobRefusal s.variant j = none →
      jobKeyed j.desc = false → j.requester < 33 → j.frame = none → Completes (.jobStart n (some bs)) s fun t =>
        ∃ x, t.jobOn n = some x ∧ x.seq = j.seq ∧ x.source = bs ∧ x.desc = j.desc ∧ x.requester = j.requester) ∧
    (∀ j done, s.fget CIP_STATUS_ctx_free ≠ 0 → s.jobsWaiting.findSome? s.jobVictim = some j → j.rekeyed = false →
      done % 64 = 0 → j.progress ≤ done → done ≤ jobLen j.desc → Completes (.jobSuspend done) s fun t =>
        ∀ x ∈ t.cip.jobs, x.seq = j.seq → x = { j with run := .suspended, wasSuspended := true, progress := done }) ∧
    (∀ n j cycles, s.jobOn n = some j → j.frame = none → j.requester < 32 → j.rekeyed = false → j.progress = 0 →
      jobIrq j.desc = false → (jobResult j.key j.iv j.source j.desc).2 = true →
      (jobResult j.key j.iv j.source j.desc).1 ≠ [] → Completes (.jobComplete n false cycles) s fun t =>
        (∀ x ∈ t.cip.jobs, x.seq ≠ j.seq) ∧
        ∃ l, t.out = l ++ [.hostWrite (jobCmpl j.desc) (jobRecord j 0 false (jobOutLen j.desc) (jobIvOut j) cycles),
          .hostWrite (jobDst j.desc) (jobResult j.key j.iv j.source j.desc).1] ++ s.out) ∧
    (∀ c f rest i, c < 8 → s.egressQ (8 * 82 + c) = f :: rest → (∀ d, c < d → d < 8 → s.egressQ (8 * 82 + d) = []) →
      s.fjobMatch f = some i → f.lane = false → f.bytes.length ≤ 2048 → fjobHead f.bytes + 28 ≤ f.bytes.length →
      Completes .frameJob s fun t =>
        t.egressQ (8 * 82 + c) = rest ∧ ∃ j, t.cip.jobs = s.cip.jobs ++ [j] ∧ j.frame = some (f, i) ∧ j.owner = f.owner) ∧
    (∀ n j f i, s.jobOn n = some j → j.frame = some (f, i) → j.rekeyed = false → fjobHead f.bytes ≤ f.bytes.length →
      (jobResult j.key j.iv j.source j.desc).2 = true → Completes (.frameJobDone n) s fun t =>
        (∀ x ∈ t.cip.jobs, x.seq ≠ j.seq) ∧
        ∃ g, t.offeredTo 24 = s.offeredTo 24 ++ [g] ∧ g.owner = f.owner ∧ g.cls = f.cls ∧ g.src = 82 ∧
          g.bytes = f.bytes.take (fjobHead f.bytes) ++ (if jobOp j.desc then [] else j.iv) ++
            (jobResult j.key j.iv j.source j.desc).1)

/-! ### Power states, wake and the consent ring (R418 to R439) -/

/-- STATE_TARGET_WRITE, STATE_MOVE_DONE and PADDOCK_DRAIN_TIMEOUT (R419, R420): a steady device begins a move to another
target; at its end it is in that state, and in Paddock every lane and Team that the Wake Plan does not name is unpowered.
SLEEP_WRITE, UNDERVOLTAGE, OFF_LATCH_ACT, DISMOUNT_END and the steps of the power-down they start (R424, R425, R427): each
step follows the one before it; CORE_LINE_OFF keeps MRAM and the always-on registers; after PDIE_OFF the device is in
Stable, and a buck dropout takes every step that is left. Where the specification leaves room, it follows the model's own
reading in log entries 23, 111 and 112. -/
def Obligations.PowerStates : Prop :=
  (∀ s : State,
     (∀ r target, s.coreOn = true → s.privileged r = true → 1 ≤ target → target < 4 → target = 1 ∧ (∀ f, r ≠ .func f) ∨ 2 ≤ target →
       s.pwk.downStep = 0 → s.fget PWK_STATE_phase = 0 ∨ s.fget PWK_STATE_phase = 3 → s.fget PWK_STATE_state ≠ target →
       Completes (.stateTargetWrite r target) s fun t =>
         t.fget PWK_STATE_phase = 2 ∧ t.fget PWK_STATE_target = target ∧ t.fget PWK_STATE_state = s.fget PWK_STATE_state ∧
         t.fget PWK_CTRL_target = target ∧ t.lanesOff = s.lanesOff) ∧
     (s.fget PWK_STATE_phase = 2 → s.pwk.offLater = false → s.pwk.laterTarget = none →
       (s.fget PWK_STATE_target ≠ 1 → s.fget PWK_STATE_state ≠ 1 → Completes .stateMoveDone s fun t =>
         t.fget PWK_STATE_state = s.fget PWK_STATE_target ∧ t.fget PWK_STATE_phase = s.basePhase ∧
         t.isSet (pendFld 1153) = true ∧ t.lanesOff = s.lanesOff) ∧
       (s.fget PWK_STATE_target = 1 → ∀ c, c = .paddockDrainTimeout ∨ c = .stateMoveDone ∧ s.paddockTeams.all s.teamQuiet = true →
         Completes c s fun t =>
           t.fget PWK_STATE_state = 1 ∧ (∀ n ∈ s.paddockLanes, t.lanePowered n = false) ∧
           ∀ tm ∈ s.paddockTeams, t.teamPowered tm = false))) ∧
  (∀ s : State,
     (s.pwk.downStep = 0 →
       (∀ r, s.coreOn = true → s.privileged r = true → s.fget PWK_STATE_phase = 0 ∨ s.fget PWK_STATE_phase = 3 →
         Completes (.sleepWrite r) s fun t =>
           t.pwk.downStep = 1 ∧ t.fget PWK_STATE_phase = 4 ∧ t.pwk.dismount = none ∧ t.isSet (pendFld 1154) = true) ∧
       (s.powered = true → Completes .undervoltage s fun t => t.pwk.downStep = 1 ∧ t.pwk.undervolt = true) ∧
       (s.isSet PWK_STATE_off_latched = true → s.fget PWK_STATE_phase = 1 → Completes .offLatchAct s fun t =>
         t.pwk.downStep = 1 ∧ t.pwk.undervolt = s.pwk.undervolt) ∧
       (s.pwk.dismount.isSome = true → s.fget PWK_STATE_phase = 3 → Completes .dismountEnd s fun t =>
         t.pwk.downStep = 1 ∧ t.pwk.dismount = none)) ∧
     (s.pwk.downStep = 1 → Completes .detectorArm s fun t => t.pwk.downStep = 2 ∧ t.regs = s.regs) ∧
     (s.pwk.downStep = 2 → Completes .laneRelease s fun t =>
       t.pwk.downStep = 3 ∧ ∀ n, n < 48 → lanePresent s.variant n = true → t.lanePowered n = false) ∧
     (s.pwk.downStep = 3 → Completes .ethernetSilence s fun t =>
       t.pwk.downStep = 4 ∧ t.linkState = 0 ∧ ∀ n, n < 16 → portPresent s.variant n = true → t.portPowered n = false) ∧
     (s.pwk.downStep = 4 → s.nvmRun = none → Completes .coreLineOff s fun t =>
       t.pwk.downStep = 5 ∧ t.coreOn = false ∧ t.lineOn = false ∧ t.pdieOn = s.pdieOn ∧ t.mram = s.mram ∧
       t.slotA = s.slotA ∧ t.slotB = s.slotB ∧ (∀ a, aonReg a = true → t.reg a = s.reg a) ∧ t.keySlots = [] ∧ t.owners = []) ∧
     (s.pwk.downStep = 5 → s.coreOn = false → s.coldStart = false → Completes .pdieOff s fun t =>
       t.inStable = true ∧ t.pdieOn = false ∧ t.mram = s.mram) ∧
     (s.powered = true → s.pwk.downStep ≤ 4 → Completes .buckDropout s fun t =>
       t.inStable = true ∧ t.pdieOn = false ∧ t.pwk.undervolt = true ∧ t.nvmRun = none))

/-- WAKE_LINE_LOW, WAKE_TIMER, SERVICE_CS_WAKE and WAKE_START (R421 to R423, R430): in Stable each source is noted once, with
its time, and the next ACLK tick begins the wake; a low of 50 us or more counts. WAKE_ASSERT, WAKE_PULSE_END,
WAKE_HELD_RELEASE, WAKE_STUCK and WAKE_LINE_HIGH (R430): an assertion that the rate limit and the digest allow drives the
line; its end releases it; a held one follows; a line low for long is marked stuck until it rises. Where the specification
leaves room, it follows the model's own reading in log entries 113 and 114. -/
def Obligations.WakingAndWakeLine : Prop :=
  (∀ s : State, s.inStable = true →
     (∀ us, 50 ≤ us → s.wakeLineEn = true → s.pwk.stuck = false → (s.pwk.wakeReqs.any fun e => e.1.code == 4) = false →
       Completes (.wakeLineLow us) s fun t =>
         t = { s with pwk := { s.pwk with wakeReqs := s.pwk.wakeReqs ++ [({ code := 4 }, s.aclk)] } }) ∧
     (s.plan 0x10 4 ≠ 0 → (s.pwk.wakeReqs.any fun e => e.1.code == 6) = false → Completes .wakeTimer s fun t =>
       t = { s with pwk := { s.pwk with wakeReqs := s.pwk.wakeReqs ++ [({ code := 6 }, s.aclk)] } }) ∧
     ((s.pwk.wakeReqs.any fun e => e.1.code == 7) = false → Completes .serviceCsWake s fun t =>
       t = { s with pwk := { s.pwk with wakeReqs := s.pwk.wakeReqs ++ [({ code := 7 }, s.aclk)] } }) ∧
     (s.pwk.undervolt = false → s.pwk.wakeReqs ≠ [] → Completes .wakeStart s fun t =>
       t.boot = .aonUp ∧ t.pwk.wakeReqs = [] ∧ t.pwk.wakeOpen = true ∧ t.pwk.wakeNo = s.pwk.wakeNo + 1 ∧ t.mram = s.mram)) ∧
  (∀ s : State, s.coreOn = true →
     (∀ r, s.privileged r = true → s.fget GLB_IMAGE_STATUS_hash = 1 → s.isSet PWK_WAKE_STATUS_driving = false →
       s.wakeRateOk = true → Completes (.wakeAssert r) s fun t =>
         t.isSet PWK_WAKE_STATUS_driving = true ∧ t.isSet PWK_WAKE_STATUS_level = false ∧ t.isSet (pendFld 1165) = true) ∧
     (s.isSet PWK_WAKE_STATUS_driving = true → s.pwk.held = false → Completes .wakePulseEnd s fun t =>
       t.isSet PWK_WAKE_STATUS_driving = false ∧ t.isSet PWK_WAKE_STATUS_level = true) ∧
     (s.pwk.held = true → s.fget GLB_IMAGE_STATUS_hash = 1 → s.isSet PWK_WAKE_STATUS_driving = false → s.wakeRateOk = true →
       Completes .wakeHeldRelease s fun t => t.isSet PWK_WAKE_STATUS_driving = true ∧ t.pwk.held = false) ∧
     Completes .wakeStuck s (fun t =>
       t.pwk.stuck = true ∧ t.isSet PWK_WAKE_STATUS_stuck = true ∧ t.isSet (pendFld 1167) = true) ∧
     (s.isSet PWK_WAKE_STATUS_driving = false → Completes .wakeLineHigh s fun t =>
       t.pwk.stuck = false ∧ t.isSet PWK_WAKE_STATUS_level = true ∧ t.isSet PWK_WAKE_STATUS_stuck = false))

/-- CONSENT_WRITE, QUIET_TIME_EXPIRY and MIN_AWAKE_EXPIRY (R431): each source writes its own consent bit, and each time that
runs out meets its condition. RING_MESSAGE, RING_SILENCE_EXPIRY, HOP_TIMEOUT and CONFIRM_SILENCE_EXPIRY (R434 to R438):
AWAKE ends a consent; a ready member adds its consent to a READY-SLEEP and passes it on; a confirm round that is complete
starts the dismount timer; a silent ring lets a ready member begin a round; an unanswered message is sent again, then its
member skipped. Where the specification leaves room, it follows the model's own reading in log entries 115 and 116. -/
def Obligations.ReadinessAndConsent : Prop :=
  (∀ s : State, s.coreOn = true →
     (∀ v, Completes (.consentWrite .svc v) s (fun t => t.fget PWK_CONSENT_svc = bitsOf v 2 2) ∧
       Completes (.consentWrite .ostler v) s (fun t => t.fget PWK_CONSENT_ostler = bitsOf v 1 1)) ∧
     Completes (.quietTimeExpiry true) s (fun t => t.pwk.quietWake = true) ∧
     Completes (.quietTimeExpiry false) s (fun t => t.pwk.quietLanes = true) ∧
     Completes .minAwakeExpiry s (fun t => t.pwk.minAwake = true)) ∧
  (∀ s : State, s.ringOn = true →
     (∀ bytes, s.ringDiscards bytes = false → (ringParse bytes).state = 0 → s.pwk.downStep = 0 →
       Completes (.ringMessage bytes) s fun t =>
         t.pwk.dismount = none ∧ t.pwk.consented = false ∧ t.pwk.confirmed = false ∧ t.isSet (pendFld 1161) = true) ∧
     (∀ bytes m, m = ringParse bytes → s.ringDiscards bytes = false → m.state = 1 → m.next = s.selfIndex →
       m.initiator ≠ s.selfIndex → s.pwk.answered = none → s.isSet PWK_READY_ready = true →
       nextMember m.present s.selfIndex ≠ s.selfIndex → Completes (.ringMessage bytes) s fun t =>
         t.pwk.consented = true ∧ ∃ b l, t.pwk.waiting = some (b, false) ∧ bitOf b.consent s.selfIndex = true ∧
           b.sender = s.selfIndex ∧ b.next = nextMember m.present s.selfIndex ∧ b.round = m.round ∧
           t.out = .ring (ringPayload (s.plan 0x26 1) b s.pwk.seq) :: l ++ s.out) ∧
     (∀ bytes m, m = ringParse bytes → s.ringDiscards bytes = false → m.state = 2 → m.next = m.initiator →
       s.pwk.dismount = none → s.isSet PWK_READY_ready = true → Completes (.ringMessage bytes) s fun t =>
         t.pwk.dismount = some s.ticks ∧ t.pwk.confirmed = true ∧ t.isSet (pendFld 1160) = true) ∧
     (s.isSet PWK_READY_ready = false → Completes .ringSilenceExpiry s fun t =>
       t = { s with pwk := { s.pwk with silent := true } }) ∧
     (s.isSet PWK_READY_ready = true → s.pwk.guardWait = false → s.pwk.dismount = none →
       Completes .ringSilenceExpiry s fun t =>
         t.pwk.consented = true ∧ t.fget PWK_RING_STATUS_round = (s.fget PWK_RING_STATUS_round + 1) % 65536) ∧
     (∀ m, s.pwk.waiting = some (m, false) → Completes .hopTimeout s fun t =>
       t.pwk.waiting = some (m, true) ∧ t.out = .ring (ringPayload (s.plan 0x26 1) m s.pwk.seq) :: s.out) ∧
     (∀ m, s.pwk.waiting = some (m, true) → Completes .hopTimeout s fun t =>
       t.pwk.skipped = withBit s.pwk.skipped m.next true ∧ t.isSet (pendFld 1162) = true) ∧
     (∀ ms, s.pwk.forwarded = some ms → s.pwk.dismount = none → Completes .confirmSilenceExpiry s fun t =>
       t.pwk.dismount = some s.ticks ∧ t.pwk.confirmed = true))

/-! ### Load outputs, profiles, converter and battery (R446 to R465) -/

/-- Nothing but its command holds output j off: no cause of R456, no trip, no latch, no off-time, and PLK is up. -/
def Sys2Proof.Machine.State.outFree (s : State) (j : Nat) : Prop :=
  s.outHeld j = false ∧ (s.outp j).tripped = false ∧ (s.outp j).latched = false ∧ (s.outp j).minOff = false ∧
    (s.link 17).down = false

/-- The duty of a period that the slew limit clips. -/
def Sys2Proof.Machine.slewed (target prev limit : Nat) : Nat := min (max target (prev - limit)) (prev + limit)

/-- OUTPUT_COMMAND, PWM_PERIOD, MIN_OFF_EXPIRY, OUTPUT_RETRY, RETRY_BUDGET_RESTORE and PLK_LOST_CLEAR (R446 to R456): a free
switch follows its commanded duty at once, a PWM output from its next period on, clipped to the slew limit; a tripped
output tries again. Where the specification leaves room, it follows the model's own reading in log entries 31 and 118. -/
def Obligations.OutputCommands : Prop :=
  ∀ (s : State) (j : Nat), j < 20 →
    (∀ r v, outputPresent s.variant j = true → s.mayUse r (s.fget (PWR_OUT_CFG_owner j)) = true →
      s.fget (PWR_OUT_CFG_mode j) = 1 → s.fget (PWR_OUT_CFG_source j) = 0 → s.outFree j →
      Completes (.outputCommand r j v) s fun t =>
        t.fget (PWR_OUT_CMD_duty j) = getField v 15 0 ∧ (t.outp j).on = decide (getField v 15 0 ≠ 0) ∧
        (getField v 15 0 ≠ 0 → (t.outp j).drive = 65536 ∧ t.fget (PWR_OUT_STATUS_state j) = 1) ∧
        ∀ i, i ≠ j → t.outp i = s.outp i) ∧
    (∀ d, outputPresent s.variant j = true → s.fget (PWR_OUT_CFG_mode j) = 2 → s.fget (PWR_OUT_CFG_source j) = 0 →
      s.isSet (PWR_OUT_CFG_trig_en j) = true → s.outFree j → (s.outp j).on = true → (s.outp j).cmdDuty < 65536 →
      d = slewed (s.fget (PWR_OUT_CMD_duty j)) (s.outp j).cmdDuty (s.hobLow (0x410 + 32 * j + 12) 2 65535) → d ≠ 0 →
      Completes (.pwmPeriod j) s fun t =>
        (t.outp j).on = true ∧ (t.outp j).cmdDuty = d ∧ (t.outp j).drive = pwmDrive d (s.fget (PWR_OUT_PWM_pwm_hz j)) ∧
        t.fget (PWR_OUT_STATUS_duty_now j) = d) ∧
    ((s.outp j).minOff = true → (s.outp j).on = false → Completes (.minOffExpiry j) s fun t => (t.outp j).minOff = false) ∧
    ((s.outp j).tripped = true → (s.outp j).minOff = false → 2 * (s.outp j).energy ≤ (s.outLimit j).1 →
      Completes (.outputRetry j) s fun t => (t.outp j).tripped = false ∧ (t.outp j).retryTick = some s.ticks) ∧
    Completes (.retryBudgetRestore j) s (fun t => t = s.setOut j { s.outp j with used := 0, retryTick := none }) ∧
    ((s.link 17).down = false → Completes .plkLostClear s fun t => t.isSet PWR_STATUS_plk_lost = false)

/-- SHORT_CIRCUIT, INRUSH, OUTPUT_THERMAL, CURRENT_SAMPLE, SHED_REEVALUATE, MAX_ON_EXPIRY and OUTPUT_FAULT_CLEAR (R450 to
R454): a trip turns its output off with the cause shown; a sample moves every accumulator; a shed takes the output that
carries most; a clear leaves the bits whose condition is still present. Where the specification leaves room, it follows
the model's own reading in log entries 118 and 119. -/
def Obligations.OutputProtection : Prop :=
  ∀ s : State,
    (∀ j c cause, j < 20 → outputPresent s.variant j = true → (s.outp j).on = true →
      c = .shortCircuit j ∧ cause = PWR_OUT_FAULT_short_circuit j ∨ c = .inrush j ∧ cause = PWR_OUT_FAULT_inrush j ∨
        c = .outputThermal j ∧ cause = PWR_OUT_FAULT_thermal j →
      Completes c s fun t =>
        (t.outp j).on = false ∧ t.isSet cause = true ∧ ((t.outp j).tripped = true ∨ (t.outp j).latched = true) ∧
        ∀ i, i ≠ j → t.outp i = s.outp i) ∧
    (∀ l, s.pdieOn = true → Completes (.currentSample l) s fun t =>
      ∀ j, j < 20 → outputPresent s.variant j = true →
        t.fget (PWR_OUT_MEAS_current j) = min (l.getD j 0) 65535 ∧
        (t.outp j).energy = energyNext (s.outp j).energy (l.getD j 0) (25 * s.fget (PWR_OUT_CFG_inom j))) ∧
    (∀ g j, g < 5 → s.isSet (groupFld g) = true → j ∈ scopeOuts g → (s.outp j).on = true →
      s.fget (PWR_OUT_MEAS_current j) ≠ 0 →
      (∀ k ∈ scopeOuts g, k ≠ j → (s.outp k).on = true → s.fget (PWR_OUT_MEAS_current k) < s.fget (PWR_OUT_MEAS_current j)) →
      Completes (.shedReevaluate g) s fun t =>
        (t.outp j).on = false ∧ (t.outp j).latched = true ∧
        t.isSet (if g < 4 then PWR_OUT_FAULT_shed_group j else PWR_OUT_FAULT_shed_pkg j) = true) ∧
    (∀ j, j < 20 → (s.outp j).on = true → Completes (.maxOnExpiry j) s fun t =>
      (t.outp j).on = false ∧ t.isSet (PWR_OUT_FAULT_hobble_on j) = true) ∧
    (∀ r j v active, j < 20 → outputPresent s.variant j = true → s.mayUse r (s.fget (PWR_OUT_CFG_owner j)) = true →
      Completes (.outputFaultClear r j v active) s fun t =>
        ∀ i, i < 11 → t.isSet ⟨PWR_OUT_FAULT j, i, i⟩ =
          (s.isSet ⟨PWR_OUT_FAULT j, i, i⟩ && (!bitOf v i || bitOf active i || s.faultNow j i)))

/-- OPEN_LOAD, OFF_STATE_CHECK and OFF_STATE_PULLUP_END (R455), PROFILE_RUN, PROFILE_STOP, PROFILE_JUMP and PROFILE_SAMPLE
(R458, R459): a finding sets its fault bit; a profile that runs takes one sample after the other. Where the specification
leaves room, it follows the model's own reading in log entries 119 and 120. -/
def Obligations.DiagnosticsAndProfiles : Prop :=
  ∀ (s : State) (j : Nat), j < 20 → outputPresent s.variant j = true →
    ((s.outp j).on = true → Completes (.openLoad j) s fun t => t.isSet (PWR_OUT_FAULT_open_load j) = true ∧ t.outs = s.outs) ∧
    (s.pdieOn = true → (s.outp j).on = false →
      Completes (.offStateCheck j true) s (fun t => t.isSet (PWR_OUT_FAULT_short_vload j) = true ∧ t.outs = s.outs) ∧
      Completes (.offStateCheck j false) s (fun t => t = s.setOut j { s.outp j with pullup := true })) ∧
    ((s.outp j).pullup = true →
      Completes (.offStatePullupEnd j true) s (fun t =>
        (t.outp j).pullup = false ∧ t.isSet (PWR_OUT_FAULT_open_load j) = true) ∧
      Completes (.offStatePullupEnd j false) s (fun t => t = s.setOut j { s.outp j with pullup := false })) ∧
    (∀ r v, s.mayUse r (s.fget (PWR_OUT_CFG_owner j)) = true →
      (s.isSet (PWR_PROF_STATUS_running j) = false → Completes (.profileRun r j v) s fun t =>
        t.isSet (PWR_PROF_STATUS_running j) = true ∧ (t.outp j).starting = true) ∧
      Completes (.profileStop r j v) s (fun t =>
        t.isSet (PWR_PROF_STATUS_running j) = false ∧ (t.outp j).due = 0) ∧
      Completes (.profileJump r j v) s (fun t => t.isSet (PWR_PROF_STATUS_jump_pending j) = true)) ∧
    ((s.outp j).due ≠ 0 → s.isSet (PWR_PROF_STATUS_running j) = true → (s.outp j).starting = false →
      s.fget (PWR_PROF_STATUS_sample j) + 1 < s.fget (PWR_PROF_SEG_samples j (s.fget (PWR_PROF_STATUS_segment j))) →
      s.fget (PWR_OUT_CFG_mode j) ≠ 1 → Completes (.profileSample j) s fun t =>
        t.fget (PWR_PROF_STATUS_sample j) = s.fget (PWR_PROF_STATUS_sample j) + 1 ∧
        t.fget (PWR_PROF_STATUS_segment j) = s.fget (PWR_PROF_STATUS_segment j) ∧ (t.outp j).due = (s.outp j).due - 1 ∧
        (s.fget (PWR_OUT_CFG_source j) = 1 → (t.outp j).srcDuty =
          profDuty (s.fget (PWR_PROF_SEG_start j (s.fget (PWR_PROF_STATUS_segment j))))
            (s.fget (PWR_PROF_SEG_end j (s.fget (PWR_PROF_STATUS_segment j))))
            (s.fget (PWR_PROF_SEG_samples j (s.fget (PWR_PROF_STATUS_segment j)))) (s.fget (PWR_PROF_STATUS_sample j) + 1)))

/-- SAR_SEQUENCE_GO, SAR_PERIOD and SEQUENCE_DONE (R461, R462), BAT_MEAS_START, BAT_PERIOD, BAT_MEAS_DONE, OPEN_WIRE_START and
OPEN_WIRE_PHASE (R463, R465): a sequence runs on a free converter and leaves its results; a measurement leaves its
readings; the open-wire test goes through its phases wire by wire. Where the specification leaves room, it follows the
model's own reading in log entries 121 and 122. -/
def Obligations.ConverterAndBattery : Prop :=
  ∀ s : State,
    (∀ q c, q < 8 → s.convOn = true → s.fget (BAT_SEQ_CTRL_count q) ≠ 0 → s.conv.run = none → s.conv.pend = [] →
      (∃ r, s.privileged r = true ∧ s.fget (BAT_SEQ_CTRL_mode q) = 0 ∧ c = .sarSequenceGo r q) ∨
        s.fget (BAT_SEQ_CTRL_mode q) = 2 ∧ c = .sarPeriod q →
      Completes c s fun t => t = s.setConv { s.conv with run := some q }) ∧
    (∀ q l, q < 8 → s.conv.run = some q → s.isSet (BAT_SEQ_CTRL_slot_en q) = false → s.fget (BAT_SEQ_CTRL_count q) ≤ 16 →
      Completes (.sequenceDone l) s fun t =>
        (∀ i, i < s.fget (BAT_SEQ_CTRL_count q) →
          t.fget (if i % 2 = 0 then ⟨BAT_SEQ_RES q (i / 2), 11, 0⟩ else ⟨BAT_SEQ_RES q (i / 2), 27, 16⟩) =
            l.getD i 0 % 4096) ∧
        t.conv.run = s.conv.pend.head? ∧ t.conv.pend = s.conv.pend.drop 1 ∧ t.isSet (pendFld (1248 + q)) = true) ∧
    (s.batOn = true → s.conv.measuring = false → s.conv.test = none →
      ∀ c, (∃ r, s.privileged r = true ∧ c = .batMeasStart r) ∨ c = .batPeriod → Completes c s fun t =>
        t.conv.measuring = true ∧ t.fget BAT_BAL_ACTIVE_active = 0) ∧
    (∀ l v, s.conv.measuring = true → s.fget BAT_CFG_cell_count ≤ 16 → Completes (.batMeasDone l v) s fun t =>
      t.conv.measuring = false ∧ t.isSet BAT_STATUS_meas_valid = true ∧ t.isSet (pendFld 1216) = batPresent s.variant ∧
      ∀ j, j < s.fget BAT_CFG_cell_count → t.cell j = l.getD j 0 % 65536) ∧
    (∀ r, s.privileged r = true → s.batOn = true → s.conv.test = none → Completes (.openWireStart r) s fun t =>
      t.conv.test = some (0, 0) ∧ t.isSet BAT_STATUS_ow_busy = true ∧ t.fget BAT_BAL_ACTIVE_active = 0) ∧
    (∀ k l,
      (s.conv.test = some (k, 0) → Completes (.openWirePhase l) s fun t =>
        t.conv.test = some (k, 1) ∧ t.conv.before = l.map (· % 65536)) ∧
      (s.conv.test = some (k, 1) → Completes (.openWirePhase l) s fun t => t = s.setConv { s.conv with test := some (k, 2) }) ∧
      (s.conv.test = some (k, 2) → Completes (.openWirePhase l) s fun t => t.conv.test = some (k, 3)) ∧
      (s.conv.test = some (k, 3) → k < s.fget BAT_CFG_cell_count →
        Completes (.openWirePhase l) s fun t => t = s.setConv { s.conv with test := some (k + 1, 0) }) ∧
      (s.conv.test = some (k, 3) → s.fget BAT_CFG_cell_count ≤ k → Completes (.openWirePhase l) s fun t =>
        t.conv.test = none ∧ t.isSet BAT_STATUS_ow_busy = false ∧ t.isSet BAT_OW_RESULT_valid = true))

/-! ### Time bases (R333 to R358) -/

/-- INCREMENT_COMMIT, TIME_STEP, THRESH_WRITE and THRESH_RESTORE (R334, R337 to R339): an increment in range is in force; a
step within the threshold, or a first one, moves the domain's time by itself at the next tick once the cinch has come, and
another is refused; the threshold only rises, until it is restored. SYNC_REPORT, SYNC_LOST and WAKE_GUARD_EXPIRY (R341 to
R344): the fourth good report in a row puts a domain inside its guard; a report beyond the guard, or silence, takes it
out. Where the specification leaves room, it follows the model's own reading in log entries 90 and 93. -/
def Obligations.TimeBases : Prop :=
  (∀ (s : State) (r : Requester) (d : Nat), d < 4 → s.privileged r = true →
     (∀ v, s.isSet TMB_MODE_mode = true ∨ d = 0 →
       (incMin ≤ v % 256 * 2 ^ 32 + (s.reg (TMB_INC_FRAC d)).toNat → v % 256 * 2 ^ 32 + (s.reg (TMB_INC_FRAC d)).toNat ≤ incMax →
         Completes (.incrementCommit r d v) s fun t => t.increment d = v % 256 * 2 ^ 32 + (s.reg (TMB_INC_FRAC d)).toNat) ∧
       (v % 256 * 2 ^ 32 + (s.reg (TMB_INC_FRAC d)).toNat < incMin ∨ incMax < v % 256 * 2 ^ 32 + (s.reg (TMB_INC_FRAC d)).toNat →
         Completes (.incrementCommit r d v) s fun t =>
           t.increment d = s.increment d ∧ t.isSet (TMB_DOM_STATUS_refused d) = true)) ∧
     ((s.stepOf d).natAbs ≤ (s.reg (TMB_THRESH d)).toNat ∨ s.isSet (TMB_DOM_STATUS_synced_once d) = false →
       s.cinched = true → 0 ≤ (s.tick.timeNs d : Int) + s.stepOf d → (s.tick.timeNs d : Int) + s.stepOf d < 2 ^ 64 →
       Completes (.timeStep r d) s fun t =>
         (t.timeNs d : Int) = s.tick.timeNs d + s.stepOf d ∧ t.isSet (TMB_DOM_STATUS_synced_once d) = true ∧
         t.fget (TMB_DOM_STATUS_good_run d) = 0) ∧
     ((s.reg (TMB_THRESH d)).toNat < (s.stepOf d).natAbs → s.isSet (TMB_DOM_STATUS_synced_once d) = true →
       Completes (.timeStep r d) s fun t =>
         t.timeNs d = s.tick.timeNs d ∧ t.isSet (TMB_DOM_STATUS_refused d) = true) ∧
     (∀ v, Completes (.threshWrite r d v) s fun t =>
       (t.reg (TMB_THRESH d)).toNat = max (s.reg (TMB_THRESH d)).toNat v.toNat ∧
       ∀ a, a ≠ TMB_THRESH d → t.reg a = s.reg a) ∧
     Completes (.threshRestore r d) s (fun t =>
       t.reg (TMB_THRESH d) = word (look zero s.planThresh d) ∧ ∀ a, a ≠ TMB_THRESH d → t.reg a = s.reg a)) ∧
  (∀ (s : State) (d : Nat), d < 4 → s.isSet (TMB_DOM_CFG_role d) = false →
     (∀ r offset, s.privileged r = true →
       16 ≤ s.fget (TMB_DOM_CFG_sync_port d) ∨ s.isSet (TMB_PTP_PORT_as_capable (s.fget (TMB_DOM_CFG_sync_port d))) = true →
       (offset.toInt.natAbs ≤ (s.reg (TMB_GUARD d)).toNat → look zero s.lastReport d ≠ 0 →
         s.ticks + 1 - look zero s.lastReport d ≤ s.reportWindow d → s.fget (TMB_DOM_STATUS_good_run d) = 3 →
         Completes (.syncReport r d offset) s fun t => t.inside d = true ∧ t.fget (TMB_DOM_STATUS_good_run d) = 4) ∧
       ((s.reg (TMB_GUARD d)).toNat < offset.toInt.natAbs → Completes (.syncReport r d offset) s fun t =>
         t.inside d = false ∧ t.fget (TMB_DOM_STATUS_good_run d) = 0)) ∧
     (s.inside d = true → Completes (.syncLost d) s fun t => t.inside d = false ∧ t.isSet (pendFld (1360 + d)) = true) ∧
     (s.pwk.guardWait = true → Completes .wakeGuardExpiry s fun t => t.pwk.guardWait = false))

/-- TRIGGER_TARGET_COMMIT, TRIGGER_FIRE and GPIO_PULSE_END (R343 to R347): a comparator whose time has come counts, reaches
the Coursers that select it, and is then disabled or set beyond the time; outside a guard that it needs it neither counts
nor reaches a Courser; a pin falls once no pulse drives it. CAPTURE_EDGE, CAPTURE_FIFO_POP, PTP_FIFO_POP and
TIME_CAPTURE_READ (R340, R348, R357, R358): an edge that is selected enters a FIFO that has room, with the time at which
it reached the pin; reading the last word of an entry takes it out; a read of a domain's time captures it for its
requester. Where the specification leaves room, it follows the model's own reading in log entries 53, 91 and 92. -/
def Obligations.TriggersAndCaptures : Prop :=
  (∀ (s : State) (n : Nat), n < 32 →
     (∀ r hi, s.privileged r = true → Completes (.triggerTargetCommit r n hi) s fun t =>
       look zero t.trigTarget n = hi.toNat * 2 ^ 32 + (s.reg (TMB_TRIG_TGT_LO n)).toNat) ∧
     (s.isSet (TMB_TRIG_CTRL_enable n) = true → look zero s.trigTarget n ≤ s.timeNs (s.fget (TMB_TRIG_CTRL_domain n)) →
       (s.isSet (TMB_TRIG_CTRL_need_guard n) = false ∨ s.inside (s.fget (TMB_TRIG_CTRL_domain n)) = true →
         Completes (.triggerFire n) s fun t =>
           (t.reg (TMB_TRIG_COUNT n)).toNat = min ((s.reg (TMB_TRIG_COUNT n)).toNat + 1) 0xFFFFFFFF ∧
           (∀ k, k < 128 → bitOf (s.reg (CRS_CTRIG (k / 8) (k % 8))).toNat n = true → (s.crs k).named = true →
             (t.crs k).trig = true) ∧
           (if s.reg (TMB_TRIG_PERIOD n) = 0 then t.isSet (TMB_TRIG_CTRL_enable n) = false
             else s.timeNs (s.fget (TMB_TRIG_CTRL_domain n)) < look zero t.trigTarget n)) ∧
       (s.isSet (TMB_TRIG_CTRL_need_guard n) = true → s.inside (s.fget (TMB_TRIG_CTRL_domain n)) = false →
         Completes (.triggerFire n) s fun t =>
           t.reg (TMB_TRIG_COUNT n) = s.reg (TMB_TRIG_COUNT n) ∧ t.teams = s.teams ∧ t.conv = s.conv)) ∧
     (s.pulsing n = true → Completes (.gpioPulseEnd n) s fun t =>
       t.pulsing n = false ∧ t.regs = s.regs ∧
       (t.pinHigh (s.fget (TMB_TRIG_CTRL_gpio n)) = false → s.isSet (TMB_TRIG_CTRL_pulse_en n) = true →
         t.out = .gpio (s.fget (TMB_TRIG_CTRL_gpio n)) false :: s.out) ∧
       (t.pinHigh (s.fget (TMB_TRIG_CTRL_gpio n)) = s.pinHigh (s.fget (TMB_TRIG_CTRL_gpio n)) → t.out = s.out))) ∧
  (∀ (s : State) (r : Requester),
     (∀ k rising age, k < 16 → s.isSet (TMB_CAP_CTRL_enable k) = true →
       bitOf (s.fget (TMB_CAP_CTRL_edge k)) (if rising then 0 else 1) = true → (s.captureFifo k).length < 4 →
       Completes (.captureEdge k rising age) s fun t =>
         t.captureFifo k = s.captureFifo k ++ [s.timeNs (s.fget (TMB_CAP_CTRL_domain k)) - age] ∧
         t.fget (TMB_CAP_STATUS_level k) = (s.captureFifo k).length + 1) ∧
     (∀ k, k < 16 → (s.ownerOf r).isSome = true → Completes (.captureFifoPop r k) s fun t =>
       t.captureFifo k = (s.captureFifo k).drop 1 ∧ t.out = .read r (s.reg (TMB_CAP_TS_HI k)) :: s.out) ∧
     (∀ n tx, portPresent s.variant n = true → (s.ownerOf r).isSome = true → Completes (.ptpFifoPop r n tx) s fun t =>
       t.ptpFifo n tx = (s.ptpFifo n tx).drop 1 ∧
       t.out = .read r (s.reg (if tx then TMB_PTP_TX n 2 else TMB_PTP_RX n 2)) :: s.out) ∧
     (∀ d, d < 4 → (s.ownerOf r).isSome = true → Completes (.timeCaptureRead r d) s fun t =>
       look zero t.timeCapture (4 * requesterIndex r + d) = s.timeNs d ∧ t.out = .read r (word (s.timeNs d)) :: s.out ∧
       t.regs = s.regs))

/-! ### Switch core, traffic control and forwarding (R184 to R267) -/

/-- SCHEDULER_MATCHING, POINTER_SWEEP_END, PARITY_WINDOW_END and HOL_STALL (R225, R230, R231, R233, R235, R239, R245): the one
pair that a matching accepts moves the pointers past itself, takes the head frame of its VOQ, writes it to its egress
store and frees it with its last cell; a sweep and a parity window end their causes; a stalled head is marked and raised.
Where the specification leaves room, it follows the model's own reading in log entries 65, 66 and 67. -/
def Obligations.SwitchScheduling : Prop :=
  ∀ s : State,
    (∀ p o c q id rest st, s.memOk = true → s.coreOn = true → s.isSet SWC_SCHED_STATUS_mode = false → s.anyCause = false →
      s.fget SWC_SCHED_STATUS_parity_left = 0 → s.pairs = [] → s.newPairs = [(p, o, c)] → p < 32 → o < 32 → o ≠ 26 →
      c < 8 → 16 ≤ q → (st.frame.lane = true → q < 64) → s.voq (voqKey p o c) = id :: rest → s.storedAt id = some st → st.outs = [(o, [q])] →
      st.cells = 1 → st.arriving = false → (s.owner st.frame.owner).keyValid = true →
      (s.owner st.frame.owner).keyDraw = st.epoch → Completes (.schedulerMatching none none false) s fun t =>
        t.voq (voqKey p o c) = rest ∧ t.storedAt id = none ∧ t.pair o = none ∧
        t.egressQ (egressKey q st.cls) =
          s.egressQ (egressKey q st.cls) ++ [{ st.frame with out := q, cls := st.cls, sid := some id }] ∧
        look (fun _ => 0) t.grantPtr o = (p + 1) % 32 ∧ look (fun _ => 0) t.acceptPtr p = (o + 1) % 32) ∧
    (s.isSet SWC_SCHED_STATUS_sweep_busy = true → Completes .pointerSweepEnd s fun t =>
      t.isSet SWC_SCHED_STATUS_sweep_busy = false ∧ t.isSet SWC_SCHED_STATUS_cause_init = false ∧ t.stored = s.stored ∧
      (s.isSet SWC_SCHED_STATUS_cause_init = true → t.grantPtr = s.grantPtr ∧ t.acceptPtr = s.acceptPtr)) ∧
    (s.isSet SWC_SCHED_STATUS_cause_parity = true → s.fget SWC_SCHED_STATUS_parity_left ≤ 1 →
      Completes .parityWindowEnd s fun t =>
        t.isSet SWC_SCHED_STATUS_cause_parity = false ∧ t.fget SWC_SCHED_STATUS_parity_left = 0) ∧
    (∀ p o c id rest st, s.fget SWC_STALL_LIMIT_limit ≠ 0 → p < 32 → o < 32 → c < 8 → s.voq (voqKey p o c) = id :: rest →
      s.storedAt id = some st → st.stalled = false → Completes (.holStall p o c) s fun t =>
        t.storedAt id = some { st with stalled := true } ∧ t.isSet (pendFld 968) = true ∧ t.voqs = s.voqs)

/-- STREAM_GATE_ENTRY, SCHOOL_START, SCHOOL_WINDOW_END, STM_SCRUB_READ and STM_REPAIR_DONE (R253, R262, R263, R266): a gate
takes the entry of its time; Schooling starts with every learning record at zero and ends with it enforcing; the scrubber
reads on and queues a bad entry, and a repaired policer holds what the image placed. Where the specification leaves room,
it follows the model's own reading in log entries 60, 70 and 71. -/
def Obligations.TrafficControl : Prop :=
  ∀ s : State,
    (∀ g, 1 ≤ g → g < 32 → s.isSet (STM_SGATE_CTRL_enable g) = true → Completes (.streamGateEntry g) s fun t =>
      look (fun _ => 0) t.sgateEntry g = s.sgateNow g ∧ t.regs = s.regs ∧ t.aper = s.aper) ∧
    (∀ r v, s.privileged r = true → Completes (.schoolStart r v) s fun t =>
      t.isSet STM_SCHOOL_CTRL_learning = true ∧ t.fget STM_SCHOOL_ELAPSED_seconds = 0 ∧ t.schoolWindows = 0 ∧
      t.fget STM_SCHOOL_CTRL_default_margin = getField v 12 10 ∧
      ∀ i, i ∈ s.usedEntries .school → s.eget (schoolAt i) SCH_state = 1 →
        t.eget (schoolAt i) SCH_state = 1 ∧ t.eget (schoolAt i) SCH_rate = 0 ∧ t.eget (schoolAt i) SCH_burst = 0 ∧
        t.schooling i = {}) ∧
    (s.coreOn = true → s.isSet STM_SCHOOL_CTRL_learning = true → s.schoolWindows < 99 →
      Completes .schoolWindowEnd s fun t =>
        t.schoolWindows = s.schoolWindows + 1 ∧ t.unknownRaised = false ∧ t.isSet STM_SCHOOL_CTRL_learning = true) ∧
    (s.coreOn = true → s.isSet STM_SCHOOL_CTRL_learning = true → s.schoolWindows = 99 →
      s.fget STM_SCHOOL_PERIOD_seconds ≤ s.fget STM_SCHOOL_ELAPSED_seconds + 1 → Completes .schoolWindowEnd s fun t =>
        t.isSet STM_SCHOOL_CTRL_learning = false ∧ t.isSet (pendFld 1430) = true ∧
        ∀ i, i ∈ s.usedEntries .school → s.eget (schoolAt i) SCH_state = 1 → t.eget (schoolAt i) SCH_state = 2) ∧
    (s.cinched = true → getField (s.reg STM_SCRUB) 15 0 ≠ 0 → Completes (.stmScrubRead none) s fun t =>
      t.stmScrub = (s.stmScrub + 1) % 37888 ∧
      (s.isBad ((stmEntry s.stmScrub).1.at (stmEntry s.stmScrub).2) = true →
        (stmEntry s.stmScrub).1.at (stmEntry s.stmScrub).2 ∈ t.repairs)) ∧
    (∀ i, i < 8192 → Tab.policer.at i ∈ s.repairs → Completes (.stmRepairDone (8192 + i)) s fun t =>
      memRead t.aper (Tab.policer.at i) 16 = memRead s.aperImage (Tab.policer.at i) 16 ∧
      t.isBad (Tab.policer.at i) = false ∧ Tab.policer.at i ∉ t.repairs)

/-- An entry of the FDB that learning, ageing and notices may change: good, dynamic and unlocked. -/
def Sys2Proof.Machine.State.fdbOpen (s : State) (a : Nat) : Prop :=
  s.isBad a = false ∧ s.eIs a FDB_static = false ∧ s.eIs a FDB_lock = false

/-- A key that fits an FDB entry. -/
def Sys2Proof.Machine.FdbKey.fits (k : FdbKey) : Prop := k.mac < 2 ^ 48 ∧ k.vid < 4096

/-- LEARN_APPLY, PEER_QUERY, PEER_ANSWER, MOVE_NOTIFY, AGEING_TICK, STREAM_ID_RELEASE and FRER_RESET (R188, R197 to R201,
R206): the oldest learn request moves or creates its entry; a query is answered to the other pipeline, and a hit there
makes a peer entry; a notice removes a local entry; a visit ages an entry or removes it; an ID and a recovery entry are
released. Where the specification leaves room, it follows the model's own reading in log entries 55, 56 and 58. -/
def Obligations.FdbMaintenance : Prop :=
  ∀ (s : State) (p : Nat), p < 2 →
    (∀ q rest n, (s.pipe p).learn = q :: rest → s.fdbSame p q.key = [n] → s.fdbOpen (fdbAddr p n) → q.dest < 128 →
      q.owner < 256 → Completes (.learnApply p) s fun t =>
        t.eget (fdbAddr p n) FDB_dest = q.dest ∧ t.eget (fdbAddr p n) FDB_owner = q.owner ∧
        t.eget (fdbAddr p n) FDB_age = 0 ∧ t.eIs (fdbAddr p n) FDB_peer = false ∧
        t.eIs (fdbAddr p n) FDB_group = false ∧ (t.pipe p).learn = rest) ∧
    (∀ q rest n, (s.pipe p).learn = q :: rest → s.fdbFind p q.key = none → s.fdbFree p q.key = some n → n < 65536 →
      s.isSet (FWD_CTRL_auto_stream p) = false → q.key.fits → q.dest < 128 → q.owner < 256 →
      Completes (.learnApply p) s fun t =>
        t.eIs (fdbAddr p n) FDB_valid = true ∧ t.fdbKeyAt (fdbAddr p n) = q.key ∧
        t.eget (fdbAddr p n) FDB_dest = q.dest ∧ t.eget (fdbAddr p n) FDB_owner = q.owner ∧
        t.eIs (fdbAddr p n) FDB_static = false ∧ t.isBad (fdbAddr p n) = false ∧ (t.pipe p).learn = rest) ∧
    (∀ k rest, (s.pipe p).queries = k :: rest →
      (s.fdbFind p k = none → Completes (.peerQuery p) s fun t =>
        (t.pipe (1 - p)).answers = (s.pipe (1 - p)).answers ++ [{ key := k }] ∧ (t.pipe p).queries = rest ∧
        t.aper = s.aper) ∧
      (∀ n, s.fdbSame p k = [n] → s.fdbOpen (fdbAddr p n) → s.eIs (fdbAddr p n) FDB_peer = false →
        s.eIs (fdbAddr p n) FDB_drop = false → s.eIs (fdbAddr p n) FDB_group = false →
        Completes (.peerQuery p) s fun t =>
          (t.pipe (1 - p)).answers = (s.pipe (1 - p)).answers ++
            [{ key := k, hit := some (s.eget (fdbAddr p n) FDB_dest, false, s.eget (fdbAddr p n) FDB_owner) }])) ∧
    (∀ k rest, (s.pipe p).answers = { key := k } :: rest → Completes (.peerAnswer p) s fun t =>
      (t.pipe p).answers = rest ∧ (t.pipe p).asked = (s.pipe p).asked.filter (· != k) ∧ t.aper = s.aper) ∧
    (∀ k dest owner rest n, (s.pipe p).answers = { key := k, hit := some (dest, false, owner) } :: rest → k.fits →
      dest < 128 → owner < 256 → s.fdbFind p k = none → s.fdbFree p k = some n → n < 65536 →
      s.isSet (FWD_CTRL_auto_stream p) = false → Completes (.peerAnswer p) s fun t =>
        t.eIs (fdbAddr p n) FDB_valid = true ∧ t.fdbKeyAt (fdbAddr p n) = k ∧ t.eIs (fdbAddr p n) FDB_peer = true ∧
        t.eget (fdbAddr p n) FDB_dest = dest ∧ t.eget (fdbAddr p n) FDB_owner = owner) ∧
    (∀ k dest rest n, (s.pipe p).moves = (k, dest) :: rest → s.fdbFind p k = some n → s.fdbOpen (fdbAddr p n) →
      s.eIs (fdbAddr p n) FDB_peer = false → Completes (.moveNotify p) s fun t =>
        t.eIs (fdbAddr p n) FDB_valid = false ∧ (t.pipe p).moves = rest ∧ t.isSet (pendFld (1026 + 32 * p)) = true) ∧
    (s.fget (FWD_AGE_period p) ≠ 0 → Completes (.ageingTick p) s fun t =>
      ∀ n, n < 65536 → s.eIs (fdbAddr p n) FDB_valid = true → s.fdbOpen (fdbAddr p n) →
        (s.eget (fdbAddr p n) FDB_age < 14 → t.eIs (fdbAddr p n) FDB_valid = true ∧
          t.eget (fdbAddr p n) FDB_age = s.eget (fdbAddr p n) FDB_age + 1) ∧
        (14 ≤ s.eget (fdbAddr p n) FDB_age → t.eIs (fdbAddr p n) FDB_valid = false)) ∧
    (∀ id, look (fun _ => 0) s.autoIds id = 2 → Completes (.streamIdRelease id) s fun t =>
      (∀ i, look (fun _ => 0) t.autoIds i = if i = id then 0 else look (fun _ => 0) s.autoIds i) ∧ t.aper = s.aper) ∧
    (∀ i, i < 1024 → s.eIs (frerAt p i) FRER_valid = true → s.eget (frerAt p i) FRER_func = 2 →
      s.eget (frerAt p i) FRER_reset_ms ≠ 0 → Completes (.frerReset p i) s fun t =>
        t.takeAny (frerAt p i) = true ∧ t.eget (frerAt p i) FRER_history = 0 ∧
        t.eget (frerAt p i) FRER_rcv_seq = 65535 ∧ t.isSet (pendFld (1031 + 32 * p)) = true)

/-- PIPELINE_FRAME, MIRROR_COPY_DELIVER, FWD_SCRUB_READ and FWD_REPAIR_DONE (R185, R190, R209, R212, R213, R225, R237): a
resolved frame that its owner's rule lets reach its output is stored whole and linked into the VOQ of that output; the
sink delivers its oldest copy; the scrubber reads on; a repaired rule holds what the image placed. Where the specification
leaves room, it follows the model's own reading in log entries 57, 59, 60 and 66. -/
def Obligations.PipelineFrames : Prop :=
  ∀ s : State,
    (∀ q f o, s.routingReady = true → s.coreOn = true → q < 85 → s.offeredTo (fabricOf q) = [f] → f.src = q →
      f.resolved = some [o] → f.stream = none → f.cut = false → f.hops = 0 → s.usedEntries .mirror = [] →
      (s.owner f.owner).keyValid = true → s.mayReach f.owner o = true → logicalPresent s.variant o = true →
      s.fportOn (fabricOf o) = true → s.fget (SWC_GUAR_USED_used (fabricOf q)) + s.cellsOf f ≤ 4096 → Completes (.pipelineFrame q 0) s fun t =>
        t.offeredTo (fabricOf q) = [] ∧
        t.voq (voqKey (fabricOf q) (fabricOf o) f.cls) =
          s.voq (voqKey (fabricOf q) (fabricOf o) f.cls) ++ [s.storedNext] ∧
        (t.storedAt s.storedNext).map (fun st => (st.frame, st.outs, st.cells, st.input)) =
          some (f, [(fabricOf o, [o])], s.cellsOf f, fabricOf q) ∧ t.aper = s.aper) ∧
    (∀ c rest, s.mirrorSink = c :: rest → Completes .mirrorCopyDeliver s fun t =>
      t.mirrorSink = rest ∧ t.egressQ (egressKey c.dest 0) = s.egressQ (egressKey c.dest 0) ++
        [{ bytes := c.bytes, owner := c.owner, out := c.dest, mirror := some c.session }]) ∧
    (∀ p, p < 2 → s.cinched = true → s.fget (FWD_SCRUB_period p) ≠ 0 → Completes (.fwdScrubRead p none) s fun t =>
      (t.pipe p).scrub = ((s.pipe p).scrub + 1) % (if p = 0 then 67336 else 67328) ∧
      (s.isBad ((fwdEntry p (s.pipe p).scrub).1.at (fwdEntry p (s.pipe p).scrub).2) = true →
        (fwdEntry p (s.pipe p).scrub).1.at (fwdEntry p (s.pipe p).scrub).2 ∈ t.repairs)) ∧
    (∀ p i, p < 2 → i < 512 → ruleAt p i ∈ s.repairs → Completes (.fwdRepairDone p (65792 + i)) s fun t =>
      memRead t.aper (ruleAt p i) 64 = memRead s.aperImage (ruleAt p i) 64 ∧ t.isBad (ruleAt p i) = false ∧
      ruleAt p i ∉ t.repairs)

/-- TBL_READ, TBL_WRITE, TBL_INSERT, TBL_DELETE, TBL_SEARCH and TBL_CMD_COMPLETE (R216, R218, R222): a read shows the entry as
its requester sees it; a write replaces a rule; an insertion and a deletion change the FDB by key; a search names the
place of a key, and a key that is not found ends with status 0x28; the end shows the status; another requester changes
nothing. Where the specification leaves room, it follows the model's own reading in log entries 56, 61 and 62. -/
def Obligations.TableCommands : Prop :=
  ∀ (s : State) (p : Nat) (r : Requester) (v : Word), p < 2 →
    (s.tblMay r = true → s.isSet (FWD_TBL_STATUS_busy p) = false →
      (∀ tb, cmdTable p (getField v 27 25) = some tb → getField v 19 4 < tb.count →
        Completes (.tblRead r p v) s fun t =>
          (∀ w, w < tb.size / 4 → t.reg (FWD_TBL_DATA p w) = s.tabRead r tb (getField v 19 4) w) ∧
          (t.pipe p).command = some 0 ∧ t.isSet (FWD_TBL_STATUS_busy p) = true ∧ t.aper = s.aper) ∧
      (∀ i, getField v 27 25 = 2 → getField v 19 4 = i → i < 512 →
        s.entryBreach r (.rules p) i 0 (s.tblData p 64) = false → Completes (.tblWrite r p v) s fun t =>
          (∀ w, w < 10 → t.aperWord (ruleAt p i + 4 * w) = s.reg (FWD_TBL_DATA p w)) ∧ (t.pipe p).command = some 0) ∧
      (∀ n, getField v 27 25 < 2 → s.fdbFind p (s.tblKey p) = none → s.fdbFree p (s.tblKey p) = some n → n < 65536 →
        s.entryBreach r (.fdb p) n 0 (overlay (s.tblData p 16) 11 [byteAt (s.tblData p 16) 11 ||| 0x80]) = false →
        Completes (.tblInsert r p v) s fun t =>
          t.eIs (fdbAddr p n) FDB_valid = true ∧ t.fdbKeyAt (fdbAddr p n) = s.tblKey p ∧
          (t.pipe p).command = some 0) ∧
      (∀ n, getField v 27 25 < 2 → s.fdbFind p (s.tblKey p) = some n →
        (s.isSealed (fdbAddr p n) = false → s.mayUse r (s.tagOf (fdbPos p n).1 (fdbPos p n).2) = true →
          Completes (.tblDelete r p v) s fun t =>
            t.eIs (fdbAddr p n) FDB_valid = false ∧ (t.pipe p).command = some 0) ∧
        (n < 65536 → Completes (.tblSearch r p v) s fun t =>
          t.fget (FWD_TBL_RESULT_index p) = n ∧ t.fget (FWD_TBL_RESULT_table p) = 0 ∧ (t.pipe p).command = some 0 ∧
          t.aper = s.aper)) ∧
      (∀ c, getField v 27 25 < 2 → s.fdbFind p (s.tblKey p) = none → c = .tblDelete r p v ∨ c = .tblSearch r p v →
        Completes c s fun t => (t.pipe p).command = some 0x28 ∧ t.aper = s.aper)) ∧
    (∀ c, s.tblMay r = false →
      c ∈ [Instr.tblRead r p v, .tblWrite r p v, .tblInsert r p v, .tblDelete r p v, .tblSearch r p v] →
      Completes c s fun t => t.aper = s.aper ∧ t.pipes = s.pipes) ∧
    (∀ st, (s.pipe p).command = some st → st < 65536 → Completes (.tblCmdComplete p) s fun t =>
      t.fget (FWD_TBL_STATUS_status p) = st ∧ t.isSet (FWD_TBL_STATUS_done p) = true ∧
      t.isSet (FWD_TBL_STATUS_busy p) = false ∧ (t.pipe p).command = none ∧
      t.isSet (pendFld (1035 + 32 * p)) = true)

/-! ### Ethernet ports, inline MACsec and gate lists (R157 to R183, R254 to R259, R360 to R367) -/

/-- ETH_FRAME_RECEIVED, RX_JABBER, CUT_THROUGH_PRESENT, MACSEC_ICV_VERDICT and STEERING_RULE_COMMIT (R160 to R166, R362,
R367): a discarded frame is counted and raised and reaches no queue; an accepted one enters the receive queue that
steering gives it; a presented prefix enters its receive queue under cut-through; a verdict ends the presentation, and a
good one moves the next PN past the frame's; word 0 of a rule commits its held words. Where the specification leaves room,
it follows the model's own reading in log entries 45, 46, 47, 48 and 94. -/
def Obligations.EthernetReceive : Prop :=
  ∀ (s : State) (n : Nat),
    (∀ bs info age k, s.portUp n = true → (s.eth n).cutPrefix = none → s.rxFault n bs info = some k →
      Completes (.ethFrameReceived n bs info age) s fun t =>
        t.reg (EMAC_CNT n k) = s.reg (EMAC_CNT n k) + 1 ∧ t.isSet (pendFld (581 + 16 * n)) = true ∧
        t.rxQueues = s.rxQueues ∧ t.offered = s.offered) ∧
    (∀ bs info age q, s.portUp n = true → (s.eth n).cutPrefix = none → s.rxFault n bs info = none →
      s.ownerActive (s.portOwnerOf n) = true → isSecured bs = false → s.isSet (EMAC_CFG_macsec_required n) = false →
      q = (s.ethSteer n bs).2 →
      rxUse (s.rxQ n q) false + bs.length + 4 ≤ 2048 → Completes (.ethFrameReceived n bs info age) s fun t =>
        t.rxQ n q = s.rxQ n q ++
          [({ bytes := bs, src := n, owner := s.portOwnerOf n, cls := q, rx0 := s.timeNs 0 - age }, false)] ∧
        ∀ k, k ≠ 8 * n + q → look noRx t.rxQueues k = look noRx s.rxQueues k) ∧
    (s.portUp n = true → (s.eth n).cutPrefix = none → Completes (.rxJabber n) s fun t =>
      t.reg (EMAC_CNT n 9) = s.reg (EMAC_CNT n 9) + 1 ∧ t.isSet (pendFld (581 + 16 * n)) = true ∧
      t.isSet (pendFld (591 + 16 * n)) = true ∧
      t.rxQueues = s.rxQueues) ∧
    (∀ bs plain sa, n < 4 → s.portUp n = true → s.isSet (EMAC_CFG_cut_through n) = true → (s.eth n).cutPrefix = none →
      s.ownerActive (s.portOwnerOf n) = true → s.cutPlain n bs = some (plain, sa) →
      rxUse (s.rxQ n (s.ethSteer n plain).2) false + plain.length + 4 ≤ 2048 →
      Completes (.cutThroughPresent n bs) s fun t =>
        t.rxQ n (s.ethSteer n plain).2 = s.rxQ n (s.ethSteer n plain).2 ++
          [({ bytes := plain, src := n, owner := s.portOwnerOf n, cls := (s.ethSteer n plain).2, secured := sa.isSome,
              cut := true, rx0 := s.timeNs 0 }, false)] ∧
        (t.eth n).cutPrefix = some plain.length ∧ (t.eth n).late = sa) ∧
    (∀ x k, (s.eth n).late = some x → (s.eth n).cutPrefix = some k → (s.eth n).lateBytes ≠ [] →
      Completes (.macsecIcvVerdict n) s fun t =>
        (t.eth n).cutPrefix = none ∧ (t.eth n).late = none ∧
        (x.icvGood (s.eth n).lateBytes = false → t.isSet (pendFld 1124) = true ∧ t.saPn x.sa = s.saPn x.sa) ∧
        (x.icvGood (s.eth n).lateBytes = true → x.pn + 1 < 2 ^ 64 → t.saPn x.sa = max (s.saPn x.sa) (x.pn + 1))) ∧
    (∀ r i v, n < 16 → i < 64 → portPresent s.variant n = true → s.mayUse r (s.portOwnerOf n) = true →
      Completes (.steeringRuleCommit r n i v) s fun t =>
        t.reg (EMAC_STEER n i) = v &&& 0x87FFFFFF ∧
        (∀ w, 1 ≤ w → w ≤ 2 → t.reg (EMAC_STEER n i + 4 * w) = look (fun _ => 0) s.steerHeld (EMAC_STEER n i + 4 * w)) ∧
        ∀ a, (∀ w, w ≤ 2 → a ≠ EMAC_STEER n i + 4 * w) → t.reg a = s.reg a)

/-- Frames without a SecTAG (R363): a port with macsec_required discards and counts each but EAPOL frames; on other ports, and
with EAPOL, the frame enters its receive queue and the counter stands. -/
def Obligations.UnprotectedFrames : Prop :=
  ∀ (s : State) (n : Nat) (bs : List Byte) (info : RxInfo) (age : Nat), s.portUp n = true → (s.eth n).cutPrefix = none →
    s.rxFault n bs info = none → s.ownerActive (s.portOwnerOf n) = true → beAt bs 12 2 ≠ 0x88E5 →
    (s.isSet (EMAC_CFG_macsec_required n) = true → beAt bs 12 2 ≠ 0x888E →
      Completes (.ethFrameReceived n bs info age) s fun t =>
        t.rxQueues = s.rxQueues ∧ t.reg (CIP_CNT 11) = s.reg (CIP_CNT 11) + 1) ∧
    (s.isSet (EMAC_CFG_macsec_required n) = false ∨ beAt bs 12 2 = 0x888E →
      rxUse (s.rxQ n (s.ethSteer n bs).2) false + bs.length + 4 ≤ 2048 →
      Completes (.ethFrameReceived n bs info age) s fun t =>
        (t.rxQ n (s.ethSteer n bs).2).map (fun x => x.1.bytes) =
          (s.rxQ n (s.ethSteer n bs).2).map (fun x => x.1.bytes) ++ [bs] ∧
        t.reg (CIP_CNT 11) = s.reg (CIP_CNT 11))

/-- A frame that matches no steering rule (R162): it enters the queue that the pipeline's default class gives for its C-tag
PCP, or for default_pcp without a C-tag, and counts in rx_steer_default. -/
def Obligations.DefaultSteering : Prop :=
  ∀ (s : State) (n : Nat) (bs : List Byte) (info : RxInfo) (age pcp q : Nat), s.portUp n = true →
    (s.eth n).cutPrefix = none → s.rxFault n bs info = none → s.ownerActive (s.portOwnerOf n) = true →
    beAt bs 12 2 ≠ 0x88E5 → s.isSet (EMAC_CFG_macsec_required n) = false →
    (∀ i, i < 64 → s.steerMatches n i bs = false) →
    pcp = (if beAt bs 12 2 = 0x8100 then beAt bs 14 2 / 8192
      else if beAt bs 12 2 = 0x88A8 ∧ beAt bs 16 2 = 0x8100 then beAt bs 18 2 / 8192
      else s.fget (EMAC_CTRL_default_pcp n)) →
    q = look (fun _ => 0) s.defaultClass (8 * (if n < 8 then 0 else 1) + pcp) →
    rxUse (s.rxQ n q) false + bs.length + 4 ≤ 2048 → Completes (.ethFrameReceived n bs info age) s fun t =>
      t.rxQ n q = s.rxQ n q ++
        [({ bytes := bs, src := n, owner := s.portOwnerOf n, cls := q, rx0 := s.timeNs 0 - age }, false)] ∧
      t.reg (EMAC_CNT n 60) = s.reg (EMAC_CNT n 60) + 1

/-- PREEMPT_VERIFY_DONE, PREEMPT_VERIFY_TIMEOUT, GATE_HOLD_APPLY, EGRESS_FRAME_START and EGRESS_FRAME_END (R167, R171 to R174,
R254, R485): verification sets preempt_active, and a third failed attempt ends it; a hold cuts the preemptable frame where
it may; the frame that is picked goes on the line, or waits for the budget; a frame that ends is driven out, a protected
one with its SecTAG. Where the specification leaves room, it follows the model's own reading in log entries 47, 49, 50 and
52. -/
def Obligations.EthernetEgress : Prop :=
  ∀ (s : State) (n : Nat),
    (s.portUp n = true → (s.eth n).verifying = true → Completes (.preemptVerifyDone n) s fun t =>
      t.isSet (EMAC_STATUS_preempt_active n) = true ∧ (t.eth n).verifying = false) ∧
    (s.portUp n = true → (s.eth n).verifying = true → Completes (.preemptVerifyTimeout n) s fun t =>
      (t.eth n).attempts = min 3 ((s.eth n).attempts + 1) ∧
      (t.eth n).verifying = decide ((s.eth n).attempts < 2) ∧
      ((s.eth n).attempts = 2 → t.isSet (pendFld (583 + 16 * n)) = true) ∧
      t.fget (EMAC_STATUS_preempt_active n) = s.fget (EMAC_STATUS_preempt_active n)) ∧
    (∀ sent, s.portUp n = true → s.isSet (EMAC_STATUS_preempt_active n) = true → s.isSet (STM_GCL_CTRL_enable n) = true →
      Completes (.gateHoldApply n sent) s fun t =>
        (t.gate n).hold = true ∧ (t.eth n).pre = (s.eth n).pre ∧
        (t.eth n).preCut = ((s.eth n).preCut || cutAllowed (s.eth n) sent)) ∧
    (∀ sent c f rest, s.portUp n = true → (s.eth n).tx = none → (s.eth n).pre = none →
      s.isSet (STM_GCL_CTRL_enable n) = false → (∀ k, k < 8 → s.isSet (STM_CBS_SLOPE_en n k) = false) →
      (s.gate n).longest = [] → s.picked n = some c → s.egressQ (8 * n + c) = f :: rest → s.express n c = true →
      s.usedEntries .sa = [] → s.isSet (EMAC_CFG_macsec_required n) = false → isPtpEvent f.bytes = false → f.cut = false →
      (s.budgetOut n = false → Completes (.egressFrameStart n sent) s fun t =>
        (t.eth n).tx = some ({ f with sec := none }, c) ∧ t.egressQ (8 * n + c) = rest ∧
        ∀ k, k ≠ 8 * n + c → t.egressQ k = s.egressQ k) ∧
      (s.budgetOut n = true → (s.eth n).budgetCls = [] → Completes (.egressFrameStart n sent) s fun t =>
        (t.eth n).tx = none ∧ (t.eth n).budgetCls = [c] ∧ t.egress = s.egress ∧
        t.isSet (pendFld (588 + 16 * n)) = true)) ∧
    (∀ f c, (s.eth n).tx = some (f, c) → f.cut = false →
      Completes (.egressFrameEnd n) s fun t =>
        (t.eth n).tx = none ∧ (t.eth n).pre = (s.eth n).pre ∧ t.egress = s.egress ∧
        ∃ l, t.out = .portFrame n (lineBytes f) f.bad :: l ++ s.out)

/-- LINK_DOWN, LINK_UP, TRAINING_FAIL, SQI_LOW, PHY_THERMAL, PORT_DISABLE and PORT_ENABLE (R158, R175 to R177, R179, R351): a
link that goes down discards what waits to leave, removes the dynamic entries that name its port, and resets its gPTP
state. Where the specification leaves room, it follows the model's own reading in log entries 51 and 54. -/
def Obligations.EthernetLinks : Prop :=
  ∀ (s : State) (n : Nat),
    (∀ arriving, s.portUp n = true → Completes (.linkDown n arriving) s fun t =>
      t.isSet (EMAC_STATUS_link_up n) = false ∧ t.isSet (pendFld (577 + 16 * n)) = true ∧ (t.eth n).tx = none ∧
      (t.eth n).pre = none ∧ (∀ c, c < 8 → t.egressQ (8 * n + c) = []) ∧ t.isSet (TMB_PTP_PORT_as_capable n) = false ∧
      t.isSet (EMAC_PHY_STATUS_training n) = s.isSet (EMAC_CTRL_enable n) ∧
      ∀ p i, p < 2 → i < 65536 → s.eIs (fdbAddr p i) FDB_valid = true → s.eIs (fdbAddr p i) FDB_static = false →
        s.eIs (fdbAddr p i) FDB_lock = false → s.eIs (fdbAddr p i) FDB_group = false →
        s.eget (fdbAddr p i) FDB_dest = n → t.eIs (fdbAddr p i) FDB_valid = false) ∧
    (portPresent s.variant n = true → s.portPowered n = true →
      (s.isSet (EMAC_CTRL_enable n) = true → (s.link n).down = false → s.isSet (EMAC_STATUS_link_up n) = false →
        (s.eth n).hot = false → s.cinched = true → Completes (.linkUp n) s fun t =>
          t.isSet (EMAC_STATUS_link_up n) = true ∧ t.fget (EMAC_PHY_STATUS_speed n) = s.fget (EMAC_CFG_speed n) ∧
          t.isSet (EMAC_PHY_STATUS_training n) = false ∧ (t.eth n).linked = true ∧
          t.isSet (pendFld (576 + 16 * n)) = true ∧
          ((s.eth n).linked = true → t.isSet (EMAC_STATUS_relinked n) = true)) ∧
      (s.isSet (EMAC_PHY_STATUS_training n) = true → Completes (.trainingFail n) s fun t =>
        t.reg (EMAC_CNT n 55) = s.reg (EMAC_CNT n 55) + 1 ∧ t.isSet (pendFld (585 + 16 * n)) = true ∧
        t.isSet (EMAC_PHY_STATUS_training n) = true) ∧
      (∀ sqi, sqi < 8 → Completes (.sqiLow n sqi) s fun t =>
        t.fget (EMAC_PHY_STATUS_sqi n) = sqi ∧
        (sqi < s.fget (EMAC_PHY_CTRL_sqi_min n) → s.fget (EMAC_PHY_CTRL_sqi_min n) ≤ s.fget (EMAC_PHY_STATUS_sqi n) →
          t.isSet (pendFld (584 + 16 * n)) = true)) ∧
      ((s.eth n).hot = false → Completes (.phyThermal n true) s fun t =>
        (t.eth n).hot = true ∧ t.isSet (EMAC_STATUS_link_up n) = false ∧
        t.isSet (EMAC_PHY_STATUS_training n) = false ∧ t.isSet (pendFld (590 + 16 * n)) = true) ∧
      ((s.eth n).hot = true → Completes (.phyThermal n false) s fun t =>
        (t.eth n).hot = false ∧ (s.isSet (EMAC_CTRL_enable n) = true → s.cinched = true → t.isSet (EMAC_PHY_STATUS_training n) = true))) ∧
    (∀ r, n < 16 → portPresent s.variant n = true → s.mayUse r (s.portOwnerOf n) = true →
      (s.isSet (EMAC_CTRL_enable n) = true → Completes (.portDisable r n) s fun t =>
        t.isSet (EMAC_CTRL_enable n) = false ∧ t.isSet (EMAC_STATUS_link_up n) = false ∧
        t.isSet (EMAC_PHY_STATUS_training n) = false) ∧
      (s.isSet (EMAC_CTRL_enable n) = false → s.portPowered n = true → (s.eth n).hot = false → s.cinched = true →
        Completes (.portEnable r n) s fun t =>
          t.isSet (EMAC_CTRL_enable n) = true ∧ t.isSet (EMAC_PHY_STATUS_training n) = true ∧
          t.fget (EMAC_PHY_STATUS_role n) = s.fget (EMAC_CFG_phy_master n)))

/-- GATE_LIST_ENTRY, GCL_CHANGE_REQUEST, GCL_CHANGE_APPLY and GATE_RESUME (R256 to R259, R266): the entry in progress sets the
gates, and every gate where its parity is bad; a good request waits for its instant and a bad one shows an error; at the
instant the admin list becomes the oper list. Where the specification leaves room, it follows the model's own reading in
log entries 60 and 72. -/
def Obligations.GateLists : Prop :=
  ∀ (s : State) (n : Nat), portPresent s.variant n = true →
    (∀ j a, s.isSet (STM_GCL_CTRL_enable n) = true → s.gateEntryNow n = some (j, a) → Completes (.gateListEntry n) s fun t =>
      (t.gate n).gates = (if s.isBad a then 255 else s.eget a GATE_gates) ∧
      (t.gate n).hold = ((s.gate n).hold &&
        !(!s.isBad a && s.eget a GATE_op == 2 && s.isSet (EMAC_STATUS_preempt_active n)))) ∧
    (∀ r v, n < 16 → s.privileged r = true → s.isSet (STM_GCL_CTRL_enable n) = true → getField v 31 31 = 1 →
      Completes (.gclChangeRequest r n v) s fun t =>
        t.isSet (STM_GCL_STATUS_pending n) = s.adminGood n ∧ t.isSet (STM_GCL_STATUS_error n) = !s.adminGood n ∧
        (s.adminGood n = true → (t.gate n).changeAt =
          firstCycle ((s.reg (STM_GCL_BASE_HI n)).toNat * 2 ^ 32 + (s.reg (STM_GCL_BASE_LO n)).toNat)
            (s.reg (STM_GCL_CYCLE n)).toNat (s.timeNs (s.gclDomain n))) ∧
        (s.adminGood n = false → t.isSet (pendFld 1428) = true)) ∧
    (s.isSet (STM_GCL_STATUS_pending n) = true → s.onFallback n = false → Completes (.gclChangeApply n) s fun t =>
      t.isSet (STM_GCL_STATUS_pending n) = false ∧ t.reg (STM_GCL_OPER_CYCLE n) = s.reg (STM_GCL_CYCLE n) ∧
      t.fget (STM_GCL_STATUS_oper_start n) = s.fget (STM_GCL_ADMIN_start n) ∧
      t.fget (STM_GCL_STATUS_oper_len_m1 n) = s.fget (STM_GCL_ADMIN_len_m1 n) ∧
      (t.gate n).operBase = (s.gate n).changeAt ∧ t.isSet (pendFld 1428) = true) ∧
    (s.onFallback n = true → s.inside (s.gclDomain n) = true → Completes (.gateResume n) s fun t =>
      t.onFallback n = false ∧ t.isSet (pendFld 1427) = true)

/-! ### Tack lanes: transceivers and detectors (R75, R102 to R113, R548) -/

/-- Lane n is on the part, powered and of a kind. -/
def Sys2Proof.Machine.State.laneOn (s : State) (n : Nat) : Prop :=
  lanePresent s.variant n = true ∧ s.lanePowered n = true ∧ s.laneKind n ≠ 0

/-- CORE is on, and the requester may write the registers of lane n. -/
def Sys2Proof.Machine.State.laneOpen (s : State) (r : Requester) (n : Nat) : Prop :=
  s.coreOn = true ∧ lanePresent s.variant n = true ∧ s.mayUse r (s.portOwnerOf (16 + n)) = true

/-- LANE_INTEGRATED, OVER_VOLTAGE, TERMINATION_RECLOSE, CM_RANGE, STUCK_DOMINANT, LIN_PULLUP_SHORT, LANE_THERMAL, DOM_TIMEOUT,
LANE_FAULT_RECOVERY, LANE_PHY_FAULT_CLEAR, LANE_DISABLE, LANE_REENABLE and LANE_LOOPBACK (R75, R102 to R105, R111 to
R113): a fault shows its bit, counts and raises its event, and holds the transmitter while any holding condition lasts; a
cleared bit whose condition persists stays set; a lane disabled drops the fabric group's frames and keeps software's, but
for one whose abort was asked; one enabled again integrates anew. Where the specification leaves room, it follows the
model's own reading in log entry 39. -/
def Obligations.LaneFaults : Prop :=
  ∀ (s : State) (n : Nat),
    (s.laneLive n = true → s.isSet (LANE_PHY_STATUS_integrated n) = false → Completes (.laneIntegrated n) s fun t =>
      t.isSet (LANE_PHY_STATUS_integrated n) = true ∧ t.isSet (pendFld (12 * n + 3)) = true ∧ (t.lane n).watching = 0 ∧
      (s.laneKind n ≠ 1 → s.fget (LANE_ERR_state n) ≠ 3 → t.fget (LANE_ERR_state n) = 1)) ∧
    (∀ pinB, lanePresent s.variant n = true → s.lanePowered n = true → s.windowKind n ≠ 0 → Completes (.overVoltage n pinB) s fun t =>
      (t.lane n).termOpen = true ∧ t.isSet ⟨LANE_PHY_FAULT n, b2n pinB, b2n pinB⟩ = true ∧
      t.isSet (LANE_PHY_STATUS_tx_inhibit n) = true ∧ t.isSet (LANE_PHY_STATUS_term_open_ovp n) = true ∧
      t.isSet (pendFld (12 * n)) = true) ∧
    (∀ pinB, lanePresent s.variant n = true → s.lanePowered n = false → (s.lane n).aonKind ≠ 0 →
      Completes (.overVoltage n pinB) s fun t => (t.lane n).termOpen = true ∧ t.regs = s.regs) ∧
    Completes (.terminationReclose n) s (fun t =>
      (t.lane n).termOpen = false ∧ bitOf (t.lane n).cond 0 = false ∧ bitOf (t.lane n).cond 1 = false) ∧
    (∀ c bit, s.laneOn n →
      c = .cmRange n ∧ bit = 2 ∧ (s.laneKind n = 1 ∨ s.laneKind n = 4) ∨ c = .stuckDominant n ∧ bit = 5 ∨
        c = .linPullupShort n ∧ bit = 6 ∧ s.pullupNow n = true ∨
        c = .laneThermal n ∧ bit = 4 ∨ c = .domTimeout n ∧ bit = 3 ∧ s.laneLive n = true ∧ s.laneHeld n = false →
      Completes c s fun t =>
        t.isSet ⟨LANE_PHY_FAULT n, bit, bit⟩ = true ∧ bitOf (t.lane n).cond bit = true ∧
        t.fget (LANE_PHY_FAULT_CNT_count n) = min (s.fget (LANE_PHY_FAULT_CNT_count n) + 1) 65535 ∧
        t.isSet (pendFld (12 * n + faultEvent bit)) = true) ∧
    (∀ bit, 2 ≤ bit → bit ≤ 6 → s.laneOn n → Completes (.laneFaultRecovery n bit) s fun t =>
      bitOf (t.lane n).cond bit = false ∧ (∀ i, i ≠ bit → bitOf (t.lane n).cond i = bitOf (s.lane n).cond i) ∧
      t.isSet (LANE_PHY_STATUS_tx_inhibit n) = holdsTx (t.lane n).cond) ∧
    (∀ r v, s.laneOpen r n → Completes (.lanePhyFaultClear r n v) s fun t =>
      ∀ bit, bit < 7 → t.isSet ⟨LANE_PHY_FAULT n, bit, bit⟩ =
        (s.isSet ⟨LANE_PHY_FAULT n, bit, bit⟩ && (!bitOf v.toNat bit || bitOf (s.lane n).cond bit))) ∧
    (∀ r, s.laneOpen r n →
      (s.laneEnabled n = true → Completes (.laneDisable r n) s fun t =>
        t.laneEnabled n = false ∧ (t.lane n).onBus = none ∧
        (∀ k, k < 4 → t.isSet (LANE_TB_CTRL_pending n k) = false) ∧
        ((∀ j, (s.lane n).onBus = some j → s.isSet (LANE_TB_CTRL_abort n j) = false) →
          ∀ k, 4 ≤ k → k < 8 → t.reg (LANE_TB_CTRL n k) = s.reg (LANE_TB_CTRL n k)) ∧
        (∀ j, (s.lane n).onBus = some j → 4 ≤ j → j < 8 → 1 ≤ (s.tx n j).span →
          s.isSet (LANE_TB_CTRL_abort n j) = true →
          t.isSet (LANE_TB_CTRL_pending n j) = false ∧ t.fget (LANE_TB_CTRL_result n j) = 2)) ∧
      (s.laneEnabled n = false → s.laneKind n ≠ 0 → s.laneKind n ≠ 4 → Completes (.laneReenable r n) s fun t =>
        t.laneEnabled n = true ∧ t.isSet (LANE_PHY_STATUS_integrated n) = false ∧
        (s.laneReached n = true → s.fget (LANE_ERR_state n) ≠ 3 → t.fget (LANE_ERR_state n) = 0)) ∧
      Completes (.laneLoopback r n) s (fun t => t.isSet (LANE_PHY_CTRL_int_loopback n) = true))

/-- DOMINANT_EDGE_WAKE, SELECTIVE_WAKE_MATCH, PN_ERROR_OVERFLOW, PN_OSCILLATOR_IDLE, LOW_POWER_BIAS_ACTIVE and
LOW_POWER_BIAS_IDLE (R107, R108, R421, R548): in Stable a watching detector's long edge, its pattern and its 32nd error
each ask for a wake with their source, and a pattern that does not match asks for none. Where the specification leaves
room, it follows the model's own reading in log entries 40 and 41. -/
def Obligations.WakeDetectors : Prop :=
  ∀ (s : State) (n : Nat), lanePresent s.variant n = true →
    (s.inStable = true → (∀ e, e ∈ s.pwk.wakeReqs → e.1.lane ≠ n) →
      (∀ ns, (s.lane n).watching = 1 → (edgeWidths (s.lane n).aonKind).2 ≤ ns → Completes (.dominantEdgeWake n ns) s fun t =>
        t.pwk.wakeReqs = s.pwk.wakeReqs ++ [({ code := 1, lane := n }, s.aclk)]) ∧
      (∀ f, (s.lane n).watching = 2 → pnMatch ((s.lane n).aonPn.getD 0 0) ((s.lane n).aonPn.getD 1 0)
          ((s.lane n).aonPn.getD 2 0) ((s.lane n).aonPn.getD 3 0) ((s.lane n).aonPn.getD 4 0) f = true →
        Completes (.selectiveWakeMatch n f) s fun t =>
          t.pwk.wakeReqs = s.pwk.wakeReqs ++ [({ code := 2, lane := n, ide := f.ide, id := f.id }, s.aclk)]) ∧
      ((s.lane n).watching = 2 → (s.lane n).pnErrors = 31 → Completes (.pnErrorOverflow n) s fun t =>
        t.pwk.wakeReqs = s.pwk.wakeReqs ++ [({ code := 3, lane := n }, s.aclk)] ∧ (t.lane n).pnErrors = 32)) ∧
    (∀ ns, (s.lane n).watching = 1 → ns < (edgeWidths (s.lane n).aonKind).1 →
      Completes (.dominantEdgeWake n ns) s fun t => t = s) ∧
    (∀ f, (s.lane n).watching = 2 → f.format = 0 → pnMatch ((s.lane n).aonPn.getD 0 0) ((s.lane n).aonPn.getD 1 0)
        ((s.lane n).aonPn.getD 2 0) ((s.lane n).aonPn.getD 3 0) ((s.lane n).aonPn.getD 4 0) f = false →
      Completes (.selectiveWakeMatch n f) s fun t =>
        t = s.setLane n { s.lane n with pnOscillator := true, pnErrors := (s.lane n).pnErrors - 1 }) ∧
    ((s.lane n).watching = 2 → (s.lane n).pnErrors < 31 → Completes (.pnErrorOverflow n) s fun t =>
      t = s.setLane n { s.lane n with pnOscillator := true, pnErrors := (s.lane n).pnErrors + 1 }) ∧
    Completes (.pnOscillatorIdle n) s (fun t => (t.lane n).pnOscillator = false ∧ t.regs = s.regs) ∧
    ((s.lane n).watching ≠ 0 → (s.lane n).aonKind = 1 →
      Completes (.lowPowerBiasActive n) s (fun t => (t.lane n).biasOn = true ∧ t.regs = s.regs) ∧
      Completes (.lowPowerBiasIdle n) s (fun t => (t.lane n).biasOn = false ∧ t.regs = s.regs))

/-! ### CAN, LIN and 10BASE-T1S (R116 to R156) -/

/-- CAN_FRAME_RECEIVED, HP_RELEASE, ACK_IDX_WRITE and WATERMARK_WRITE (R123, R125 to R135): the first enabled filter that
matches sends a frame to its queue with descriptor and payload, to the high-priority buffer, or to staging; software frees
entries in order. PROTOCOL_EXCEPTION, CAN_REINTEGRATE, BUS_ERROR and BUS_OFF_RECOVERY (R121 to R124): the error counters
and the state they give; bus-off ends with its 128th sequence. Where the specification leaves room, it follows the model's
own reading in log entries 33, 36, 43 and 44. -/
def Obligations.CanReceptionAndErrors : Prop :=
  (∀ (s : State) (n : Nat),
     (∀ f age i, s.canListens n = true → s.laneKind n = 1 → canFrameOk f = true → s.formatOn n f.format = true →
       s.isRingFrame n f = false → bitOf (s.plan 0x18 8) n = false → s.pwk.downStep = 0 →
       s.isSet PWK_STATE_off_latched = false → (List.range 32).find? (fun i => s.filterHit n i f) = some i →
       (∀ off, s.isSet (LANE_FLT_hp n i) = false → s.isSet (LANE_FLT_agg n i) = false → s.isSet (LANE_FLT_rxq1 n i) = false →
         s.isSet (LANE_FLT_rxq0 n i) = true → s.rxOwned n 0 < 64 →
         placePayload (s.lane n).owned0 (s.lane n).next0 (up16 f.data.length) = some off →
         Completes (.canFrameReceived n f age) s fun t =>
           memRead t.aper (rxDataAt n 0 off) f.data.length = f.data ∧
           memRead t.aper (rxDescAt n 0 (s.fget (rxWr n 0))) 32 =
             rxDescriptor f false false i off (s.laneTime n age) (s.lane n).seq0 ∧
           t.fget (rxWr n 0) = (s.fget (rxWr n 0) + 1) % 128 ∧
           t.reg (LANE_CNT n 0) = word (min ((s.reg (LANE_CNT n 0)).toNat + 1) 0xFFFFFFFF)) ∧
       (s.isSet (LANE_FLT_hp n i) = true → s.isSet (LANE_HP_CTRL_full n) = false →
         Completes (.canFrameReceived n f age) s fun t =>
           t.isSet (LANE_HP_CTRL_full n) = true ∧ t.isSet (pendFld (12 * n + 8)) = true ∧ t.aper = s.aper ∧
           ∀ w, w < 16 → t.reg (LANE_HP_DATA n w) = word (leAt f.data (4 * w) 4)) ∧
       (s.isSet (LANE_FLT_hp n i) = false → s.isSet (LANE_FLT_agg n i) = true → s.isSet (LANE_FLT_rxq1 n i) = false →
         s.isSet (LANE_FLT_rxq0 n i) = false → stagingUse (s.lane n).staging + 16 + up16 f.data.length ≤ 2048 →
         Completes (.canFrameReceived n f age) s fun t =>
           (t.lane n).staging = (s.lane n).staging ++ [(f, s.laneTime n age)] ∧ t.aper = s.aper)) ∧
     (∀ r, s.laneOpen r n → Completes (.hpRelease r n) s fun t =>
       t.isSet (LANE_HP_CTRL_full n) = false ∧ t.aper = s.aper) ∧
     (∀ r q ack, q < 2 → s.laneOpen r n → s.laneKind n ≠ 0 → Completes (.ackIdxWrite r n q ack) s fun t =>
       t.fget (rxAck n q) = (if (ack % 128 + 128 - s.fget (rxAck n q)) % 128 ≤ s.rxOwned n q then ack % 128
         else s.fget (rxAck n q)) ∧
       t.fget (rxWr n q) = s.fget (rxWr n q) ∧ t.aper = s.aper) ∧
     (∀ r q w, q < 2 → s.laneOpen r n → s.laneKind n ≠ 0 → Completes (.watermarkWrite r n q w) s fun t =>
       t.fget (rxCtrl n q) = if 1 ≤ w ∧ w ≤ 64 then w else s.fget (rxCtrl n q))) ∧
  (∀ (s : State) (n : Nat), s.laneLive n = true → s.laneKind n = 1 →
     (∀ fmt, s.canListens n = true → fmt ≤ 2 → s.formatOn n fmt = false → Completes (.protocolException n fmt) s fun t =>
       (t.lane n).waiting = true ∧ t.reg (LANE_CNT n 11) = word (min ((s.reg (LANE_CNT n 11)).toNat + 1) 0xFFFFFFFF)) ∧
     (s.fget (LANE_ERR_state n) ≠ 3 → Completes (.canReintegrate n) s fun t =>
       t = s.setLane n { s.lane n with waiting := false }) ∧
     (s.fget (LANE_ERR_state n) = 3 → s.fget (LANE_ERR_busoff_seq n) < 127 → Completes (.canReintegrate n) s fun t =>
       (t.lane n).waiting = false ∧ t.fget (LANE_ERR_busoff_seq n) = s.fget (LANE_ERR_busoff_seq n) + 1 ∧
       t.fget (LANE_ERR_state n) = 3) ∧
     (s.fget (LANE_ERR_state n) = 3 → s.fget (LANE_ERR_busoff_seq n) = 127 → Completes (.busOffRecovery n) s fun t =>
       t.fget (LANE_ERR_state n) = 1 ∧ t.fget (LANE_ERR_tec n) = 0 ∧ t.fget (LANE_ERR_rec n) = 0 ∧
       t.isSet (pendFld (12 * n + 11)) = true) ∧
     (∀ busNs, s.canListens n = true → (s.lane n).onBus = none → s.isSet (LANE_CTRL_listen_only n) = false →
       (∀ kind x, kind = .receiver ∧ x = min (s.fget (LANE_ERR_rec n) + 1) 255 ∨
           kind = .receiverPrimary ∧ x = min (s.fget (LANE_ERR_rec n) + 8) 255 →
         Completes (.busError n kind busNs) s fun t =>
           t.fget (LANE_ERR_rec n) = x ∧ t.fget (LANE_ERR_tec n) = s.fget (LANE_ERR_tec n) ∧
           t.fget (LANE_ERR_state n) = if 128 ≤ x ∨ 128 ≤ s.fget (LANE_ERR_tec n) then 2 else 1) ∧
       (s.fget (LANE_ERR_tec n) < 248 → Completes (.busError n .transmitter busNs) s fun t =>
         t.fget (LANE_ERR_tec n) = s.fget (LANE_ERR_tec n) + 8 ∧ t.fget (LANE_ERR_rec n) = s.fget (LANE_ERR_rec n)) ∧
       (248 ≤ s.fget (LANE_ERR_tec n) → Completes (.busError n .transmitter busNs) s fun t =>
         t.fget (LANE_ERR_state n) = 3 ∧ t.fget (LANE_ERR_busoff_seq n) = 0 ∧ t.isSet (pendFld (12 * n + 11)) = true) ∧
       Completes (.busError n .transmitterExempt busNs) s (fun t =>
         t.fget (LANE_ERR_tec n) = s.fget (LANE_ERR_tec n) ∧ t.fget (LANE_ERR_rec n) = s.fget (LANE_ERR_rec n) ∧
         t.reg (LANE_CNT n 10) = word (min ((s.reg (LANE_CNT n 10)).toNat + 1) 0xFFFFFFFF))))

/-- TX_REQUEST, TX_ABORT, LANE_TX_START, LOST_ARBITRATION, LANE_TX_COMPLETE and FABRIC_FRAME_TO_LANE (R136 to R141, R308): a
good request makes its buffer pending and a bad one ends with result 4; the chosen buffer goes on the bus or waits for the
budget; a frame sent without error is driven out and its buffer released; a fabric frame takes a free buffer of its group,
or is discarded on a lane that is disabled, cut off or of kind 0. Where the specification leaves room, it follows the
model's own reading in log entries 34, 35 and 42. -/
def Obligations.LaneTransmission : Prop :=
  ∀ (s : State) (n k : Nat), k < 8 →
    (∀ r v, s.laneOpen r n → s.laneKind n = 1 → 4 ≤ k → (s.tx n k).cont = false →
      s.isSet (LANE_TB_CTRL_pending n k) = false →
      (s.formatOn n (bitsOf (s.tbDesc n k 1) 13 12) = true → tbLengthOk (bitsOf (s.tbDesc n k 1) 13 12) (s.tbLength n k) = true →
        s.tbLength n k ≤ 512 → Completes (.txRequest r n k v) s fun t =>
          t.isSet (LANE_TB_CTRL_pending n k) = true ∧ t.fget (LANE_TB_CTRL_result n k) = 0 ∧
          (t.tx n k).order = s.orderNext ∧ t.orderNext = s.orderNext + 1 ∧ t.tbFrame n k = s.tbFrame n k) ∧
      (s.formatOn n (bitsOf (s.tbDesc n k 1) 13 12) = false → Completes (.txRequest r n k v) s fun t =>
        t.isSet (LANE_TB_CTRL_pending n k) = false ∧ t.fget (LANE_TB_CTRL_result n k) = 4)) ∧
    (∀ r v, s.laneOpen r n → s.laneKind n = 1 → 4 ≤ k → (s.tx n k).cont = false → 1 ≤ (s.tx n k).span →
      s.isSet (LANE_TB_CTRL_pending n k) = true →
      ((s.lane n).onBus = some k → Completes (.txAbort r n k v) s fun t =>
        t.isSet (LANE_TB_CTRL_abort n k) = true ∧ t.isSet (LANE_TB_CTRL_pending n k) = true) ∧
      ((s.lane n).onBus ≠ some k → Completes (.txAbort r n k v) s fun t =>
        t.isSet (LANE_TB_CTRL_pending n k) = false ∧ t.fget (LANE_TB_CTRL_result n k) = 2)) ∧
    (s.laneMayTx n = true → s.laneKind n = 1 → s.tbChoice n = some k →
      (s.budgetOut (16 + n) = false → Completes (.laneTxStart n) s fun t =>
        (t.lane n).onBus = some k ∧ (t.lane n).budgetHold = none ∧ t.txBufs = s.txBufs) ∧
      (s.budgetOut (16 + n) = true → (s.lane n).budgetHold = none → Completes (.laneTxStart n) s fun t =>
        (t.lane n).onBus = none ∧ (t.lane n).budgetHold = some k ∧
        t.reg (LANE_CNT n 8) = word (min ((s.reg (LANE_CNT n 8)).toNat + 1) 0xFFFFFFFF))) ∧
    (∀ busNs, (s.lane n).onBus = some k → k < 4 → Completes (.lostArbitration n busNs) s fun t =>
      (t.lane n).onBus = none ∧ t.isSet (LANE_TB_CTRL_pending n k) = s.isSet (LANE_TB_CTRL_pending n k) ∧
      t.fget (LANE_TB_CTRL_lost_arb n k) = min (s.fget (LANE_TB_CTRL_lost_arb n k) + 1) 255 ∧
      t.reg (LANE_CNT n 7) = word (min ((s.reg (LANE_CNT n 7)).toNat + 1) 0xFFFFFFFF)) ∧
    (∀ age busNs, (s.lane n).onBus = some k → 4 ≤ k → 1 ≤ (s.tx n k).span → k + (s.tx n k).span ≤ 8 →
      (s.tbFrame n k).format ≠ 3 → s.laneHeld n = false → s.isSet (LANE_PHY_CTRL_int_loopback n) = false →
      Completes (.laneTxComplete n age busNs) s fun t =>
        (∃ l, t.out = l ++ .laneFrame n (s.tbFrame n k) :: s.out) ∧ (t.lane n).onBus = none ∧
        t.isSet (LANE_TB_CTRL_pending n k) = false ∧ t.fget (LANE_TB_CTRL_result n k) = 1 ∧
        t.reg (LANE_CNT n 6) = word (min ((s.reg (LANE_CNT n 6)).toNat + 1) 0xFFFFFFFF)) ∧
    (∀ fr rest, lanePresent s.variant n = true → s.egressQ (8 * (16 + n)) = fr :: rest →
      (s.laneKind n = 0 → Completes (.fabricFrameToLane n) s fun t =>
        t.egressQ (8 * (16 + n)) = rest ∧ t.isSet (pendFld 1442) = true ∧ ∀ i, i < 16 → t.reg (LANE_CNT n i) = s.reg (LANE_CNT n i)) ∧
      (s.laneKind n ≠ 0 → s.laneEnabled n = false ∨ (s.link 16).down = true → Completes (.fabricFrameToLane n) s fun t =>
        t.egressQ (8 * (16 + n)) = rest ∧
        t.reg (LANE_CNT n 9) = word (min ((s.reg (LANE_CNT n 9)).toNat + 1) 0xFFFFFFFF)) ∧
      (s.laneEnabled n = true → (s.link 16).down = false → fr.lane = true → s.laneKind n = 1 → s.formatOn n (laneOfBytes fr.bytes).format = true →
        tbLengthOk (laneOfBytes fr.bytes).format (laneOfBytes fr.bytes).data.length = true →
        s.fabricSlot n (tbSpan (laneOfBytes fr.bytes).data.length) = some k →
        Completes (.fabricFrameToLane n) s fun t =>
          t.egressQ (8 * (16 + n)) = rest ∧ t.isSet (LANE_TB_CTRL_pending n k) = true ∧ (t.tx n k).cls = fr.cls ∧
          (t.tx n k).owner = fr.owner))

/-- LIN_HEADER, LIN_RESPONSE_END, LIN_NO_RESP, LIN_SLOT_START, T1S_FRAME_RECEIVED, PLCA_BEACON and PLCA_FALLBACK (R142 to
R146): a header of a valid entry starts its response, but a responder ignores one with a short break; a published response
is driven out and counted, a subscribed one is counted or counts an error; a slot sends the header of its ID; a T1S frame
is accepted by its address; the coordinator drives the beacon out. Where the specification leaves room, it follows the
model's own reading in log entries 37 and 38. -/
def Obligations.LinAndT1s : Prop :=
  ∀ (s : State) (n : Nat),
    (∀ id brk rate, s.laneKind n = 3 → brk < 11 → Completes (.linHeader n ⟨id, brk, rate⟩) s fun t => t = s) ∧
    (∀ id brk rate, s.isLin n = true → s.isSet (LANE_PHY_STATUS_integrated n) = true → id < 64 →
      s.headerAccepted n ⟨id, brk, rate⟩ = true → 1 ≤ s.fget (LANE_LIN_ID_length n id) → s.fget (LANE_LIN_ID_length n id) ≤ 8 →
      (s.fget (LANE_LIN_ID_dir n id) = 1 → Completes (.linHeader n ⟨id, brk, rate⟩) s fun t =>
        t = s.setLane n { s.lane n with
          linId := some id, linDir := 1, linPublish := [],
          linEntry := (s.reg (LANE_LIN_ID n id)).toNat }) ∧
      (s.fget (LANE_LIN_ID_dir n id) = 2 → s.pwk.downStep = 0 → s.budgetOut (16 + n) = false →
        Completes (.linHeader n ⟨id, brk, rate⟩) s fun t =>
          t = s.setLane n { s.lane n with
            linId := some id, started := s.uptime, linDir := 2, linPublish := s.linData n id (s.fget (LANE_LIN_ID_length n id)),
            linEntry := (s.reg (LANE_LIN_ID n id)).toNat })) ∧
    (∀ id data sum brk busNs, s.isLin n = true → (s.lane n).linId = some id →
      ((s.lane n).linDir = 2 → s.laneHeld n = false → s.isSet (LANE_PHY_CTRL_int_loopback n) = false →
        Completes (.linResponseEnd n data sum false brk busNs) s fun t =>
          t.out = .laneFrame n
            { format := 3, id := id, data := (s.lane n).linPublish,
              af := linPid id * 256 + linChecksum id (bitOf (s.lane n).linEntry 3) (s.lane n).linPublish } :: s.out ∧
          (t.lane n).linId = none ∧
          t.reg (LANE_CNT n 6) = word (min ((s.reg (LANE_CNT n 6)).toNat + 1) 0xFFFFFFFF)) ∧
      ((s.lane n).linDir = 1 → sum ≠ linChecksum id (bitOf (s.lane n).linEntry 3) data →
        Completes (.linResponseEnd n data sum false brk busNs) s fun t =>
          (t.lane n).linId = none ∧ t.aper = s.aper ∧
          t.reg (LANE_CNT n 10) = word (min ((s.reg (LANE_CNT n 10)).toNat + 1) 0xFFFFFFFF)) ∧
      ((s.lane n).linDir = 1 → data.length = bitsOf (s.lane n).linEntry 11 8 →
        sum = linChecksum id (bitOf (s.lane n).linEntry 3) data → bitOf (s.plan 0x18 8) n = false → s.pwk.downStep = 0 →
        s.isSet PWK_STATE_off_latched = false → Completes (.linResponseEnd n data sum false brk busNs) s fun t =>
          (t.lane n).linId = none ∧ t.reg (LANE_CNT n 0) = word (min ((s.reg (LANE_CNT n 0)).toNat + 1) 0xFFFFFFFF)) ∧
      ((s.lane n).linDir = 1 → Completes (.linNoResp n) s fun t =>
        (t.lane n).linId = none ∧ t.reg (LANE_CNT n 14) = word (min ((s.reg (LANE_CNT n 14)).toNat + 1) 0xFFFFFFFF))) ∧
    (∀ busNs, s.laneLive n = true → s.laneKind n = 2 → s.isSet (LANE_LIN_SCHED_run n) = true → s.laneHeld n = false →
      s.pwk.downStep = 0 → s.slotValid n (s.lane n).linNext = true → s.budgetOut (16 + n) = false →
      s.isSet (LANE_PHY_CTRL_int_loopback n) = false → Completes (.linSlotStart n false busNs) s fun t =>
        t.out = .laneFrame n
          { format := 3, id := s.fget (LANE_LIN_SLOT_id n (s.lane n).linNext),
            af := linPid (s.fget (LANE_LIN_SLOT_id n (s.lane n).linNext)) * 256 } :: s.out ∧
        t.fget (LANE_LIN_SCHED_slot_now n) = (s.lane n).linNext ∧ (t.lane n).linNext = (s.lane n).linNext + 1) ∧
    (∀ bytes age, s.laneLive n = true → s.laneKind n = 4 → s.isSet (LANE_PHY_STATUS_integrated n) = true →
      bitOf (s.lane n).cond 2 = false → s.isSet (LANE_PHY_CTRL_int_loopback n) = false → bitOf (s.plan 0x18 8) n = false → s.pwk.downStep = 0 →
      s.isSet PWK_STATE_off_latched = false →
      (Completes (.t1sFrameReceived n bytes false age) s fun t =>
        t.reg (LANE_CNT n 10) = word (min ((s.reg (LANE_CNT n 10)).toNat + 1) 0xFFFFFFFF) ∧ t.aper = s.aper) ∧
      (14 ≤ bytes.length → bytes.length ≤ 1518 → beAt bytes 0 6 = s.t1sMac n → s.t1sMac n ≠ 0 →
        Completes (.t1sFrameReceived n bytes true age) s fun t =>
          t.reg (LANE_CNT n 0) = word (min ((s.reg (LANE_CNT n 0)).toNat + 1) 0xFFFFFFFF)) ∧
      (14 ≤ bytes.length → bytes.length ≤ 1518 → beAt bytes 0 6 ≠ s.t1sMac n → bitOf (beAt bytes 0 1) 0 = false →
        s.isSet (LANE_T1S_CTRL_promisc n) = false →
        Completes (.t1sFrameReceived n bytes true age) s fun t => t = s)) ∧
    (s.laneLive n = true → s.laneKind n = 4 →
      Completes (.plcaBeacon n) s (fun t => t.isSet (LANE_T1S_PLCA_plca_ok n) = true ∧
        (s.fget (LANE_T1S_PLCA_node_id n) = 0 → s.laneHeld n = false → s.isSet (LANE_PHY_CTRL_int_loopback n) = false →
          t.out = .beacon n :: s.out)) ∧
      (s.isSet (LANE_T1S_PLCA_plca_ok n) = true → Completes (.plcaFallback n) s fun t =>
        t.isSet (LANE_T1S_PLCA_plca_ok n) = false ∧
        t.reg (LANE_CNT n 15) = word (min ((s.reg (LANE_CNT n 15)).toNat + 1) 0xFFFFFFFF)))

/-! ### The signal gateway (R303 to R332) -/

/-- AGGREGATOR_FRAME, DEFERRED_RELEASE and STALENESS_SWEEP (R304 to R308, R313, R314, R317): a copy without a route is
counted; one whose route forwards it goes to pipeline B resolved; an extract route sends its converted bits to the slot's
home; a deferred entry reaches its Team; a slot past its timeout becomes stale and takes its substitute. Where the
specification leaves room, it follows the model's own reading in log entries 43, 85, 86 and 89. -/
def Obligations.GatewayReception : Prop :=
  ∀ s : State,
    (∀ n f ts rest, s.routingReady = true → lanePresent s.variant n = true → s.laneKind n ≠ 4 →
      (s.lane n).staging = (f, ts) :: rest →
      bitOf ((s.reg STM_SCHOOL_LANES_LO).toNat + (s.reg STM_SCHOOL_LANES_HI).toNat % 65536 * 2 ^ 32) n = false →
      (∀ w, w < 4 → s.isBad (routeAt (routeBucket n f.ide f.id + w)) = false) → s.ownerActive (s.portOwnerOf (16 + n)) = true →
      ((∀ w, w < 4 → s.routeIs (routeBucket n f.ide f.id + w) n f.ide f.id = false) →
        Completes (.aggregatorFrame n) s fun t =>
          (t.lane n).staging = rest ∧ t.reg (SIG_GW_CNT 2) = s.reg (SIG_GW_CNT 2) + 1 ∧ t.offered = s.offered ∧
          t.sig = s.sig) ∧
      (∀ i, (s.routeLookup n f).2 = some i → s.eget (routeAt i) RXR_owner = s.portOwnerOf (16 + n) →
        s.eget (routeAt i) RXR_action = 1 → s.eget (routeAt i) RXR_sig_count = 0 →
        Completes (.aggregatorFrame n) s fun t =>
          t.offeredTo (fabricOf (16 + n)) = s.offeredTo (fabricOf (16 + n)) ++
            [{ bytes := laneBytes f ts, lane := true, src := 16 + n, owner := s.eget (routeAt i) RXR_owner,
               cls := s.eget (routeAt i) RXR_class, ts := ts, resolved := some (s.routeOut (routeAt i) n),
               rx0 := (s.lane n).stagedAt.headD (s.timeNs 0),
               stream := if s.eIs (routeAt i) RXR_stream_en then some (s.eget (routeAt i) RXR_stream) else none }] ∧
          (t.lane n).staging = rest ∧ t.sig = s.sig) ∧
      (∀ i r bits, (s.routeLookup n f).2 = some i → s.eget (routeAt i) RXR_owner = s.portOwnerOf (16 + n) →
        s.eget (routeAt i) RXR_action = 0 → s.eget (routeAt i) RXR_sig_count = 1 → r = s.eget (routeAt i) RXR_sig_first →
        s.isBad (sigrAt r) = false → s.eIs (sigrAt r) SIGR_valid = true → s.eIs (sigrAt r) SIGR_dir = false →
        s.eIs (sigrAt r) SIGR_prog = false → s.eIs (sigrAt r) SIGR_bit27 = false →
        s.eget (sigrAt r) SIGR_owner = s.eget (routeAt i) RXR_owner →
        s.slotOwner (s.eget (sigrAt r) SIGR_slot) = s.eget (sigrAt r) SIGR_owner →
        bits = bitWalk (s.eIs (sigrAt r) SIGR_be) (s.eget (sigrAt r) SIGR_len_m1 + 1) (s.eget (sigrAt r) SIGR_pos) →
        walkIn f.data.length bits = true → Completes (.aggregatorFrame n) s fun t =>
          t.sig.reqs = s.sig.reqs ++
            [{ kind := .hWr, slot := s.eget (sigrAt r) SIGR_slot, owner := s.eget (sigrAt r) SIGR_owner,
               value := unsigned 64 (s.routeConvert (sigrAt r) (walkGet f.data bits)), batch := s.gw.batchNext }] ∧
          t.offered = s.offered)) ∧
    (∀ u team e, (s.deferBuf u).find? (fun x => decide ((s.workQ x.1).length < 256)) = some (team, e) →
      teamPresent s.variant team = true → s.teamPowered team = true → s.teamHas team e.owner = true →
      Completes (.deferredRelease u) s fun t =>
        t.deferBuf u = (s.deferBuf u).erase (team, e) ∧ t.workQ team = s.workQ team ++ [e]) ∧
    (∀ i, i < 262144 → s.cinched = true → (s.slot i).timeout ≠ 0 → (s.slot i).stale = false →
      10 * (s.slot i).timeout ≤ s.slotAge i → Completes (.stalenessSweep i) s fun t =>
        t.isSet (pendFld 1440) = true ∧ (t.slot i).stale = true ∧
        ((s.slot i).action = 0 → (t.slot i).value = (s.slot i).value ∧ (t.slot i).version = (s.slot i).version) ∧
        (s.holders i = [] → (s.slot i).action = 1 → (t.slot i).value = s.slotInitial i ∧ (t.slot i).subst = true) ∧
        (s.holders i = [] → (s.slot i).action = 2 → (t.slot i).value = 0 ∧ (t.slot i).subst = true))

/-- EVENT_SEND, CYCLIC_SEND, TUNNEL_SEND, ACF_DOWNLINK, ROUTE_SCRUB_READ and ROUTE_REPAIR_DONE (R319 to R321, R325, R326,
R329): a PDU definition in effect that is pending, or at its tick, presents its shadow as a frame for its lane; a tunnel's
messages leave in one frame; the CAN message of a downlink frame takes that frame's place; the scrubber reads on, and a
repaired route holds what the image placed. Where the specification leaves room, it follows the model's own reading in log
entries 60, 87 and 88. -/
def Obligations.GatewaySending : Prop :=
  ∀ s : State,
    (∀ d c w, w = s.defView d → d < 65536 → s.routingReady = true → s.isBad (routeAt d) = false → w.isDef d 2 = true →
      s.eIs (routeAt d) ROUTE_lock = false → lanePresent s.variant (w.eget (routeAt d) PDU_lane) = true →
      s.laneKind (w.eget (routeAt d) PDU_lane) = 1 →
      c = .eventSend d ∧ s.defPending d = true ∧ s.batchOpen (s.defn d).batch = false ∨
        c = .cyclicSend d ∧ w.eget (routeAt d) PDU_period ≠ 0 →
      Completes c s fun t =>
        t.offeredTo (fabricOf (16 + w.eget (routeAt d) PDU_lane)) =
          s.offeredTo (fabricOf (16 + w.eget (routeAt d) PDU_lane)) ++
          [{ bytes := laneBytes (w.pduFrame d) 0,
             lane := true, src := 16 + w.eget (routeAt d) PDU_lane, owner := w.eget (routeAt d) PDU_owner,
             cls := w.eget (routeAt d) PDU_class, resolved := some [16 + w.eget (routeAt d) PDU_lane], rx0 := s.timeNs 0,
             stream := if w.eIs (routeAt d) PDU_stream_en then some (w.eget (routeAt d) PDU_stream) else none }] ∧
        (t.defn d).pending = false ∧ t.reg (SIG_GW_CNT 9) = s.reg (SIG_GW_CNT 9) + 1) ∧
    (∀ d w, w = s.defView d → d < 65536 → s.routingReady = true → s.isBad (routeAt d) = false → w.isDef d 3 = true →
      w.eIs (routeAt d) ETHD_tunnel = true → s.eIs (routeAt d) ROUTE_lock = false → w.eget (routeAt d) ETHD_agg = 0 →
      (s.defn d).msgs ≠ [] → Completes (.tunnelSend d) s fun t =>
        (t.defn d).msgs = [] ∧ (t.defn d).seq = ((s.defn d).seq + 1) % 256 ∧
        ∃ fr : Frame, t.offeredTo 12 = s.offeredTo 12 ++ [fr] ∧
          fr.bytes = w.ethDefBytes d ((s.defn d).seq % 256) (s.defn d).msgs.flatten ∧
          fr.owner = w.eget (routeAt d) ETHD_owner ∧ fr.cls = w.eget (routeAt d) ETHD_class) ∧
    (∀ n fr rest, lanePresent s.variant n = true → s.laneKind n = 1 → s.egressQ (8 * (16 + n)) = fr :: rest →
      fr.lane = false → isAcf fr.bytes = true →
      beAt (acfData fr.bytes) 0 2 / 512 = 1 → (acfData fr.bytes).length = 4 * (beAt (acfData fr.bytes) 0 2 % 512) →
      16 ≤ (acfData fr.bytes).length → s.formatOn n (canOfAcf (acfData fr.bytes)).format = true →
      Completes (.acfDownlink n) s fun t =>
        t.egressQ (8 * (16 + n)) =
          { bytes := laneBytes (canOfAcf (acfData fr.bytes)) 0, lane := true, src := fr.src, owner := fr.owner,
            cls := fr.cls } :: rest ∧
        t.reg (SIG_GW_CNT 11) = s.reg (SIG_GW_CNT 11) + 1 ∧ t.sig = s.sig) ∧
    (s.cinched = true → s.fget SIG_RT_SCRUB_period ≠ 0 → Completes (.routeScrubRead none) s fun t =>
      t.gw.scrub = (s.gw.scrub + 1) % 327680 ∧
      (s.isBad ((routeEntry s.gw.scrub).1.at (routeEntry s.gw.scrub).2) = true →
        (routeEntry s.gw.scrub).1.at (routeEntry s.gw.scrub).2 ∈ t.repairs)) ∧
    (∀ i, i < 65536 → routeAt i ∈ s.repairs → Completes (.routeRepairDone i) s fun t =>
      memRead t.aper (routeAt i) 32 = memRead s.aperImage (routeAt i) 32 ∧ t.isBad (routeAt i) = false ∧
      routeAt i ∉ t.repairs)

/-! ### The block as a whole -/

/-- The command at the front of the queue takes its effect with the rest of the queue. -/
def Obligations.StepRunsFront : Prop :=
  ∀ (c : Instr) (rest : List Instr) (s : State), s.pending = c :: rest → step s = exec c { s with pending := rest }

/-- A step on an empty queue is one tick of 4 ns, a choice of the model (assumption 1): the tick count rises by one,
the uptime with it while CORE runs, and nothing but the counters of time moves. -/
def Obligations.EmptyQueueTicks : Prop :=
  ∀ s : State, s.pending = [] → ∃ t, step s = .next t ∧ t.ticks = s.ticks + 1 ∧
    t.uptime = s.uptime + b2n s.coreOn ∧
    t = { s with ticks := t.ticks, uptime := t.uptime, tmbCount := t.tmbCount }

/-- After the always-on power-on reset (R26, R73, R429, R530): no command waits, no domain but the always-on one is up, the
device is not cinched, every register holds its reset value but for the wake record that this reset writes, and every memory
is empty and in its canonical form. Registers to which the specification gives no reset value hold the model's choice
(assumption 11). -/
def Obligations.ResetState : Prop :=
  State.reset.pending = [] ∧ State.reset.boot = .down ∧ State.reset.coreOn = false ∧ State.reset.lineOn = false ∧
    State.reset.pdieOn = false ∧ State.reset.cinched = false ∧ State.reset.memOk = true ∧
    (∀ a, a ≠ PWK_WREC_IDX → a ≠ PWK_WREC 0 → State.reset.reg a = resetValue a) ∧
    State.reset.reg PWK_WREC_IDX = 0x00010001 ∧ State.reset.reg (PWK_WREC 0) = 0xC0000000 ∧
    (∀ k r, State.reset.greg k r = 0) ∧ (∀ n, State.reset.lane n = {}) ∧ (∀ o, (State.reset.owner o).keyValid = false) ∧
    ∀ k, State.reset.keySlot k = none

/-- Every command completes in every state, takes its effect on everything but the queue, and never changes the part; so no
run stops. Where the specification leaves room, it follows the model's own reading in log entries 4 and 5. -/
def Obligations.EveryCommandCompletes : Prop :=
  (∀ (c : Instr) (s : State), Completes c s fun t => t.pending = s.pending ∧ t.variant = s.variant) ∧
    ∀ s : State, NeverStops s

/-- Every step keeps every byte memory and the register map in canonical form. Where the specification leaves room, it follows
the model's own reading in log entry 12. -/
def Obligations.StepKeepsMemory : Prop :=
  ∀ s t : State, s.memOk = true → step s = .next t → t.memOk = true

/-- MRAM, its row marks, both slot records and the last generation change only at a power-on reset, a power loss, the boot
field's count, the verdicts of a load, NVM commands and their end, and the writes of key records and signer digests (R36,
R63 to R72, R372, R386, R524). Apart from power going off, a load and its failure, an NVM command and a bus or service
write, the two copies of the Hobble block change only by a mismatch and its restore, key slots only by key commands, a tear-
down, tamper, scan and debug unlock, and owners only by owner commands and scan (R47, R384 to R404, R410, R486). -/
def Obligations.ProtectedStateFrames : Prop :=
  (∀ (c : Instr) (s t : State), exec c s = .next t →
     (c ∉ [Instr.aonPowerOnReset, .buckDropout, .railsInRegulation, .imageLoad, .digestVerdict, .nvmCmdComplete,
       .persistLoadDone, .persistEraseDone, .mboxAnswer]) →
     (∀ r b, c ≠ .retire r b) → (∀ r row, c ≠ .program r row) → (∀ r a v, c ≠ .registerWrite r a v) →
     (∀ off ws bad, c ≠ .svcWrite off ws bad) → (∀ r k, c ≠ .keyWrite r k ∧ c ≠ .keyClear r k ∧ c ≠ .keyDerive r k ∧ c ≠ .keyUnwrap r k) →
     (∀ r o, c ≠ .ownerDestroy r o) →
     t.mram = s.mram ∧ t.rowProgrammed = s.rowProgrammed ∧ t.slotA = s.slotA ∧ t.slotB = s.slotB ∧ t.genLast = s.genLast) ∧
  (∀ (c : Instr) (s t : State), exec c s = .next t →
     (c ∉ [Instr.aonPowerOnReset, .coreLineOff, .pdieOff, .buckDropout, .sramClearDone, .imageLoad, .digestVerdict, .pllLock]) →
     (∀ r b, c ≠ .commit r b) → (∀ r a v, c ≠ .registerWrite r a v) → (∀ off ws bad, c ≠ .svcWrite off ws bad) →
     (c ≠ .hobbleRestoreDone → (∀ off b x, c ≠ .hobbleCopyMismatch off b x) → t.hobA = s.hobA ∧ t.hobB = s.hobB) ∧
     (c ≠ .persistLoadDone → c ≠ .scanEnable → (∀ tok, c ≠ .debugUnlock tok) → (∀ n, c ≠ .tamperAssert n) →
       (∀ r k, c ≠ .keyWrite r k ∧ c ≠ .keyClear r k ∧ c ≠ .keyDerive r k ∧ c ≠ .keyUnwrap r k ∧ c ≠ .ownerDestroy r k) →
       t.keySlots = s.keySlots) ∧
     (c ≠ .scanEnable → c ≠ .sclCmdComplete → (∀ r o, c ≠ .ownerCreate r o ∧ c ≠ .ownerDestroy r o) → t.owners = s.owners))

/-- A command of lane n changes no other lane, none of their registers, and nothing of the ports, the Teams, the keys, the
tables and MRAM; a command of a port's MAC or gate list changes no other port and no lane (R93, R116, R157, R256). Where
the specification leaves room, it follows the model's own reading in log entry 4. -/
def Obligations.UnitFrames : Prop :=
  ∀ (c : Instr) (s t : State) (n : Nat), exec c s = .next t →
    ((∃ r v fmt q ack w bit pinB, c ∈ [Instr.protocolException n fmt, .canReintegrate n, .busOffRecovery n, .hpRelease r n,
        .ackIdxWrite r n q ack, .watermarkWrite r n q w, .overVoltage n pinB, .terminationReclose n, .cmRange n,
        .stuckDominant n, .linPullupShort n, .laneThermal n, .domTimeout n, .laneFaultRecovery n bit, .laneDisable r n,
        .laneReenable r n, .laneLoopback r n, .lanePhyFaultClear r n v, .laneIntegrated n]) ∨
      (∃ h late busNs, c ∈ [Instr.linHeader n h, .linNoResp n, .linSlotStart n late busNs, .laneTxStart n, .plcaBeacon n,
        .plcaFallback n]) →
      (∀ m, m ≠ n → t.lane m = s.lane m) ∧
      (∀ m a, m < 48 → m ≠ n → 0x180000 + 0x800 * m ≤ a → a < 0x180800 + 0x800 * m → t.reg a = s.reg a) ∧
      t.aper = s.aper ∧ t.eths = s.eths ∧ t.teams = s.teams ∧ t.keySlots = s.keySlots ∧ t.mram = s.mram ∧
      t.stored = s.stored ∧ t.egress = s.egress ∧ t.outs = s.outs) ∧
    ((∃ r v sent sqi i, c ∈ [Instr.preemptVerifyDone n, .preemptVerifyTimeout n, .gateHoldApply n sent, .trainingFail n,
        .sqiLow n sqi, .portEnable r n, .steeringRuleCommit r n i v, .gclChangeRequest r n v, .gclChangeApply n,
        .gateResume n]) →
      (∀ m, m ≠ n → t.eth m = s.eth m ∧ t.gate m = s.gate m) ∧
      (∀ m a, m < 16 → m ≠ n → 0x140000 + 0x1000 * m ≤ a → a < 0x141000 + 0x1000 * m → t.reg a = s.reg a) ∧
      t.lanes = s.lanes ∧ t.aper = s.aper ∧ t.teams = s.teams ∧ t.keySlots = s.keySlots ∧ t.mram = s.mram ∧
      t.rxQueues = s.rxQueues ∧ t.stored = s.stored ∧ t.egress = s.egress ∧ t.outs = s.outs)
end

