-- ==== Sys2Proof/Laws/Fields.lean ====
section
/-!
SUPPORT. The laws of register fields: a field read after a write of it gives the value written, modulo the field's
width, and a write of one field leaves every disjoint field alone.
-/

namespace Sys2Proof.Machine

theorem fieldMask_bit (hi lo i : Nat) :
    (fieldMask hi lo).getLsbD i = (decide (i < 32) && (decide (lo ≤ i) && decide (i - lo < hi + 1 - lo))) := by
  simp [fieldMask, BitVec.getLsbD_ofNat, Nat.testBit_mul_two_pow, Nat.testBit_two_pow_sub_one]

theorem getField_bit (w : Word) (hi lo i : Nat) :
    (getField w hi lo).testBit i = (w.getLsbD (lo + i) && decide (i < hi + 1 - lo)) := by
  simp only [getField, Nat.testBit_div_two_pow, BitVec.testBit_toNat, BitVec.getLsbD_and, fieldMask_bit]
  rw [show i + lo = lo + i by omega]
  by_cases h : lo + i < 32
  · simp [h]
  · simp [BitVec.getLsbD_of_ge w (lo + i) (by omega)]

theorem setField_bit (w : Word) (hi lo n i : Nat) (h : i < 32) :
    (setField w hi lo n).getLsbD i =
      if lo ≤ i ∧ i - lo < hi + 1 - lo then n.testBit (i - lo) else w.getLsbD i := by
  simp only [setField, BitVec.getLsbD_or, BitVec.getLsbD_and, BitVec.getLsbD_not, fieldMask_bit, h, decide_true,
    Bool.true_and, BitVec.getLsbD_ofNat, Nat.testBit_mul_two_pow]
  by_cases h1 : lo ≤ i <;> by_cases h2 : i - lo < hi + 1 - lo <;> simp [h1, h2]

/-- A field read after a write of it. -/
theorem getField_setField_same (w : Word) {hi lo : Nat} (n : Nat) (h : hi < 32) :
    getField (setField w hi lo n) hi lo = n % 2 ^ (hi + 1 - lo) := by
  apply Nat.eq_of_testBit_eq
  intro i
  rw [getField_bit, Nat.testBit_mod_two_pow]
  by_cases hi' : i < hi + 1 - lo
  · rw [setField_bit _ _ _ _ _ (by omega), if_pos ⟨by omega, by omega⟩]
    simp [hi', Nat.add_sub_cancel_left]
  · simp [hi']

/-- A field read after a write of another that shares no bit with it. -/
theorem getField_setField_other (w : Word) {hi lo hi' lo' : Nat} (n : Nat) (h : hi < lo' ∨ hi' < lo) (hb : hi' < 32) :
    getField (setField w hi lo n) hi' lo' = getField w hi' lo' := by
  apply Nat.eq_of_testBit_eq
  intro i
  rw [getField_bit, getField_bit]
  by_cases hi2 : i < hi' + 1 - lo'
  · rw [setField_bit _ _ _ _ _ (by omega), if_neg (by omega)]
  · simp [hi2]

/-- A field holds no more than its width. -/
theorem getField_lt (w : Word) (hi lo : Nat) : getField w hi lo < 2 ^ (hi + 1 - lo) := by
  apply Nat.lt_pow_two_of_testBit
  intro i h
  rw [getField_bit]
  simp [show ¬ i < hi + 1 - lo by omega]

end Sys2Proof.Machine
end

