-- ==== Sys2Proof/Laws/Maps.lean ====
section
/-!
SUPPORT. The laws of sparse maps and byte memories: a read after a write to the same key gives the value written, a
write leaves every other key alone, and every operation keeps the canonical form.
-/

namespace Sys2Proof.Machine

variable {α : Type}

/-! ### Reads after writes -/

theorem look_unlist_same (d : Nat → α) (m : List (Nat × α)) (k : Nat) : look d (unlist m k) k = d k := by
  induction m with
  | nil => rfl
  | cons e m ih =>
    by_cases h : e.1 = k
    · simpa [unlist, h] using ih
    · simpa [unlist, look, h] using ih

theorem look_unlist_other (d : Nat → α) (m : List (Nat × α)) {k j : Nat} (h : j ≠ k) :
    look d (unlist m k) j = look d m j := by
  induction m with
  | nil => rfl
  | cons e m ih =>
    by_cases he : e.1 = k
    · have hj : ¬ k = j := fun q => h q.symm
      simpa [unlist, look, he, hj] using ih
    · by_cases hj : e.1 = j
      · simp [unlist, look, hj, h]
      · simpa [unlist, look, he, hj] using ih

theorem look_listAt_same (d : Nat → α) (m : List (Nat × α)) (k : Nat) (v : α) : look d (listAt m k v) k = v := by
  induction m with
  | nil => simp [listAt, look]
  | cons e m ih =>
    by_cases h1 : k < e.1
    · simp [listAt, look, h1]
    · by_cases h2 : e.1 = k
      · simp [listAt, look, h2]
      · simpa [listAt, look, h1, h2] using ih

theorem look_listAt_other (d : Nat → α) (m : List (Nat × α)) {k j : Nat} (v : α) (h : j ≠ k) :
    look d (listAt m k v) j = look d m j := by
  have hk : ¬ k = j := fun q => h q.symm
  induction m with
  | nil => simp [listAt, look, hk]
  | cons e m ih =>
    by_cases h1 : k < e.1
    · simp [listAt, look, h1, hk]
    · by_cases h2 : e.1 = k
      · simp [listAt, look, h2, hk]
      · by_cases h3 : e.1 = j
        · simp only [listAt, if_neg h1, if_neg h2, look, if_pos h3]
        · simpa [listAt, look, h1, h2, h3] using ih

variable [DecidableEq α]

@[simp] theorem look_put_same (d : Nat → α) (m : List (Nat × α)) (k : Nat) (v : α) : look d (put d m k v) k = v := by
  unfold put
  split
  · rename_i h; rw [look_unlist_same, h]
  · exact look_listAt_same d m k v

theorem look_put_other (d : Nat → α) (m : List (Nat × α)) {k j : Nat} (v : α) (h : j ≠ k) :
    look d (put d m k v) j = look d m j := by
  unfold put
  split
  · exact look_unlist_other d m h
  · exact look_listAt_other d m v h

/-- What a map reads after a write, at every key. -/
theorem look_put (d : Nat → α) (m : List (Nat × α)) (k j : Nat) (v : α) :
    look d (put d m k v) j = if j = k then v else look d m j := by
  split
  · rename_i h; rw [h, look_put_same]
  · rename_i h; exact look_put_other d m v h

/-! ### The canonical form -/

theorem sparseFrom_weaken {d : Nat → α} {lo lo' : Nat} {m : List (Nat × α)} (h : lo' ≤ lo)
    (w : sparseFrom d lo m = true) : sparseFrom d lo' m = true := by
  cases m with
  | nil => rfl
  | cons e m =>
    simp only [sparseFrom, Bool.and_eq_true, decide_eq_true_eq] at w ⊢
    exact ⟨⟨by omega, w.1.2⟩, w.2⟩

theorem sparseFrom_listAt {d : Nat → α} {m : List (Nat × α)} {k : Nat} {v : α} (hv : v ≠ d k) :
    ∀ lo, lo ≤ k → sparseFrom d lo m = true → sparseFrom d lo (listAt m k v) = true := by
  induction m with
  | nil => intro lo hl _; simp [listAt, sparseFrom, hl, hv]
  | cons e m ih =>
    intro lo hl w
    simp only [sparseFrom, Bool.and_eq_true, decide_eq_true_eq] at w
    by_cases h1 : k < e.1
    · simp only [listAt, if_pos h1, sparseFrom, Bool.and_eq_true, decide_eq_true_eq]
      exact ⟨⟨hl, by simpa using hv⟩, ⟨by omega, w.1.2⟩, w.2⟩
    · by_cases h2 : e.1 = k
      · simp only [listAt, if_neg h1, if_pos h2, sparseFrom, Bool.and_eq_true, decide_eq_true_eq]
        exact ⟨⟨hl, by simpa using hv⟩, by rw [← h2]; exact w.2⟩
      · simp only [listAt, if_neg h1, if_neg h2, sparseFrom, Bool.and_eq_true, decide_eq_true_eq]
        exact ⟨w.1, ih _ (by omega) w.2⟩

theorem sparseFrom_unlist {d : Nat → α} {m : List (Nat × α)} {k : Nat} :
    ∀ lo, sparseFrom d lo m = true → sparseFrom d lo (unlist m k) = true := by
  induction m with
  | nil => intro lo _; rfl
  | cons e m ih =>
    intro lo w
    simp only [sparseFrom, Bool.and_eq_true, decide_eq_true_eq] at w
    by_cases h : e.1 = k
    · simp only [unlist, if_pos h]
      exact ih lo (sparseFrom_weaken (by omega) w.2)
    · simp only [unlist, if_neg h, sparseFrom, Bool.and_eq_true, decide_eq_true_eq]
      exact ⟨w.1, ih _ w.2⟩

/-- A write keeps the canonical form. -/
theorem sparseWf_put {d : Nat → α} {m : List (Nat × α)} (k : Nat) (v : α) (w : sparseWf d m = true) :
    sparseWf d (put d m k v) = true := by
  unfold put
  split
  · exact sparseFrom_unlist 0 w
  · rename_i h; exact sparseFrom_listAt h 0 (Nat.zero_le k) w

theorem sparseFrom_filter {d : Nat → α} (p : Nat × α → Bool) {m : List (Nat × α)} :
    ∀ lo, sparseFrom d lo m = true → sparseFrom d lo (m.filter p) = true := by
  induction m with
  | nil => intro lo _; rfl
  | cons e m ih =>
    intro lo w
    simp only [sparseFrom, Bool.and_eq_true, decide_eq_true_eq] at w
    by_cases h : p e = true
    · simp only [List.filter, h, sparseFrom, Bool.and_eq_true, decide_eq_true_eq]
      exact ⟨w.1, ih _ w.2⟩
    · simp only [List.filter, h]
      exact ih lo (sparseFrom_weaken (by omega) w.2)

/-- Dropping keys keeps the canonical form. -/
theorem sparseWf_dropRange {d : Nat → α} {m : List (Nat × α)} (lo hi : Nat) (w : sparseWf d m = true) :
    sparseWf d (dropRange m lo hi) = true := sparseFrom_filter _ 0 w

/-- Replacing values by `mapVals` gives the canonical form. -/
theorem sparseWf_mapVals (d : Nat → α) (f : Nat → α → α) (m : List (Nat × α)) : sparseWf d (mapVals d f m) = true := by
  have go : ∀ (l acc : List (Nat × α)), sparseWf d acc = true →
      sparseWf d (l.foldl (fun acc e => put d acc e.1 (f e.1 e.2)) acc) = true := by
    intro l
    induction l with
    | nil => intro acc w; exact w
    | cons e l ih => intro acc w; exact ih _ (sparseWf_put _ _ w)
  exact go m [] rfl

/-! ### Byte memories -/

/-- What a memory reads after a byte is written, at every address. -/
theorem memGet_memSet (m : List (Nat × Byte)) (a k : Nat) (b : Byte) :
    memGet (memSet m a b) k = if k = a then b else memGet m k := look_put memDefault m a k b

theorem memWf_memSet {m : List (Nat × Byte)} (a : Nat) (b : Byte) (w : memWf m = true) : memWf (memSet m a b) = true :=
  sparseWf_put a b w

/-- A write of bytes keeps the canonical form. -/
theorem memWf_memWrite {m : List (Nat × Byte)} (a : Nat) (bs : List Byte) (w : memWf m = true) :
    memWf (memWrite m a bs) = true := by
  induction bs generalizing m a with
  | nil => exact w
  | cons b bs ih => exact ih _ (memWf_memSet a b w)

/-- A write of bytes leaves every address outside them alone. -/
theorem memGet_memWrite_outside {m : List (Nat × Byte)} {a k : Nat} {bs : List Byte} (h : k < a ∨ a + bs.length ≤ k) :
    memGet (memWrite m a bs) k = memGet m k := by
  induction bs generalizing m a with
  | nil => rfl
  | cons b bs ih =>
    simp only [List.length_cons] at h
    rw [memWrite, ih (by omega), memGet_memSet, if_neg (by omega)]

/-- A write of bytes leaves the bytes written. -/
theorem memGet_memWrite_inside {m : List (Nat × Byte)} {a i : Nat} {bs : List Byte} (h : i < bs.length) :
    memGet (memWrite m a bs) (a + i) = bs[i] := by
  induction bs generalizing m a i with
  | nil => simp at h
  | cons b bs ih =>
    cases i with
    | zero =>
      rw [memWrite, memGet_memWrite_outside (by omega), memGet_memSet]
      simp
    | succ i =>
      have := ih (m := memSet m a b) (a := a + 1) (i := i) (by simpa using h)
      rw [memWrite]
      rw [show a + (i + 1) = a + 1 + i by omega, this]
      rfl

end Sys2Proof.Machine
end

