-- ==== Sys2Proof/Laws/State.lean ====
section
/-!
SUPPORT. What each elementary update leaves of each field of State: one lemma for each field and update, true by
computation. The law of the field that an update writes stands in Registers.lean and Units.lean.
-/

namespace Sys2Proof.Machine

variable (s : State)

/-! ### setReg -/

@[simp] theorem State.setReg_pending (a : Nat) (v : Word) : (s.setReg a v).pending = s.pending := rfl
@[simp] theorem State.setReg_out (a : Nat) (v : Word) : (s.setReg a v).out = s.out := rfl
@[simp] theorem State.setReg_freeNext (a : Nat) (v : Word) : (s.setReg a v).freeNext = s.freeNext := rfl
@[simp] theorem State.setReg_variant (a : Nat) (v : Word) : (s.setReg a v).variant = s.variant := rfl
@[simp] theorem State.setReg_aper (a : Nat) (v : Word) : (s.setReg a v).aper = s.aper := rfl
@[simp] theorem State.setReg_mram (a : Nat) (v : Word) : (s.setReg a v).mram = s.mram := rfl
@[simp] theorem State.setReg_rowProgrammed (a : Nat) (v : Word) : (s.setReg a v).rowProgrammed = s.rowProgrammed := rfl
@[simp] theorem State.setReg_slotA (a : Nat) (v : Word) : (s.setReg a v).slotA = s.slotA := rfl
@[simp] theorem State.setReg_slotB (a : Nat) (v : Word) : (s.setReg a v).slotB = s.slotB := rfl
@[simp] theorem State.setReg_genLast (a : Nat) (v : Word) : (s.setReg a v).genLast = s.genLast := rfl
@[simp] theorem State.setReg_nvmRun (a : Nat) (v : Word) : (s.setReg a v).nvmRun = s.nvmRun := rfl
@[simp] theorem State.setReg_nvmBuf (a : Nat) (v : Word) : (s.setReg a v).nvmBuf = s.nvmBuf := rfl
@[simp] theorem State.setReg_farRun (a : Nat) (v : Word) : (s.setReg a v).farRun = s.farRun := rfl
@[simp] theorem State.setReg_boot (a : Nat) (v : Word) : (s.setReg a v).boot = s.boot := rfl
@[simp] theorem State.setReg_coldStart (a : Nat) (v : Word) : (s.setReg a v).coldStart = s.coldStart := rfl
@[simp] theorem State.setReg_coreOn (a : Nat) (v : Word) : (s.setReg a v).coreOn = s.coreOn := rfl
@[simp] theorem State.setReg_lineOn (a : Nat) (v : Word) : (s.setReg a v).lineOn = s.lineOn := rfl
@[simp] theorem State.setReg_pdieOn (a : Nat) (v : Word) : (s.setReg a v).pdieOn = s.pdieOn := rfl
@[simp] theorem State.setReg_cinched (a : Nat) (v : Word) : (s.setReg a v).cinched = s.cinched := rfl
@[simp] theorem State.setReg_lanesOff (a : Nat) (v : Word) : (s.setReg a v).lanesOff = s.lanesOff := rfl
@[simp] theorem State.setReg_portsOff (a : Nat) (v : Word) : (s.setReg a v).portsOff = s.portsOff := rfl
@[simp] theorem State.setReg_teamsOff (a : Nat) (v : Word) : (s.setReg a v).teamsOff = s.teamsOff := rfl
@[simp] theorem State.setReg_links (a : Nat) (v : Word) : (s.setReg a v).links = s.links := rfl
@[simp] theorem State.setReg_aclkCalibrated (a : Nat) (v : Word) : (s.setReg a v).aclkCalibrated = s.aclkCalibrated := rfl
@[simp] theorem State.setReg_owners (a : Nat) (v : Word) : (s.setReg a v).owners = s.owners := rfl
@[simp] theorem State.setReg_uptime (a : Nat) (v : Word) : (s.setReg a v).uptime = s.uptime := rfl
@[simp] theorem State.setReg_tmbCount (a : Nat) (v : Word) : (s.setReg a v).tmbCount = s.tmbCount := rfl
@[simp] theorem State.setReg_tmbOffset (a : Nat) (v : Word) : (s.setReg a v).tmbOffset = s.tmbOffset := rfl
@[simp] theorem State.setReg_perstLow (a : Nat) (v : Word) : (s.setReg a v).perstLow = s.perstLow := rfl
@[simp] theorem State.setReg_msix (a : Nat) (v : Word) : (s.setReg a v).msix = s.msix := rfl
@[simp] theorem State.setReg_msixPending (a : Nat) (v : Word) : (s.setReg a v).msixPending = s.msixPending := rfl
@[simp] theorem State.setReg_windows (a : Nat) (v : Word) : (s.setReg a v).windows = s.windows := rfl
@[simp] theorem State.setReg_journal (a : Nat) (v : Word) : (s.setReg a v).journal = s.journal := rfl
@[simp] theorem State.setReg_journalHeld (a : Nat) (v : Word) : (s.setReg a v).journalHeld = s.journalHeld := rfl
@[simp] theorem State.setReg_journalSeq (a : Nat) (v : Word) : (s.setReg a v).journalSeq = s.journalSeq := rfl
@[simp] theorem State.setReg_class0Coalescing (a : Nat) (v : Word) : (s.setReg a v).class0Coalescing = s.class0Coalescing := rfl
@[simp] theorem State.setReg_bbStaged (a : Nat) (v : Word) : (s.setReg a v).bbStaged = s.bbStaged := rfl
@[simp] theorem State.setReg_bbSeq (a : Nat) (v : Word) : (s.setReg a v).bbSeq = s.bbSeq := rfl
@[simp] theorem State.setReg_blackBox (a : Nat) (v : Word) : (s.setReg a v).blackBox = s.blackBox := rfl
@[simp] theorem State.setReg_lanes (a : Nat) (v : Word) : (s.setReg a v).lanes = s.lanes := rfl
@[simp] theorem State.setReg_txBufs (a : Nat) (v : Word) : (s.setReg a v).txBufs = s.txBufs := rfl
@[simp] theorem State.setReg_orderNext (a : Nat) (v : Word) : (s.setReg a v).orderNext = s.orderNext := rfl
@[simp] theorem State.setReg_egress (a : Nat) (v : Word) : (s.setReg a v).egress = s.egress := rfl
@[simp] theorem State.setReg_portOwner (a : Nat) (v : Word) : (s.setReg a v).portOwner = s.portOwner := rfl
@[simp] theorem State.setReg_hobA (a : Nat) (v : Word) : (s.setReg a v).hobA = s.hobA := rfl
@[simp] theorem State.setReg_hobB (a : Nat) (v : Word) : (s.setReg a v).hobB = s.hobB := rfl
@[simp] theorem State.setReg_offered (a : Nat) (v : Word) : (s.setReg a v).offered = s.offered := rfl
@[simp] theorem State.setReg_ticks (a : Nat) (v : Word) : (s.setReg a v).ticks = s.ticks := rfl
@[simp] theorem State.setReg_wakePlan (a : Nat) (v : Word) : (s.setReg a v).wakePlan = s.wakePlan := rfl
@[simp] theorem State.setReg_pwk (a : Nat) (v : Word) : (s.setReg a v).pwk = s.pwk := rfl
@[simp] theorem State.setReg_aonWakeLimit (a : Nat) (v : Word) : (s.setReg a v).aonWakeLimit = s.aonWakeLimit := rfl
@[simp] theorem State.setReg_aonTamper (a : Nat) (v : Word) : (s.setReg a v).aonTamper = s.aonTamper := rfl
@[simp] theorem State.setReg_outs (a : Nat) (v : Word) : (s.setReg a v).outs = s.outs := rfl
@[simp] theorem State.setReg_conv (a : Nat) (v : Word) : (s.setReg a v).conv = s.conv := rfl
@[simp] theorem State.setReg_groupEnergy (a : Nat) (v : Word) : (s.setReg a v).groupEnergy = s.groupEnergy := rfl
@[simp] theorem State.setReg_planThresh (a : Nat) (v : Word) : (s.setReg a v).planThresh = s.planThresh := rfl
@[simp] theorem State.setReg_timeCapture (a : Nat) (v : Word) : (s.setReg a v).timeCapture = s.timeCapture := rfl
@[simp] theorem State.setReg_tmbInc (a : Nat) (v : Word) : (s.setReg a v).tmbInc = s.tmbInc := rfl
@[simp] theorem State.setReg_lastReport (a : Nat) (v : Word) : (s.setReg a v).lastReport = s.lastReport := rfl
@[simp] theorem State.setReg_trigTarget (a : Nat) (v : Word) : (s.setReg a v).trigTarget = s.trigTarget := rfl
@[simp] theorem State.setReg_trigLate (a : Nat) (v : Word) : (s.setReg a v).trigLate = s.trigLate := rfl
@[simp] theorem State.setReg_pulses (a : Nat) (v : Word) : (s.setReg a v).pulses = s.pulses := rfl
@[simp] theorem State.setReg_captures (a : Nat) (v : Word) : (s.setReg a v).captures = s.captures := rfl
@[simp] theorem State.setReg_ptpRx (a : Nat) (v : Word) : (s.setReg a v).ptpRx = s.ptpRx := rfl
@[simp] theorem State.setReg_ptpTx (a : Nat) (v : Word) : (s.setReg a v).ptpTx = s.ptpTx := rfl
@[simp] theorem State.setReg_portGates (a : Nat) (v : Word) : (s.setReg a v).portGates = s.portGates := rfl
@[simp] theorem State.setReg_badEntries (a : Nat) (v : Word) : (s.setReg a v).badEntries = s.badEntries := rfl
@[simp] theorem State.setReg_tags (a : Nat) (v : Word) : (s.setReg a v).tags = s.tags := rfl
@[simp] theorem State.setReg_sealedAt (a : Nat) (v : Word) : (s.setReg a v).sealedAt = s.sealedAt := rfl
@[simp] theorem State.setReg_aperImage (a : Nat) (v : Word) : (s.setReg a v).aperImage = s.aperImage := rfl
@[simp] theorem State.setReg_repairs (a : Nat) (v : Word) : (s.setReg a v).repairs = s.repairs := rfl
@[simp] theorem State.setReg_autoIds (a : Nat) (v : Word) : (s.setReg a v).autoIds = s.autoIds := rfl
@[simp] theorem State.setReg_ovfRaised (a : Nat) (v : Word) : (s.setReg a v).ovfRaised = s.ovfRaised := rfl
@[simp] theorem State.setReg_fdbEvict (a : Nat) (v : Word) : (s.setReg a v).fdbEvict = s.fdbEvict := rfl
@[simp] theorem State.setReg_pipes (a : Nat) (v : Word) : (s.setReg a v).pipes = s.pipes := rfl
@[simp] theorem State.setReg_mirrorSink (a : Nat) (v : Word) : (s.setReg a v).mirrorSink = s.mirrorSink := rfl
@[simp] theorem State.setReg_buckets (a : Nat) (v : Word) : (s.setReg a v).buckets = s.buckets := rfl
@[simp] theorem State.setReg_schools (a : Nat) (v : Word) : (s.setReg a v).schools = s.schools := rfl
@[simp] theorem State.setReg_schoolWindows (a : Nat) (v : Word) : (s.setReg a v).schoolWindows = s.schoolWindows := rfl
@[simp] theorem State.setReg_unknownRaised (a : Nat) (v : Word) : (s.setReg a v).unknownRaised = s.unknownRaised := rfl
@[simp] theorem State.setReg_sgateEntry (a : Nat) (v : Word) : (s.setReg a v).sgateEntry = s.sgateEntry := rfl
@[simp] theorem State.setReg_sgateStart (a : Nat) (v : Word) : (s.setReg a v).sgateStart = s.sgateStart := rfl
@[simp] theorem State.setReg_stmScrub (a : Nat) (v : Word) : (s.setReg a v).stmScrub = s.stmScrub := rfl
@[simp] theorem State.setReg_stored (a : Nat) (v : Word) : (s.setReg a v).stored = s.stored := rfl
@[simp] theorem State.setReg_storedNext (a : Nat) (v : Word) : (s.setReg a v).storedNext = s.storedNext := rfl
@[simp] theorem State.setReg_voqs (a : Nat) (v : Word) : (s.setReg a v).voqs = s.voqs := rfl
@[simp] theorem State.setReg_voqShared (a : Nat) (v : Word) : (s.setReg a v).voqShared = s.voqShared := rfl
@[simp] theorem State.setReg_pairs (a : Nat) (v : Word) : (s.setReg a v).pairs = s.pairs := rfl
@[simp] theorem State.setReg_grantPtr (a : Nat) (v : Word) : (s.setReg a v).grantPtr = s.grantPtr := rfl
@[simp] theorem State.setReg_acceptPtr (a : Nat) (v : Word) : (s.setReg a v).acceptPtr = s.acceptPtr := rfl
@[simp] theorem State.setReg_round (a : Nat) (v : Word) : (s.setReg a v).round = s.round := rfl
@[simp] theorem State.setReg_poolUsed (a : Nat) (v : Word) : (s.setReg a v).poolUsed = s.poolUsed := rfl
@[simp] theorem State.setReg_sharedLow (a : Nat) (v : Word) : (s.setReg a v).sharedLow = s.sharedLow := rfl
@[simp] theorem State.setReg_laneLow (a : Nat) (v : Word) : (s.setReg a v).laneLow = s.laneLow := rfl
@[simp] theorem State.setReg_eths (a : Nat) (v : Word) : (s.setReg a v).eths = s.eths := rfl
@[simp] theorem State.setReg_rxQueues (a : Nat) (v : Word) : (s.setReg a v).rxQueues = s.rxQueues := rfl
@[simp] theorem State.setReg_steerHeld (a : Nat) (v : Word) : (s.setReg a v).steerHeld = s.steerHeld := rfl
@[simp] theorem State.setReg_cbs (a : Nat) (v : Word) : (s.setReg a v).cbs = s.cbs := rfl
@[simp] theorem State.setReg_defaultClass (a : Nat) (v : Word) : (s.setReg a v).defaultClass = s.defaultClass := rfl
@[simp] theorem State.setReg_pnWarned (a : Nat) (v : Word) : (s.setReg a v).pnWarned = s.pnWarned := rfl
@[simp] theorem State.setReg_pnSpent (a : Nat) (v : Word) : (s.setReg a v).pnSpent = s.pnSpent := rfl
@[simp] theorem State.setReg_keySlots (a : Nat) (v : Word) : (s.setReg a v).keySlots = s.keySlots := rfl
@[simp] theorem State.setReg_teams (a : Nat) (v : Word) : (s.setReg a v).teams = s.teams := rfl
@[simp] theorem State.setReg_sig (a : Nat) (v : Word) : (s.setReg a v).sig = s.sig := rfl
@[simp] theorem State.setReg_gw (a : Nat) (v : Word) : (s.setReg a v).gw = s.gw := rfl
@[simp] theorem State.setReg_cip (a : Nat) (v : Word) : (s.setReg a v).cip = s.cip := rfl
@[simp] theorem State.setReg_tack (a : Nat) (v : Word) : (s.setReg a v).tack = s.tack := rfl
@[simp] theorem State.setReg_sclRun (a : Nat) (v : Word) : (s.setReg a v).sclRun = s.sclRun := rfl
@[simp] theorem State.setReg_host (a : Nat) (v : Word) : (s.setReg a v).host = s.host := rfl
@[simp] theorem State.setReg_super (a : Nat) (v : Word) : (s.setReg a v).super = s.super := rfl
@[simp] theorem State.setReg_credit (a : Nat) (v : Word) : (s.setReg a v).credit = s.credit := rfl

/-! ### fset -/

@[simp] theorem State.fset_pending (f : Fld) (n : Nat) : (s.fset f n).pending = s.pending := rfl
@[simp] theorem State.fset_out (f : Fld) (n : Nat) : (s.fset f n).out = s.out := rfl
@[simp] theorem State.fset_freeNext (f : Fld) (n : Nat) : (s.fset f n).freeNext = s.freeNext := rfl
@[simp] theorem State.fset_variant (f : Fld) (n : Nat) : (s.fset f n).variant = s.variant := rfl
@[simp] theorem State.fset_aper (f : Fld) (n : Nat) : (s.fset f n).aper = s.aper := rfl
@[simp] theorem State.fset_mram (f : Fld) (n : Nat) : (s.fset f n).mram = s.mram := rfl
@[simp] theorem State.fset_rowProgrammed (f : Fld) (n : Nat) : (s.fset f n).rowProgrammed = s.rowProgrammed := rfl
@[simp] theorem State.fset_slotA (f : Fld) (n : Nat) : (s.fset f n).slotA = s.slotA := rfl
@[simp] theorem State.fset_slotB (f : Fld) (n : Nat) : (s.fset f n).slotB = s.slotB := rfl
@[simp] theorem State.fset_genLast (f : Fld) (n : Nat) : (s.fset f n).genLast = s.genLast := rfl
@[simp] theorem State.fset_nvmRun (f : Fld) (n : Nat) : (s.fset f n).nvmRun = s.nvmRun := rfl
@[simp] theorem State.fset_nvmBuf (f : Fld) (n : Nat) : (s.fset f n).nvmBuf = s.nvmBuf := rfl
@[simp] theorem State.fset_farRun (f : Fld) (n : Nat) : (s.fset f n).farRun = s.farRun := rfl
@[simp] theorem State.fset_boot (f : Fld) (n : Nat) : (s.fset f n).boot = s.boot := rfl
@[simp] theorem State.fset_coldStart (f : Fld) (n : Nat) : (s.fset f n).coldStart = s.coldStart := rfl
@[simp] theorem State.fset_coreOn (f : Fld) (n : Nat) : (s.fset f n).coreOn = s.coreOn := rfl
@[simp] theorem State.fset_lineOn (f : Fld) (n : Nat) : (s.fset f n).lineOn = s.lineOn := rfl
@[simp] theorem State.fset_pdieOn (f : Fld) (n : Nat) : (s.fset f n).pdieOn = s.pdieOn := rfl
@[simp] theorem State.fset_cinched (f : Fld) (n : Nat) : (s.fset f n).cinched = s.cinched := rfl
@[simp] theorem State.fset_lanesOff (f : Fld) (n : Nat) : (s.fset f n).lanesOff = s.lanesOff := rfl
@[simp] theorem State.fset_portsOff (f : Fld) (n : Nat) : (s.fset f n).portsOff = s.portsOff := rfl
@[simp] theorem State.fset_teamsOff (f : Fld) (n : Nat) : (s.fset f n).teamsOff = s.teamsOff := rfl
@[simp] theorem State.fset_links (f : Fld) (n : Nat) : (s.fset f n).links = s.links := rfl
@[simp] theorem State.fset_aclkCalibrated (f : Fld) (n : Nat) : (s.fset f n).aclkCalibrated = s.aclkCalibrated := rfl
@[simp] theorem State.fset_owners (f : Fld) (n : Nat) : (s.fset f n).owners = s.owners := rfl
@[simp] theorem State.fset_uptime (f : Fld) (n : Nat) : (s.fset f n).uptime = s.uptime := rfl
@[simp] theorem State.fset_tmbCount (f : Fld) (n : Nat) : (s.fset f n).tmbCount = s.tmbCount := rfl
@[simp] theorem State.fset_tmbOffset (f : Fld) (n : Nat) : (s.fset f n).tmbOffset = s.tmbOffset := rfl
@[simp] theorem State.fset_perstLow (f : Fld) (n : Nat) : (s.fset f n).perstLow = s.perstLow := rfl
@[simp] theorem State.fset_msix (f : Fld) (n : Nat) : (s.fset f n).msix = s.msix := rfl
@[simp] theorem State.fset_msixPending (f : Fld) (n : Nat) : (s.fset f n).msixPending = s.msixPending := rfl
@[simp] theorem State.fset_windows (f : Fld) (n : Nat) : (s.fset f n).windows = s.windows := rfl
@[simp] theorem State.fset_journal (f : Fld) (n : Nat) : (s.fset f n).journal = s.journal := rfl
@[simp] theorem State.fset_journalHeld (f : Fld) (n : Nat) : (s.fset f n).journalHeld = s.journalHeld := rfl
@[simp] theorem State.fset_journalSeq (f : Fld) (n : Nat) : (s.fset f n).journalSeq = s.journalSeq := rfl
@[simp] theorem State.fset_class0Coalescing (f : Fld) (n : Nat) : (s.fset f n).class0Coalescing = s.class0Coalescing := rfl
@[simp] theorem State.fset_bbStaged (f : Fld) (n : Nat) : (s.fset f n).bbStaged = s.bbStaged := rfl
@[simp] theorem State.fset_bbSeq (f : Fld) (n : Nat) : (s.fset f n).bbSeq = s.bbSeq := rfl
@[simp] theorem State.fset_blackBox (f : Fld) (n : Nat) : (s.fset f n).blackBox = s.blackBox := rfl
@[simp] theorem State.fset_lanes (f : Fld) (n : Nat) : (s.fset f n).lanes = s.lanes := rfl
@[simp] theorem State.fset_txBufs (f : Fld) (n : Nat) : (s.fset f n).txBufs = s.txBufs := rfl
@[simp] theorem State.fset_orderNext (f : Fld) (n : Nat) : (s.fset f n).orderNext = s.orderNext := rfl
@[simp] theorem State.fset_egress (f : Fld) (n : Nat) : (s.fset f n).egress = s.egress := rfl
@[simp] theorem State.fset_portOwner (f : Fld) (n : Nat) : (s.fset f n).portOwner = s.portOwner := rfl
@[simp] theorem State.fset_hobA (f : Fld) (n : Nat) : (s.fset f n).hobA = s.hobA := rfl
@[simp] theorem State.fset_hobB (f : Fld) (n : Nat) : (s.fset f n).hobB = s.hobB := rfl
@[simp] theorem State.fset_offered (f : Fld) (n : Nat) : (s.fset f n).offered = s.offered := rfl
@[simp] theorem State.fset_ticks (f : Fld) (n : Nat) : (s.fset f n).ticks = s.ticks := rfl
@[simp] theorem State.fset_wakePlan (f : Fld) (n : Nat) : (s.fset f n).wakePlan = s.wakePlan := rfl
@[simp] theorem State.fset_pwk (f : Fld) (n : Nat) : (s.fset f n).pwk = s.pwk := rfl
@[simp] theorem State.fset_aonWakeLimit (f : Fld) (n : Nat) : (s.fset f n).aonWakeLimit = s.aonWakeLimit := rfl
@[simp] theorem State.fset_aonTamper (f : Fld) (n : Nat) : (s.fset f n).aonTamper = s.aonTamper := rfl
@[simp] theorem State.fset_outs (f : Fld) (n : Nat) : (s.fset f n).outs = s.outs := rfl
@[simp] theorem State.fset_conv (f : Fld) (n : Nat) : (s.fset f n).conv = s.conv := rfl
@[simp] theorem State.fset_groupEnergy (f : Fld) (n : Nat) : (s.fset f n).groupEnergy = s.groupEnergy := rfl
@[simp] theorem State.fset_planThresh (f : Fld) (n : Nat) : (s.fset f n).planThresh = s.planThresh := rfl
@[simp] theorem State.fset_timeCapture (f : Fld) (n : Nat) : (s.fset f n).timeCapture = s.timeCapture := rfl
@[simp] theorem State.fset_tmbInc (f : Fld) (n : Nat) : (s.fset f n).tmbInc = s.tmbInc := rfl
@[simp] theorem State.fset_lastReport (f : Fld) (n : Nat) : (s.fset f n).lastReport = s.lastReport := rfl
@[simp] theorem State.fset_trigTarget (f : Fld) (n : Nat) : (s.fset f n).trigTarget = s.trigTarget := rfl
@[simp] theorem State.fset_trigLate (f : Fld) (n : Nat) : (s.fset f n).trigLate = s.trigLate := rfl
@[simp] theorem State.fset_pulses (f : Fld) (n : Nat) : (s.fset f n).pulses = s.pulses := rfl
@[simp] theorem State.fset_captures (f : Fld) (n : Nat) : (s.fset f n).captures = s.captures := rfl
@[simp] theorem State.fset_ptpRx (f : Fld) (n : Nat) : (s.fset f n).ptpRx = s.ptpRx := rfl
@[simp] theorem State.fset_ptpTx (f : Fld) (n : Nat) : (s.fset f n).ptpTx = s.ptpTx := rfl
@[simp] theorem State.fset_portGates (f : Fld) (n : Nat) : (s.fset f n).portGates = s.portGates := rfl
@[simp] theorem State.fset_badEntries (f : Fld) (n : Nat) : (s.fset f n).badEntries = s.badEntries := rfl
@[simp] theorem State.fset_tags (f : Fld) (n : Nat) : (s.fset f n).tags = s.tags := rfl
@[simp] theorem State.fset_sealedAt (f : Fld) (n : Nat) : (s.fset f n).sealedAt = s.sealedAt := rfl
@[simp] theorem State.fset_aperImage (f : Fld) (n : Nat) : (s.fset f n).aperImage = s.aperImage := rfl
@[simp] theorem State.fset_repairs (f : Fld) (n : Nat) : (s.fset f n).repairs = s.repairs := rfl
@[simp] theorem State.fset_autoIds (f : Fld) (n : Nat) : (s.fset f n).autoIds = s.autoIds := rfl
@[simp] theorem State.fset_ovfRaised (f : Fld) (n : Nat) : (s.fset f n).ovfRaised = s.ovfRaised := rfl
@[simp] theorem State.fset_fdbEvict (f : Fld) (n : Nat) : (s.fset f n).fdbEvict = s.fdbEvict := rfl
@[simp] theorem State.fset_pipes (f : Fld) (n : Nat) : (s.fset f n).pipes = s.pipes := rfl
@[simp] theorem State.fset_mirrorSink (f : Fld) (n : Nat) : (s.fset f n).mirrorSink = s.mirrorSink := rfl
@[simp] theorem State.fset_buckets (f : Fld) (n : Nat) : (s.fset f n).buckets = s.buckets := rfl
@[simp] theorem State.fset_schools (f : Fld) (n : Nat) : (s.fset f n).schools = s.schools := rfl
@[simp] theorem State.fset_schoolWindows (f : Fld) (n : Nat) : (s.fset f n).schoolWindows = s.schoolWindows := rfl
@[simp] theorem State.fset_unknownRaised (f : Fld) (n : Nat) : (s.fset f n).unknownRaised = s.unknownRaised := rfl
@[simp] theorem State.fset_sgateEntry (f : Fld) (n : Nat) : (s.fset f n).sgateEntry = s.sgateEntry := rfl
@[simp] theorem State.fset_sgateStart (f : Fld) (n : Nat) : (s.fset f n).sgateStart = s.sgateStart := rfl
@[simp] theorem State.fset_stmScrub (f : Fld) (n : Nat) : (s.fset f n).stmScrub = s.stmScrub := rfl
@[simp] theorem State.fset_stored (f : Fld) (n : Nat) : (s.fset f n).stored = s.stored := rfl
@[simp] theorem State.fset_storedNext (f : Fld) (n : Nat) : (s.fset f n).storedNext = s.storedNext := rfl
@[simp] theorem State.fset_voqs (f : Fld) (n : Nat) : (s.fset f n).voqs = s.voqs := rfl
@[simp] theorem State.fset_voqShared (f : Fld) (n : Nat) : (s.fset f n).voqShared = s.voqShared := rfl
@[simp] theorem State.fset_pairs (f : Fld) (n : Nat) : (s.fset f n).pairs = s.pairs := rfl
@[simp] theorem State.fset_grantPtr (f : Fld) (n : Nat) : (s.fset f n).grantPtr = s.grantPtr := rfl
@[simp] theorem State.fset_acceptPtr (f : Fld) (n : Nat) : (s.fset f n).acceptPtr = s.acceptPtr := rfl
@[simp] theorem State.fset_round (f : Fld) (n : Nat) : (s.fset f n).round = s.round := rfl
@[simp] theorem State.fset_poolUsed (f : Fld) (n : Nat) : (s.fset f n).poolUsed = s.poolUsed := rfl
@[simp] theorem State.fset_sharedLow (f : Fld) (n : Nat) : (s.fset f n).sharedLow = s.sharedLow := rfl
@[simp] theorem State.fset_laneLow (f : Fld) (n : Nat) : (s.fset f n).laneLow = s.laneLow := rfl
@[simp] theorem State.fset_eths (f : Fld) (n : Nat) : (s.fset f n).eths = s.eths := rfl
@[simp] theorem State.fset_rxQueues (f : Fld) (n : Nat) : (s.fset f n).rxQueues = s.rxQueues := rfl
@[simp] theorem State.fset_steerHeld (f : Fld) (n : Nat) : (s.fset f n).steerHeld = s.steerHeld := rfl
@[simp] theorem State.fset_cbs (f : Fld) (n : Nat) : (s.fset f n).cbs = s.cbs := rfl
@[simp] theorem State.fset_defaultClass (f : Fld) (n : Nat) : (s.fset f n).defaultClass = s.defaultClass := rfl
@[simp] theorem State.fset_pnWarned (f : Fld) (n : Nat) : (s.fset f n).pnWarned = s.pnWarned := rfl
@[simp] theorem State.fset_pnSpent (f : Fld) (n : Nat) : (s.fset f n).pnSpent = s.pnSpent := rfl
@[simp] theorem State.fset_keySlots (f : Fld) (n : Nat) : (s.fset f n).keySlots = s.keySlots := rfl
@[simp] theorem State.fset_teams (f : Fld) (n : Nat) : (s.fset f n).teams = s.teams := rfl
@[simp] theorem State.fset_sig (f : Fld) (n : Nat) : (s.fset f n).sig = s.sig := rfl
@[simp] theorem State.fset_gw (f : Fld) (n : Nat) : (s.fset f n).gw = s.gw := rfl
@[simp] theorem State.fset_cip (f : Fld) (n : Nat) : (s.fset f n).cip = s.cip := rfl
@[simp] theorem State.fset_tack (f : Fld) (n : Nat) : (s.fset f n).tack = s.tack := rfl
@[simp] theorem State.fset_sclRun (f : Fld) (n : Nat) : (s.fset f n).sclRun = s.sclRun := rfl
@[simp] theorem State.fset_host (f : Fld) (n : Nat) : (s.fset f n).host = s.host := rfl
@[simp] theorem State.fset_super (f : Fld) (n : Nat) : (s.fset f n).super = s.super := rfl
@[simp] theorem State.fset_credit (f : Fld) (n : Nat) : (s.fset f n).credit = s.credit := rfl

/-! ### emit -/

@[simp] theorem State.emit_pending (o : Output) : (s.emit o).pending = s.pending := rfl
@[simp] theorem State.emit_freeNext (o : Output) : (s.emit o).freeNext = s.freeNext := rfl
@[simp] theorem State.emit_variant (o : Output) : (s.emit o).variant = s.variant := rfl
@[simp] theorem State.emit_regs (o : Output) : (s.emit o).regs = s.regs := rfl
@[simp] theorem State.emit_aper (o : Output) : (s.emit o).aper = s.aper := rfl
@[simp] theorem State.emit_mram (o : Output) : (s.emit o).mram = s.mram := rfl
@[simp] theorem State.emit_rowProgrammed (o : Output) : (s.emit o).rowProgrammed = s.rowProgrammed := rfl
@[simp] theorem State.emit_slotA (o : Output) : (s.emit o).slotA = s.slotA := rfl
@[simp] theorem State.emit_slotB (o : Output) : (s.emit o).slotB = s.slotB := rfl
@[simp] theorem State.emit_genLast (o : Output) : (s.emit o).genLast = s.genLast := rfl
@[simp] theorem State.emit_nvmRun (o : Output) : (s.emit o).nvmRun = s.nvmRun := rfl
@[simp] theorem State.emit_nvmBuf (o : Output) : (s.emit o).nvmBuf = s.nvmBuf := rfl
@[simp] theorem State.emit_farRun (o : Output) : (s.emit o).farRun = s.farRun := rfl
@[simp] theorem State.emit_boot (o : Output) : (s.emit o).boot = s.boot := rfl
@[simp] theorem State.emit_coldStart (o : Output) : (s.emit o).coldStart = s.coldStart := rfl
@[simp] theorem State.emit_coreOn (o : Output) : (s.emit o).coreOn = s.coreOn := rfl
@[simp] theorem State.emit_lineOn (o : Output) : (s.emit o).lineOn = s.lineOn := rfl
@[simp] theorem State.emit_pdieOn (o : Output) : (s.emit o).pdieOn = s.pdieOn := rfl
@[simp] theorem State.emit_cinched (o : Output) : (s.emit o).cinched = s.cinched := rfl
@[simp] theorem State.emit_lanesOff (o : Output) : (s.emit o).lanesOff = s.lanesOff := rfl
@[simp] theorem State.emit_portsOff (o : Output) : (s.emit o).portsOff = s.portsOff := rfl
@[simp] theorem State.emit_teamsOff (o : Output) : (s.emit o).teamsOff = s.teamsOff := rfl
@[simp] theorem State.emit_links (o : Output) : (s.emit o).links = s.links := rfl
@[simp] theorem State.emit_aclkCalibrated (o : Output) : (s.emit o).aclkCalibrated = s.aclkCalibrated := rfl
@[simp] theorem State.emit_owners (o : Output) : (s.emit o).owners = s.owners := rfl
@[simp] theorem State.emit_uptime (o : Output) : (s.emit o).uptime = s.uptime := rfl
@[simp] theorem State.emit_tmbCount (o : Output) : (s.emit o).tmbCount = s.tmbCount := rfl
@[simp] theorem State.emit_tmbOffset (o : Output) : (s.emit o).tmbOffset = s.tmbOffset := rfl
@[simp] theorem State.emit_perstLow (o : Output) : (s.emit o).perstLow = s.perstLow := rfl
@[simp] theorem State.emit_msix (o : Output) : (s.emit o).msix = s.msix := rfl
@[simp] theorem State.emit_msixPending (o : Output) : (s.emit o).msixPending = s.msixPending := rfl
@[simp] theorem State.emit_windows (o : Output) : (s.emit o).windows = s.windows := rfl
@[simp] theorem State.emit_journal (o : Output) : (s.emit o).journal = s.journal := rfl
@[simp] theorem State.emit_journalHeld (o : Output) : (s.emit o).journalHeld = s.journalHeld := rfl
@[simp] theorem State.emit_journalSeq (o : Output) : (s.emit o).journalSeq = s.journalSeq := rfl
@[simp] theorem State.emit_class0Coalescing (o : Output) : (s.emit o).class0Coalescing = s.class0Coalescing := rfl
@[simp] theorem State.emit_bbStaged (o : Output) : (s.emit o).bbStaged = s.bbStaged := rfl
@[simp] theorem State.emit_bbSeq (o : Output) : (s.emit o).bbSeq = s.bbSeq := rfl
@[simp] theorem State.emit_blackBox (o : Output) : (s.emit o).blackBox = s.blackBox := rfl
@[simp] theorem State.emit_lanes (o : Output) : (s.emit o).lanes = s.lanes := rfl
@[simp] theorem State.emit_txBufs (o : Output) : (s.emit o).txBufs = s.txBufs := rfl
@[simp] theorem State.emit_orderNext (o : Output) : (s.emit o).orderNext = s.orderNext := rfl
@[simp] theorem State.emit_egress (o : Output) : (s.emit o).egress = s.egress := rfl
@[simp] theorem State.emit_portOwner (o : Output) : (s.emit o).portOwner = s.portOwner := rfl
@[simp] theorem State.emit_hobA (o : Output) : (s.emit o).hobA = s.hobA := rfl
@[simp] theorem State.emit_hobB (o : Output) : (s.emit o).hobB = s.hobB := rfl
@[simp] theorem State.emit_offered (o : Output) : (s.emit o).offered = s.offered := rfl
@[simp] theorem State.emit_ticks (o : Output) : (s.emit o).ticks = s.ticks := rfl
@[simp] theorem State.emit_wakePlan (o : Output) : (s.emit o).wakePlan = s.wakePlan := rfl
@[simp] theorem State.emit_pwk (o : Output) : (s.emit o).pwk = s.pwk := rfl
@[simp] theorem State.emit_aonWakeLimit (o : Output) : (s.emit o).aonWakeLimit = s.aonWakeLimit := rfl
@[simp] theorem State.emit_aonTamper (o : Output) : (s.emit o).aonTamper = s.aonTamper := rfl
@[simp] theorem State.emit_outs (o : Output) : (s.emit o).outs = s.outs := rfl
@[simp] theorem State.emit_conv (o : Output) : (s.emit o).conv = s.conv := rfl
@[simp] theorem State.emit_groupEnergy (o : Output) : (s.emit o).groupEnergy = s.groupEnergy := rfl
@[simp] theorem State.emit_planThresh (o : Output) : (s.emit o).planThresh = s.planThresh := rfl
@[simp] theorem State.emit_timeCapture (o : Output) : (s.emit o).timeCapture = s.timeCapture := rfl
@[simp] theorem State.emit_tmbInc (o : Output) : (s.emit o).tmbInc = s.tmbInc := rfl
@[simp] theorem State.emit_lastReport (o : Output) : (s.emit o).lastReport = s.lastReport := rfl
@[simp] theorem State.emit_trigTarget (o : Output) : (s.emit o).trigTarget = s.trigTarget := rfl
@[simp] theorem State.emit_trigLate (o : Output) : (s.emit o).trigLate = s.trigLate := rfl
@[simp] theorem State.emit_pulses (o : Output) : (s.emit o).pulses = s.pulses := rfl
@[simp] theorem State.emit_captures (o : Output) : (s.emit o).captures = s.captures := rfl
@[simp] theorem State.emit_ptpRx (o : Output) : (s.emit o).ptpRx = s.ptpRx := rfl
@[simp] theorem State.emit_ptpTx (o : Output) : (s.emit o).ptpTx = s.ptpTx := rfl
@[simp] theorem State.emit_portGates (o : Output) : (s.emit o).portGates = s.portGates := rfl
@[simp] theorem State.emit_badEntries (o : Output) : (s.emit o).badEntries = s.badEntries := rfl
@[simp] theorem State.emit_tags (o : Output) : (s.emit o).tags = s.tags := rfl
@[simp] theorem State.emit_sealedAt (o : Output) : (s.emit o).sealedAt = s.sealedAt := rfl
@[simp] theorem State.emit_aperImage (o : Output) : (s.emit o).aperImage = s.aperImage := rfl
@[simp] theorem State.emit_repairs (o : Output) : (s.emit o).repairs = s.repairs := rfl
@[simp] theorem State.emit_autoIds (o : Output) : (s.emit o).autoIds = s.autoIds := rfl
@[simp] theorem State.emit_ovfRaised (o : Output) : (s.emit o).ovfRaised = s.ovfRaised := rfl
@[simp] theorem State.emit_fdbEvict (o : Output) : (s.emit o).fdbEvict = s.fdbEvict := rfl
@[simp] theorem State.emit_pipes (o : Output) : (s.emit o).pipes = s.pipes := rfl
@[simp] theorem State.emit_mirrorSink (o : Output) : (s.emit o).mirrorSink = s.mirrorSink := rfl
@[simp] theorem State.emit_buckets (o : Output) : (s.emit o).buckets = s.buckets := rfl
@[simp] theorem State.emit_schools (o : Output) : (s.emit o).schools = s.schools := rfl
@[simp] theorem State.emit_schoolWindows (o : Output) : (s.emit o).schoolWindows = s.schoolWindows := rfl
@[simp] theorem State.emit_unknownRaised (o : Output) : (s.emit o).unknownRaised = s.unknownRaised := rfl
@[simp] theorem State.emit_sgateEntry (o : Output) : (s.emit o).sgateEntry = s.sgateEntry := rfl
@[simp] theorem State.emit_sgateStart (o : Output) : (s.emit o).sgateStart = s.sgateStart := rfl
@[simp] theorem State.emit_stmScrub (o : Output) : (s.emit o).stmScrub = s.stmScrub := rfl
@[simp] theorem State.emit_stored (o : Output) : (s.emit o).stored = s.stored := rfl
@[simp] theorem State.emit_storedNext (o : Output) : (s.emit o).storedNext = s.storedNext := rfl
@[simp] theorem State.emit_voqs (o : Output) : (s.emit o).voqs = s.voqs := rfl
@[simp] theorem State.emit_voqShared (o : Output) : (s.emit o).voqShared = s.voqShared := rfl
@[simp] theorem State.emit_pairs (o : Output) : (s.emit o).pairs = s.pairs := rfl
@[simp] theorem State.emit_grantPtr (o : Output) : (s.emit o).grantPtr = s.grantPtr := rfl
@[simp] theorem State.emit_acceptPtr (o : Output) : (s.emit o).acceptPtr = s.acceptPtr := rfl
@[simp] theorem State.emit_round (o : Output) : (s.emit o).round = s.round := rfl
@[simp] theorem State.emit_poolUsed (o : Output) : (s.emit o).poolUsed = s.poolUsed := rfl
@[simp] theorem State.emit_sharedLow (o : Output) : (s.emit o).sharedLow = s.sharedLow := rfl
@[simp] theorem State.emit_laneLow (o : Output) : (s.emit o).laneLow = s.laneLow := rfl
@[simp] theorem State.emit_eths (o : Output) : (s.emit o).eths = s.eths := rfl
@[simp] theorem State.emit_rxQueues (o : Output) : (s.emit o).rxQueues = s.rxQueues := rfl
@[simp] theorem State.emit_steerHeld (o : Output) : (s.emit o).steerHeld = s.steerHeld := rfl
@[simp] theorem State.emit_cbs (o : Output) : (s.emit o).cbs = s.cbs := rfl
@[simp] theorem State.emit_defaultClass (o : Output) : (s.emit o).defaultClass = s.defaultClass := rfl
@[simp] theorem State.emit_pnWarned (o : Output) : (s.emit o).pnWarned = s.pnWarned := rfl
@[simp] theorem State.emit_pnSpent (o : Output) : (s.emit o).pnSpent = s.pnSpent := rfl
@[simp] theorem State.emit_keySlots (o : Output) : (s.emit o).keySlots = s.keySlots := rfl
@[simp] theorem State.emit_teams (o : Output) : (s.emit o).teams = s.teams := rfl
@[simp] theorem State.emit_sig (o : Output) : (s.emit o).sig = s.sig := rfl
@[simp] theorem State.emit_gw (o : Output) : (s.emit o).gw = s.gw := rfl
@[simp] theorem State.emit_cip (o : Output) : (s.emit o).cip = s.cip := rfl
@[simp] theorem State.emit_tack (o : Output) : (s.emit o).tack = s.tack := rfl
@[simp] theorem State.emit_sclRun (o : Output) : (s.emit o).sclRun = s.sclRun := rfl
@[simp] theorem State.emit_host (o : Output) : (s.emit o).host = s.host := rfl
@[simp] theorem State.emit_super (o : Output) : (s.emit o).super = s.super := rfl
@[simp] theorem State.emit_credit (o : Output) : (s.emit o).credit = s.credit := rfl

/-! ### drew -/

@[simp] theorem State.drew_pending (n : Nat) : (s.drew n).pending = s.pending := rfl
@[simp] theorem State.drew_out (n : Nat) : (s.drew n).out = s.out := rfl
@[simp] theorem State.drew_variant (n : Nat) : (s.drew n).variant = s.variant := rfl
@[simp] theorem State.drew_regs (n : Nat) : (s.drew n).regs = s.regs := rfl
@[simp] theorem State.drew_aper (n : Nat) : (s.drew n).aper = s.aper := rfl
@[simp] theorem State.drew_mram (n : Nat) : (s.drew n).mram = s.mram := rfl
@[simp] theorem State.drew_rowProgrammed (n : Nat) : (s.drew n).rowProgrammed = s.rowProgrammed := rfl
@[simp] theorem State.drew_slotA (n : Nat) : (s.drew n).slotA = s.slotA := rfl
@[simp] theorem State.drew_slotB (n : Nat) : (s.drew n).slotB = s.slotB := rfl
@[simp] theorem State.drew_genLast (n : Nat) : (s.drew n).genLast = s.genLast := rfl
@[simp] theorem State.drew_nvmRun (n : Nat) : (s.drew n).nvmRun = s.nvmRun := rfl
@[simp] theorem State.drew_nvmBuf (n : Nat) : (s.drew n).nvmBuf = s.nvmBuf := rfl
@[simp] theorem State.drew_farRun (n : Nat) : (s.drew n).farRun = s.farRun := rfl
@[simp] theorem State.drew_boot (n : Nat) : (s.drew n).boot = s.boot := rfl
@[simp] theorem State.drew_coldStart (n : Nat) : (s.drew n).coldStart = s.coldStart := rfl
@[simp] theorem State.drew_coreOn (n : Nat) : (s.drew n).coreOn = s.coreOn := rfl
@[simp] theorem State.drew_lineOn (n : Nat) : (s.drew n).lineOn = s.lineOn := rfl
@[simp] theorem State.drew_pdieOn (n : Nat) : (s.drew n).pdieOn = s.pdieOn := rfl
@[simp] theorem State.drew_cinched (n : Nat) : (s.drew n).cinched = s.cinched := rfl
@[simp] theorem State.drew_lanesOff (n : Nat) : (s.drew n).lanesOff = s.lanesOff := rfl
@[simp] theorem State.drew_portsOff (n : Nat) : (s.drew n).portsOff = s.portsOff := rfl
@[simp] theorem State.drew_teamsOff (n : Nat) : (s.drew n).teamsOff = s.teamsOff := rfl
@[simp] theorem State.drew_links (n : Nat) : (s.drew n).links = s.links := rfl
@[simp] theorem State.drew_aclkCalibrated (n : Nat) : (s.drew n).aclkCalibrated = s.aclkCalibrated := rfl
@[simp] theorem State.drew_owners (n : Nat) : (s.drew n).owners = s.owners := rfl
@[simp] theorem State.drew_uptime (n : Nat) : (s.drew n).uptime = s.uptime := rfl
@[simp] theorem State.drew_tmbCount (n : Nat) : (s.drew n).tmbCount = s.tmbCount := rfl
@[simp] theorem State.drew_tmbOffset (n : Nat) : (s.drew n).tmbOffset = s.tmbOffset := rfl
@[simp] theorem State.drew_perstLow (n : Nat) : (s.drew n).perstLow = s.perstLow := rfl
@[simp] theorem State.drew_msix (n : Nat) : (s.drew n).msix = s.msix := rfl
@[simp] theorem State.drew_msixPending (n : Nat) : (s.drew n).msixPending = s.msixPending := rfl
@[simp] theorem State.drew_windows (n : Nat) : (s.drew n).windows = s.windows := rfl
@[simp] theorem State.drew_journal (n : Nat) : (s.drew n).journal = s.journal := rfl
@[simp] theorem State.drew_journalHeld (n : Nat) : (s.drew n).journalHeld = s.journalHeld := rfl
@[simp] theorem State.drew_journalSeq (n : Nat) : (s.drew n).journalSeq = s.journalSeq := rfl
@[simp] theorem State.drew_class0Coalescing (n : Nat) : (s.drew n).class0Coalescing = s.class0Coalescing := rfl
@[simp] theorem State.drew_bbStaged (n : Nat) : (s.drew n).bbStaged = s.bbStaged := rfl
@[simp] theorem State.drew_bbSeq (n : Nat) : (s.drew n).bbSeq = s.bbSeq := rfl
@[simp] theorem State.drew_blackBox (n : Nat) : (s.drew n).blackBox = s.blackBox := rfl
@[simp] theorem State.drew_lanes (n : Nat) : (s.drew n).lanes = s.lanes := rfl
@[simp] theorem State.drew_txBufs (n : Nat) : (s.drew n).txBufs = s.txBufs := rfl
@[simp] theorem State.drew_orderNext (n : Nat) : (s.drew n).orderNext = s.orderNext := rfl
@[simp] theorem State.drew_egress (n : Nat) : (s.drew n).egress = s.egress := rfl
@[simp] theorem State.drew_portOwner (n : Nat) : (s.drew n).portOwner = s.portOwner := rfl
@[simp] theorem State.drew_hobA (n : Nat) : (s.drew n).hobA = s.hobA := rfl
@[simp] theorem State.drew_hobB (n : Nat) : (s.drew n).hobB = s.hobB := rfl
@[simp] theorem State.drew_offered (n : Nat) : (s.drew n).offered = s.offered := rfl
@[simp] theorem State.drew_ticks (n : Nat) : (s.drew n).ticks = s.ticks := rfl
@[simp] theorem State.drew_wakePlan (n : Nat) : (s.drew n).wakePlan = s.wakePlan := rfl
@[simp] theorem State.drew_pwk (n : Nat) : (s.drew n).pwk = s.pwk := rfl
@[simp] theorem State.drew_aonWakeLimit (n : Nat) : (s.drew n).aonWakeLimit = s.aonWakeLimit := rfl
@[simp] theorem State.drew_aonTamper (n : Nat) : (s.drew n).aonTamper = s.aonTamper := rfl
@[simp] theorem State.drew_outs (n : Nat) : (s.drew n).outs = s.outs := rfl
@[simp] theorem State.drew_conv (n : Nat) : (s.drew n).conv = s.conv := rfl
@[simp] theorem State.drew_groupEnergy (n : Nat) : (s.drew n).groupEnergy = s.groupEnergy := rfl
@[simp] theorem State.drew_planThresh (n : Nat) : (s.drew n).planThresh = s.planThresh := rfl
@[simp] theorem State.drew_timeCapture (n : Nat) : (s.drew n).timeCapture = s.timeCapture := rfl
@[simp] theorem State.drew_tmbInc (n : Nat) : (s.drew n).tmbInc = s.tmbInc := rfl
@[simp] theorem State.drew_lastReport (n : Nat) : (s.drew n).lastReport = s.lastReport := rfl
@[simp] theorem State.drew_trigTarget (n : Nat) : (s.drew n).trigTarget = s.trigTarget := rfl
@[simp] theorem State.drew_trigLate (n : Nat) : (s.drew n).trigLate = s.trigLate := rfl
@[simp] theorem State.drew_pulses (n : Nat) : (s.drew n).pulses = s.pulses := rfl
@[simp] theorem State.drew_captures (n : Nat) : (s.drew n).captures = s.captures := rfl
@[simp] theorem State.drew_ptpRx (n : Nat) : (s.drew n).ptpRx = s.ptpRx := rfl
@[simp] theorem State.drew_ptpTx (n : Nat) : (s.drew n).ptpTx = s.ptpTx := rfl
@[simp] theorem State.drew_portGates (n : Nat) : (s.drew n).portGates = s.portGates := rfl
@[simp] theorem State.drew_badEntries (n : Nat) : (s.drew n).badEntries = s.badEntries := rfl
@[simp] theorem State.drew_tags (n : Nat) : (s.drew n).tags = s.tags := rfl
@[simp] theorem State.drew_sealedAt (n : Nat) : (s.drew n).sealedAt = s.sealedAt := rfl
@[simp] theorem State.drew_aperImage (n : Nat) : (s.drew n).aperImage = s.aperImage := rfl
@[simp] theorem State.drew_repairs (n : Nat) : (s.drew n).repairs = s.repairs := rfl
@[simp] theorem State.drew_autoIds (n : Nat) : (s.drew n).autoIds = s.autoIds := rfl
@[simp] theorem State.drew_ovfRaised (n : Nat) : (s.drew n).ovfRaised = s.ovfRaised := rfl
@[simp] theorem State.drew_fdbEvict (n : Nat) : (s.drew n).fdbEvict = s.fdbEvict := rfl
@[simp] theorem State.drew_pipes (n : Nat) : (s.drew n).pipes = s.pipes := rfl
@[simp] theorem State.drew_mirrorSink (n : Nat) : (s.drew n).mirrorSink = s.mirrorSink := rfl
@[simp] theorem State.drew_buckets (n : Nat) : (s.drew n).buckets = s.buckets := rfl
@[simp] theorem State.drew_schools (n : Nat) : (s.drew n).schools = s.schools := rfl
@[simp] theorem State.drew_schoolWindows (n : Nat) : (s.drew n).schoolWindows = s.schoolWindows := rfl
@[simp] theorem State.drew_unknownRaised (n : Nat) : (s.drew n).unknownRaised = s.unknownRaised := rfl
@[simp] theorem State.drew_sgateEntry (n : Nat) : (s.drew n).sgateEntry = s.sgateEntry := rfl
@[simp] theorem State.drew_sgateStart (n : Nat) : (s.drew n).sgateStart = s.sgateStart := rfl
@[simp] theorem State.drew_stmScrub (n : Nat) : (s.drew n).stmScrub = s.stmScrub := rfl
@[simp] theorem State.drew_stored (n : Nat) : (s.drew n).stored = s.stored := rfl
@[simp] theorem State.drew_storedNext (n : Nat) : (s.drew n).storedNext = s.storedNext := rfl
@[simp] theorem State.drew_voqs (n : Nat) : (s.drew n).voqs = s.voqs := rfl
@[simp] theorem State.drew_voqShared (n : Nat) : (s.drew n).voqShared = s.voqShared := rfl
@[simp] theorem State.drew_pairs (n : Nat) : (s.drew n).pairs = s.pairs := rfl
@[simp] theorem State.drew_grantPtr (n : Nat) : (s.drew n).grantPtr = s.grantPtr := rfl
@[simp] theorem State.drew_acceptPtr (n : Nat) : (s.drew n).acceptPtr = s.acceptPtr := rfl
@[simp] theorem State.drew_round (n : Nat) : (s.drew n).round = s.round := rfl
@[simp] theorem State.drew_poolUsed (n : Nat) : (s.drew n).poolUsed = s.poolUsed := rfl
@[simp] theorem State.drew_sharedLow (n : Nat) : (s.drew n).sharedLow = s.sharedLow := rfl
@[simp] theorem State.drew_laneLow (n : Nat) : (s.drew n).laneLow = s.laneLow := rfl
@[simp] theorem State.drew_eths (n : Nat) : (s.drew n).eths = s.eths := rfl
@[simp] theorem State.drew_rxQueues (n : Nat) : (s.drew n).rxQueues = s.rxQueues := rfl
@[simp] theorem State.drew_steerHeld (n : Nat) : (s.drew n).steerHeld = s.steerHeld := rfl
@[simp] theorem State.drew_cbs (n : Nat) : (s.drew n).cbs = s.cbs := rfl
@[simp] theorem State.drew_defaultClass (n : Nat) : (s.drew n).defaultClass = s.defaultClass := rfl
@[simp] theorem State.drew_pnWarned (n : Nat) : (s.drew n).pnWarned = s.pnWarned := rfl
@[simp] theorem State.drew_pnSpent (n : Nat) : (s.drew n).pnSpent = s.pnSpent := rfl
@[simp] theorem State.drew_keySlots (n : Nat) : (s.drew n).keySlots = s.keySlots := rfl
@[simp] theorem State.drew_teams (n : Nat) : (s.drew n).teams = s.teams := rfl
@[simp] theorem State.drew_sig (n : Nat) : (s.drew n).sig = s.sig := rfl
@[simp] theorem State.drew_gw (n : Nat) : (s.drew n).gw = s.gw := rfl
@[simp] theorem State.drew_cip (n : Nat) : (s.drew n).cip = s.cip := rfl
@[simp] theorem State.drew_tack (n : Nat) : (s.drew n).tack = s.tack := rfl
@[simp] theorem State.drew_sclRun (n : Nat) : (s.drew n).sclRun = s.sclRun := rfl
@[simp] theorem State.drew_host (n : Nat) : (s.drew n).host = s.host := rfl
@[simp] theorem State.drew_super (n : Nat) : (s.drew n).super = s.super := rfl
@[simp] theorem State.drew_credit (n : Nat) : (s.drew n).credit = s.credit := rfl

/-! ### setOwner -/

@[simp] theorem State.setOwner_pending (o : Nat) (r : Owner) : (s.setOwner o r).pending = s.pending := rfl
@[simp] theorem State.setOwner_out (o : Nat) (r : Owner) : (s.setOwner o r).out = s.out := rfl
@[simp] theorem State.setOwner_freeNext (o : Nat) (r : Owner) : (s.setOwner o r).freeNext = s.freeNext := rfl
@[simp] theorem State.setOwner_variant (o : Nat) (r : Owner) : (s.setOwner o r).variant = s.variant := rfl
@[simp] theorem State.setOwner_regs (o : Nat) (r : Owner) : (s.setOwner o r).regs = s.regs := rfl
@[simp] theorem State.setOwner_aper (o : Nat) (r : Owner) : (s.setOwner o r).aper = s.aper := rfl
@[simp] theorem State.setOwner_mram (o : Nat) (r : Owner) : (s.setOwner o r).mram = s.mram := rfl
@[simp] theorem State.setOwner_rowProgrammed (o : Nat) (r : Owner) : (s.setOwner o r).rowProgrammed = s.rowProgrammed := rfl
@[simp] theorem State.setOwner_slotA (o : Nat) (r : Owner) : (s.setOwner o r).slotA = s.slotA := rfl
@[simp] theorem State.setOwner_slotB (o : Nat) (r : Owner) : (s.setOwner o r).slotB = s.slotB := rfl
@[simp] theorem State.setOwner_genLast (o : Nat) (r : Owner) : (s.setOwner o r).genLast = s.genLast := rfl
@[simp] theorem State.setOwner_nvmRun (o : Nat) (r : Owner) : (s.setOwner o r).nvmRun = s.nvmRun := rfl
@[simp] theorem State.setOwner_nvmBuf (o : Nat) (r : Owner) : (s.setOwner o r).nvmBuf = s.nvmBuf := rfl
@[simp] theorem State.setOwner_farRun (o : Nat) (r : Owner) : (s.setOwner o r).farRun = s.farRun := rfl
@[simp] theorem State.setOwner_boot (o : Nat) (r : Owner) : (s.setOwner o r).boot = s.boot := rfl
@[simp] theorem State.setOwner_coldStart (o : Nat) (r : Owner) : (s.setOwner o r).coldStart = s.coldStart := rfl
@[simp] theorem State.setOwner_coreOn (o : Nat) (r : Owner) : (s.setOwner o r).coreOn = s.coreOn := rfl
@[simp] theorem State.setOwner_lineOn (o : Nat) (r : Owner) : (s.setOwner o r).lineOn = s.lineOn := rfl
@[simp] theorem State.setOwner_pdieOn (o : Nat) (r : Owner) : (s.setOwner o r).pdieOn = s.pdieOn := rfl
@[simp] theorem State.setOwner_cinched (o : Nat) (r : Owner) : (s.setOwner o r).cinched = s.cinched := rfl
@[simp] theorem State.setOwner_lanesOff (o : Nat) (r : Owner) : (s.setOwner o r).lanesOff = s.lanesOff := rfl
@[simp] theorem State.setOwner_portsOff (o : Nat) (r : Owner) : (s.setOwner o r).portsOff = s.portsOff := rfl
@[simp] theorem State.setOwner_teamsOff (o : Nat) (r : Owner) : (s.setOwner o r).teamsOff = s.teamsOff := rfl
@[simp] theorem State.setOwner_links (o : Nat) (r : Owner) : (s.setOwner o r).links = s.links := rfl
@[simp] theorem State.setOwner_aclkCalibrated (o : Nat) (r : Owner) : (s.setOwner o r).aclkCalibrated = s.aclkCalibrated := rfl
@[simp] theorem State.setOwner_uptime (o : Nat) (r : Owner) : (s.setOwner o r).uptime = s.uptime := rfl
@[simp] theorem State.setOwner_tmbCount (o : Nat) (r : Owner) : (s.setOwner o r).tmbCount = s.tmbCount := rfl
@[simp] theorem State.setOwner_tmbOffset (o : Nat) (r : Owner) : (s.setOwner o r).tmbOffset = s.tmbOffset := rfl
@[simp] theorem State.setOwner_perstLow (o : Nat) (r : Owner) : (s.setOwner o r).perstLow = s.perstLow := rfl
@[simp] theorem State.setOwner_msix (o : Nat) (r : Owner) : (s.setOwner o r).msix = s.msix := rfl
@[simp] theorem State.setOwner_msixPending (o : Nat) (r : Owner) : (s.setOwner o r).msixPending = s.msixPending := rfl
@[simp] theorem State.setOwner_windows (o : Nat) (r : Owner) : (s.setOwner o r).windows = s.windows := rfl
@[simp] theorem State.setOwner_journal (o : Nat) (r : Owner) : (s.setOwner o r).journal = s.journal := rfl
@[simp] theorem State.setOwner_journalHeld (o : Nat) (r : Owner) : (s.setOwner o r).journalHeld = s.journalHeld := rfl
@[simp] theorem State.setOwner_journalSeq (o : Nat) (r : Owner) : (s.setOwner o r).journalSeq = s.journalSeq := rfl
@[simp] theorem State.setOwner_class0Coalescing (o : Nat) (r : Owner) : (s.setOwner o r).class0Coalescing = s.class0Coalescing := rfl
@[simp] theorem State.setOwner_bbStaged (o : Nat) (r : Owner) : (s.setOwner o r).bbStaged = s.bbStaged := rfl
@[simp] theorem State.setOwner_bbSeq (o : Nat) (r : Owner) : (s.setOwner o r).bbSeq = s.bbSeq := rfl
@[simp] theorem State.setOwner_blackBox (o : Nat) (r : Owner) : (s.setOwner o r).blackBox = s.blackBox := rfl
@[simp] theorem State.setOwner_lanes (o : Nat) (r : Owner) : (s.setOwner o r).lanes = s.lanes := rfl
@[simp] theorem State.setOwner_txBufs (o : Nat) (r : Owner) : (s.setOwner o r).txBufs = s.txBufs := rfl
@[simp] theorem State.setOwner_orderNext (o : Nat) (r : Owner) : (s.setOwner o r).orderNext = s.orderNext := rfl
@[simp] theorem State.setOwner_egress (o : Nat) (r : Owner) : (s.setOwner o r).egress = s.egress := rfl
@[simp] theorem State.setOwner_portOwner (o : Nat) (r : Owner) : (s.setOwner o r).portOwner = s.portOwner := rfl
@[simp] theorem State.setOwner_hobA (o : Nat) (r : Owner) : (s.setOwner o r).hobA = s.hobA := rfl
@[simp] theorem State.setOwner_hobB (o : Nat) (r : Owner) : (s.setOwner o r).hobB = s.hobB := rfl
@[simp] theorem State.setOwner_offered (o : Nat) (r : Owner) : (s.setOwner o r).offered = s.offered := rfl
@[simp] theorem State.setOwner_ticks (o : Nat) (r : Owner) : (s.setOwner o r).ticks = s.ticks := rfl
@[simp] theorem State.setOwner_wakePlan (o : Nat) (r : Owner) : (s.setOwner o r).wakePlan = s.wakePlan := rfl
@[simp] theorem State.setOwner_pwk (o : Nat) (r : Owner) : (s.setOwner o r).pwk = s.pwk := rfl
@[simp] theorem State.setOwner_aonWakeLimit (o : Nat) (r : Owner) : (s.setOwner o r).aonWakeLimit = s.aonWakeLimit := rfl
@[simp] theorem State.setOwner_aonTamper (o : Nat) (r : Owner) : (s.setOwner o r).aonTamper = s.aonTamper := rfl
@[simp] theorem State.setOwner_outs (o : Nat) (r : Owner) : (s.setOwner o r).outs = s.outs := rfl
@[simp] theorem State.setOwner_conv (o : Nat) (r : Owner) : (s.setOwner o r).conv = s.conv := rfl
@[simp] theorem State.setOwner_groupEnergy (o : Nat) (r : Owner) : (s.setOwner o r).groupEnergy = s.groupEnergy := rfl
@[simp] theorem State.setOwner_planThresh (o : Nat) (r : Owner) : (s.setOwner o r).planThresh = s.planThresh := rfl
@[simp] theorem State.setOwner_timeCapture (o : Nat) (r : Owner) : (s.setOwner o r).timeCapture = s.timeCapture := rfl
@[simp] theorem State.setOwner_tmbInc (o : Nat) (r : Owner) : (s.setOwner o r).tmbInc = s.tmbInc := rfl
@[simp] theorem State.setOwner_lastReport (o : Nat) (r : Owner) : (s.setOwner o r).lastReport = s.lastReport := rfl
@[simp] theorem State.setOwner_trigTarget (o : Nat) (r : Owner) : (s.setOwner o r).trigTarget = s.trigTarget := rfl
@[simp] theorem State.setOwner_trigLate (o : Nat) (r : Owner) : (s.setOwner o r).trigLate = s.trigLate := rfl
@[simp] theorem State.setOwner_pulses (o : Nat) (r : Owner) : (s.setOwner o r).pulses = s.pulses := rfl
@[simp] theorem State.setOwner_captures (o : Nat) (r : Owner) : (s.setOwner o r).captures = s.captures := rfl
@[simp] theorem State.setOwner_ptpRx (o : Nat) (r : Owner) : (s.setOwner o r).ptpRx = s.ptpRx := rfl
@[simp] theorem State.setOwner_ptpTx (o : Nat) (r : Owner) : (s.setOwner o r).ptpTx = s.ptpTx := rfl
@[simp] theorem State.setOwner_portGates (o : Nat) (r : Owner) : (s.setOwner o r).portGates = s.portGates := rfl
@[simp] theorem State.setOwner_badEntries (o : Nat) (r : Owner) : (s.setOwner o r).badEntries = s.badEntries := rfl
@[simp] theorem State.setOwner_tags (o : Nat) (r : Owner) : (s.setOwner o r).tags = s.tags := rfl
@[simp] theorem State.setOwner_sealedAt (o : Nat) (r : Owner) : (s.setOwner o r).sealedAt = s.sealedAt := rfl
@[simp] theorem State.setOwner_aperImage (o : Nat) (r : Owner) : (s.setOwner o r).aperImage = s.aperImage := rfl
@[simp] theorem State.setOwner_repairs (o : Nat) (r : Owner) : (s.setOwner o r).repairs = s.repairs := rfl
@[simp] theorem State.setOwner_autoIds (o : Nat) (r : Owner) : (s.setOwner o r).autoIds = s.autoIds := rfl
@[simp] theorem State.setOwner_ovfRaised (o : Nat) (r : Owner) : (s.setOwner o r).ovfRaised = s.ovfRaised := rfl
@[simp] theorem State.setOwner_fdbEvict (o : Nat) (r : Owner) : (s.setOwner o r).fdbEvict = s.fdbEvict := rfl
@[simp] theorem State.setOwner_pipes (o : Nat) (r : Owner) : (s.setOwner o r).pipes = s.pipes := rfl
@[simp] theorem State.setOwner_mirrorSink (o : Nat) (r : Owner) : (s.setOwner o r).mirrorSink = s.mirrorSink := rfl
@[simp] theorem State.setOwner_buckets (o : Nat) (r : Owner) : (s.setOwner o r).buckets = s.buckets := rfl
@[simp] theorem State.setOwner_schools (o : Nat) (r : Owner) : (s.setOwner o r).schools = s.schools := rfl
@[simp] theorem State.setOwner_schoolWindows (o : Nat) (r : Owner) : (s.setOwner o r).schoolWindows = s.schoolWindows := rfl
@[simp] theorem State.setOwner_unknownRaised (o : Nat) (r : Owner) : (s.setOwner o r).unknownRaised = s.unknownRaised := rfl
@[simp] theorem State.setOwner_sgateEntry (o : Nat) (r : Owner) : (s.setOwner o r).sgateEntry = s.sgateEntry := rfl
@[simp] theorem State.setOwner_sgateStart (o : Nat) (r : Owner) : (s.setOwner o r).sgateStart = s.sgateStart := rfl
@[simp] theorem State.setOwner_stmScrub (o : Nat) (r : Owner) : (s.setOwner o r).stmScrub = s.stmScrub := rfl
@[simp] theorem State.setOwner_stored (o : Nat) (r : Owner) : (s.setOwner o r).stored = s.stored := rfl
@[simp] theorem State.setOwner_storedNext (o : Nat) (r : Owner) : (s.setOwner o r).storedNext = s.storedNext := rfl
@[simp] theorem State.setOwner_voqs (o : Nat) (r : Owner) : (s.setOwner o r).voqs = s.voqs := rfl
@[simp] theorem State.setOwner_voqShared (o : Nat) (r : Owner) : (s.setOwner o r).voqShared = s.voqShared := rfl
@[simp] theorem State.setOwner_pairs (o : Nat) (r : Owner) : (s.setOwner o r).pairs = s.pairs := rfl
@[simp] theorem State.setOwner_grantPtr (o : Nat) (r : Owner) : (s.setOwner o r).grantPtr = s.grantPtr := rfl
@[simp] theorem State.setOwner_acceptPtr (o : Nat) (r : Owner) : (s.setOwner o r).acceptPtr = s.acceptPtr := rfl
@[simp] theorem State.setOwner_round (o : Nat) (r : Owner) : (s.setOwner o r).round = s.round := rfl
@[simp] theorem State.setOwner_poolUsed (o : Nat) (r : Owner) : (s.setOwner o r).poolUsed = s.poolUsed := rfl
@[simp] theorem State.setOwner_sharedLow (o : Nat) (r : Owner) : (s.setOwner o r).sharedLow = s.sharedLow := rfl
@[simp] theorem State.setOwner_laneLow (o : Nat) (r : Owner) : (s.setOwner o r).laneLow = s.laneLow := rfl
@[simp] theorem State.setOwner_eths (o : Nat) (r : Owner) : (s.setOwner o r).eths = s.eths := rfl
@[simp] theorem State.setOwner_rxQueues (o : Nat) (r : Owner) : (s.setOwner o r).rxQueues = s.rxQueues := rfl
@[simp] theorem State.setOwner_steerHeld (o : Nat) (r : Owner) : (s.setOwner o r).steerHeld = s.steerHeld := rfl
@[simp] theorem State.setOwner_cbs (o : Nat) (r : Owner) : (s.setOwner o r).cbs = s.cbs := rfl
@[simp] theorem State.setOwner_defaultClass (o : Nat) (r : Owner) : (s.setOwner o r).defaultClass = s.defaultClass := rfl
@[simp] theorem State.setOwner_pnWarned (o : Nat) (r : Owner) : (s.setOwner o r).pnWarned = s.pnWarned := rfl
@[simp] theorem State.setOwner_pnSpent (o : Nat) (r : Owner) : (s.setOwner o r).pnSpent = s.pnSpent := rfl
@[simp] theorem State.setOwner_keySlots (o : Nat) (r : Owner) : (s.setOwner o r).keySlots = s.keySlots := rfl
@[simp] theorem State.setOwner_teams (o : Nat) (r : Owner) : (s.setOwner o r).teams = s.teams := rfl
@[simp] theorem State.setOwner_sig (o : Nat) (r : Owner) : (s.setOwner o r).sig = s.sig := rfl
@[simp] theorem State.setOwner_gw (o : Nat) (r : Owner) : (s.setOwner o r).gw = s.gw := rfl
@[simp] theorem State.setOwner_cip (o : Nat) (r : Owner) : (s.setOwner o r).cip = s.cip := rfl
@[simp] theorem State.setOwner_tack (o : Nat) (r : Owner) : (s.setOwner o r).tack = s.tack := rfl
@[simp] theorem State.setOwner_sclRun (o : Nat) (r : Owner) : (s.setOwner o r).sclRun = s.sclRun := rfl
@[simp] theorem State.setOwner_host (o : Nat) (r : Owner) : (s.setOwner o r).host = s.host := rfl
@[simp] theorem State.setOwner_super (o : Nat) (r : Owner) : (s.setOwner o r).super = s.super := rfl
@[simp] theorem State.setOwner_credit (o : Nat) (r : Owner) : (s.setOwner o r).credit = s.credit := rfl

/-! ### setLane -/

@[simp] theorem State.setLane_pending (n : Nat) (l : Lane) : (s.setLane n l).pending = s.pending := rfl
@[simp] theorem State.setLane_out (n : Nat) (l : Lane) : (s.setLane n l).out = s.out := rfl
@[simp] theorem State.setLane_freeNext (n : Nat) (l : Lane) : (s.setLane n l).freeNext = s.freeNext := rfl
@[simp] theorem State.setLane_variant (n : Nat) (l : Lane) : (s.setLane n l).variant = s.variant := rfl
@[simp] theorem State.setLane_regs (n : Nat) (l : Lane) : (s.setLane n l).regs = s.regs := rfl
@[simp] theorem State.setLane_aper (n : Nat) (l : Lane) : (s.setLane n l).aper = s.aper := rfl
@[simp] theorem State.setLane_mram (n : Nat) (l : Lane) : (s.setLane n l).mram = s.mram := rfl
@[simp] theorem State.setLane_rowProgrammed (n : Nat) (l : Lane) : (s.setLane n l).rowProgrammed = s.rowProgrammed := rfl
@[simp] theorem State.setLane_slotA (n : Nat) (l : Lane) : (s.setLane n l).slotA = s.slotA := rfl
@[simp] theorem State.setLane_slotB (n : Nat) (l : Lane) : (s.setLane n l).slotB = s.slotB := rfl
@[simp] theorem State.setLane_genLast (n : Nat) (l : Lane) : (s.setLane n l).genLast = s.genLast := rfl
@[simp] theorem State.setLane_nvmRun (n : Nat) (l : Lane) : (s.setLane n l).nvmRun = s.nvmRun := rfl
@[simp] theorem State.setLane_nvmBuf (n : Nat) (l : Lane) : (s.setLane n l).nvmBuf = s.nvmBuf := rfl
@[simp] theorem State.setLane_farRun (n : Nat) (l : Lane) : (s.setLane n l).farRun = s.farRun := rfl
@[simp] theorem State.setLane_boot (n : Nat) (l : Lane) : (s.setLane n l).boot = s.boot := rfl
@[simp] theorem State.setLane_coldStart (n : Nat) (l : Lane) : (s.setLane n l).coldStart = s.coldStart := rfl
@[simp] theorem State.setLane_coreOn (n : Nat) (l : Lane) : (s.setLane n l).coreOn = s.coreOn := rfl
@[simp] theorem State.setLane_lineOn (n : Nat) (l : Lane) : (s.setLane n l).lineOn = s.lineOn := rfl
@[simp] theorem State.setLane_pdieOn (n : Nat) (l : Lane) : (s.setLane n l).pdieOn = s.pdieOn := rfl
@[simp] theorem State.setLane_cinched (n : Nat) (l : Lane) : (s.setLane n l).cinched = s.cinched := rfl
@[simp] theorem State.setLane_lanesOff (n : Nat) (l : Lane) : (s.setLane n l).lanesOff = s.lanesOff := rfl
@[simp] theorem State.setLane_portsOff (n : Nat) (l : Lane) : (s.setLane n l).portsOff = s.portsOff := rfl
@[simp] theorem State.setLane_teamsOff (n : Nat) (l : Lane) : (s.setLane n l).teamsOff = s.teamsOff := rfl
@[simp] theorem State.setLane_links (n : Nat) (l : Lane) : (s.setLane n l).links = s.links := rfl
@[simp] theorem State.setLane_aclkCalibrated (n : Nat) (l : Lane) : (s.setLane n l).aclkCalibrated = s.aclkCalibrated := rfl
@[simp] theorem State.setLane_owners (n : Nat) (l : Lane) : (s.setLane n l).owners = s.owners := rfl
@[simp] theorem State.setLane_uptime (n : Nat) (l : Lane) : (s.setLane n l).uptime = s.uptime := rfl
@[simp] theorem State.setLane_tmbCount (n : Nat) (l : Lane) : (s.setLane n l).tmbCount = s.tmbCount := rfl
@[simp] theorem State.setLane_tmbOffset (n : Nat) (l : Lane) : (s.setLane n l).tmbOffset = s.tmbOffset := rfl
@[simp] theorem State.setLane_perstLow (n : Nat) (l : Lane) : (s.setLane n l).perstLow = s.perstLow := rfl
@[simp] theorem State.setLane_msix (n : Nat) (l : Lane) : (s.setLane n l).msix = s.msix := rfl
@[simp] theorem State.setLane_msixPending (n : Nat) (l : Lane) : (s.setLane n l).msixPending = s.msixPending := rfl
@[simp] theorem State.setLane_windows (n : Nat) (l : Lane) : (s.setLane n l).windows = s.windows := rfl
@[simp] theorem State.setLane_journal (n : Nat) (l : Lane) : (s.setLane n l).journal = s.journal := rfl
@[simp] theorem State.setLane_journalHeld (n : Nat) (l : Lane) : (s.setLane n l).journalHeld = s.journalHeld := rfl
@[simp] theorem State.setLane_journalSeq (n : Nat) (l : Lane) : (s.setLane n l).journalSeq = s.journalSeq := rfl
@[simp] theorem State.setLane_class0Coalescing (n : Nat) (l : Lane) : (s.setLane n l).class0Coalescing = s.class0Coalescing := rfl
@[simp] theorem State.setLane_bbStaged (n : Nat) (l : Lane) : (s.setLane n l).bbStaged = s.bbStaged := rfl
@[simp] theorem State.setLane_bbSeq (n : Nat) (l : Lane) : (s.setLane n l).bbSeq = s.bbSeq := rfl
@[simp] theorem State.setLane_blackBox (n : Nat) (l : Lane) : (s.setLane n l).blackBox = s.blackBox := rfl
@[simp] theorem State.setLane_txBufs (n : Nat) (l : Lane) : (s.setLane n l).txBufs = s.txBufs := rfl
@[simp] theorem State.setLane_orderNext (n : Nat) (l : Lane) : (s.setLane n l).orderNext = s.orderNext := rfl
@[simp] theorem State.setLane_egress (n : Nat) (l : Lane) : (s.setLane n l).egress = s.egress := rfl
@[simp] theorem State.setLane_portOwner (n : Nat) (l : Lane) : (s.setLane n l).portOwner = s.portOwner := rfl
@[simp] theorem State.setLane_hobA (n : Nat) (l : Lane) : (s.setLane n l).hobA = s.hobA := rfl
@[simp] theorem State.setLane_hobB (n : Nat) (l : Lane) : (s.setLane n l).hobB = s.hobB := rfl
@[simp] theorem State.setLane_offered (n : Nat) (l : Lane) : (s.setLane n l).offered = s.offered := rfl
@[simp] theorem State.setLane_ticks (n : Nat) (l : Lane) : (s.setLane n l).ticks = s.ticks := rfl
@[simp] theorem State.setLane_wakePlan (n : Nat) (l : Lane) : (s.setLane n l).wakePlan = s.wakePlan := rfl
@[simp] theorem State.setLane_pwk (n : Nat) (l : Lane) : (s.setLane n l).pwk = s.pwk := rfl
@[simp] theorem State.setLane_aonWakeLimit (n : Nat) (l : Lane) : (s.setLane n l).aonWakeLimit = s.aonWakeLimit := rfl
@[simp] theorem State.setLane_aonTamper (n : Nat) (l : Lane) : (s.setLane n l).aonTamper = s.aonTamper := rfl
@[simp] theorem State.setLane_outs (n : Nat) (l : Lane) : (s.setLane n l).outs = s.outs := rfl
@[simp] theorem State.setLane_conv (n : Nat) (l : Lane) : (s.setLane n l).conv = s.conv := rfl
@[simp] theorem State.setLane_groupEnergy (n : Nat) (l : Lane) : (s.setLane n l).groupEnergy = s.groupEnergy := rfl
@[simp] theorem State.setLane_planThresh (n : Nat) (l : Lane) : (s.setLane n l).planThresh = s.planThresh := rfl
@[simp] theorem State.setLane_timeCapture (n : Nat) (l : Lane) : (s.setLane n l).timeCapture = s.timeCapture := rfl
@[simp] theorem State.setLane_tmbInc (n : Nat) (l : Lane) : (s.setLane n l).tmbInc = s.tmbInc := rfl
@[simp] theorem State.setLane_lastReport (n : Nat) (l : Lane) : (s.setLane n l).lastReport = s.lastReport := rfl
@[simp] theorem State.setLane_trigTarget (n : Nat) (l : Lane) : (s.setLane n l).trigTarget = s.trigTarget := rfl
@[simp] theorem State.setLane_trigLate (n : Nat) (l : Lane) : (s.setLane n l).trigLate = s.trigLate := rfl
@[simp] theorem State.setLane_pulses (n : Nat) (l : Lane) : (s.setLane n l).pulses = s.pulses := rfl
@[simp] theorem State.setLane_captures (n : Nat) (l : Lane) : (s.setLane n l).captures = s.captures := rfl
@[simp] theorem State.setLane_ptpRx (n : Nat) (l : Lane) : (s.setLane n l).ptpRx = s.ptpRx := rfl
@[simp] theorem State.setLane_ptpTx (n : Nat) (l : Lane) : (s.setLane n l).ptpTx = s.ptpTx := rfl
@[simp] theorem State.setLane_portGates (n : Nat) (l : Lane) : (s.setLane n l).portGates = s.portGates := rfl
@[simp] theorem State.setLane_badEntries (n : Nat) (l : Lane) : (s.setLane n l).badEntries = s.badEntries := rfl
@[simp] theorem State.setLane_tags (n : Nat) (l : Lane) : (s.setLane n l).tags = s.tags := rfl
@[simp] theorem State.setLane_sealedAt (n : Nat) (l : Lane) : (s.setLane n l).sealedAt = s.sealedAt := rfl
@[simp] theorem State.setLane_aperImage (n : Nat) (l : Lane) : (s.setLane n l).aperImage = s.aperImage := rfl
@[simp] theorem State.setLane_repairs (n : Nat) (l : Lane) : (s.setLane n l).repairs = s.repairs := rfl
@[simp] theorem State.setLane_autoIds (n : Nat) (l : Lane) : (s.setLane n l).autoIds = s.autoIds := rfl
@[simp] theorem State.setLane_ovfRaised (n : Nat) (l : Lane) : (s.setLane n l).ovfRaised = s.ovfRaised := rfl
@[simp] theorem State.setLane_fdbEvict (n : Nat) (l : Lane) : (s.setLane n l).fdbEvict = s.fdbEvict := rfl
@[simp] theorem State.setLane_pipes (n : Nat) (l : Lane) : (s.setLane n l).pipes = s.pipes := rfl
@[simp] theorem State.setLane_mirrorSink (n : Nat) (l : Lane) : (s.setLane n l).mirrorSink = s.mirrorSink := rfl
@[simp] theorem State.setLane_buckets (n : Nat) (l : Lane) : (s.setLane n l).buckets = s.buckets := rfl
@[simp] theorem State.setLane_schools (n : Nat) (l : Lane) : (s.setLane n l).schools = s.schools := rfl
@[simp] theorem State.setLane_schoolWindows (n : Nat) (l : Lane) : (s.setLane n l).schoolWindows = s.schoolWindows := rfl
@[simp] theorem State.setLane_unknownRaised (n : Nat) (l : Lane) : (s.setLane n l).unknownRaised = s.unknownRaised := rfl
@[simp] theorem State.setLane_sgateEntry (n : Nat) (l : Lane) : (s.setLane n l).sgateEntry = s.sgateEntry := rfl
@[simp] theorem State.setLane_sgateStart (n : Nat) (l : Lane) : (s.setLane n l).sgateStart = s.sgateStart := rfl
@[simp] theorem State.setLane_stmScrub (n : Nat) (l : Lane) : (s.setLane n l).stmScrub = s.stmScrub := rfl
@[simp] theorem State.setLane_stored (n : Nat) (l : Lane) : (s.setLane n l).stored = s.stored := rfl
@[simp] theorem State.setLane_storedNext (n : Nat) (l : Lane) : (s.setLane n l).storedNext = s.storedNext := rfl
@[simp] theorem State.setLane_voqs (n : Nat) (l : Lane) : (s.setLane n l).voqs = s.voqs := rfl
@[simp] theorem State.setLane_voqShared (n : Nat) (l : Lane) : (s.setLane n l).voqShared = s.voqShared := rfl
@[simp] theorem State.setLane_pairs (n : Nat) (l : Lane) : (s.setLane n l).pairs = s.pairs := rfl
@[simp] theorem State.setLane_grantPtr (n : Nat) (l : Lane) : (s.setLane n l).grantPtr = s.grantPtr := rfl
@[simp] theorem State.setLane_acceptPtr (n : Nat) (l : Lane) : (s.setLane n l).acceptPtr = s.acceptPtr := rfl
@[simp] theorem State.setLane_round (n : Nat) (l : Lane) : (s.setLane n l).round = s.round := rfl
@[simp] theorem State.setLane_poolUsed (n : Nat) (l : Lane) : (s.setLane n l).poolUsed = s.poolUsed := rfl
@[simp] theorem State.setLane_sharedLow (n : Nat) (l : Lane) : (s.setLane n l).sharedLow = s.sharedLow := rfl
@[simp] theorem State.setLane_laneLow (n : Nat) (l : Lane) : (s.setLane n l).laneLow = s.laneLow := rfl
@[simp] theorem State.setLane_eths (n : Nat) (l : Lane) : (s.setLane n l).eths = s.eths := rfl
@[simp] theorem State.setLane_rxQueues (n : Nat) (l : Lane) : (s.setLane n l).rxQueues = s.rxQueues := rfl
@[simp] theorem State.setLane_steerHeld (n : Nat) (l : Lane) : (s.setLane n l).steerHeld = s.steerHeld := rfl
@[simp] theorem State.setLane_cbs (n : Nat) (l : Lane) : (s.setLane n l).cbs = s.cbs := rfl
@[simp] theorem State.setLane_defaultClass (n : Nat) (l : Lane) : (s.setLane n l).defaultClass = s.defaultClass := rfl
@[simp] theorem State.setLane_pnWarned (n : Nat) (l : Lane) : (s.setLane n l).pnWarned = s.pnWarned := rfl
@[simp] theorem State.setLane_pnSpent (n : Nat) (l : Lane) : (s.setLane n l).pnSpent = s.pnSpent := rfl
@[simp] theorem State.setLane_keySlots (n : Nat) (l : Lane) : (s.setLane n l).keySlots = s.keySlots := rfl
@[simp] theorem State.setLane_teams (n : Nat) (l : Lane) : (s.setLane n l).teams = s.teams := rfl
@[simp] theorem State.setLane_sig (n : Nat) (l : Lane) : (s.setLane n l).sig = s.sig := rfl
@[simp] theorem State.setLane_gw (n : Nat) (l : Lane) : (s.setLane n l).gw = s.gw := rfl
@[simp] theorem State.setLane_cip (n : Nat) (l : Lane) : (s.setLane n l).cip = s.cip := rfl
@[simp] theorem State.setLane_tack (n : Nat) (l : Lane) : (s.setLane n l).tack = s.tack := rfl
@[simp] theorem State.setLane_sclRun (n : Nat) (l : Lane) : (s.setLane n l).sclRun = s.sclRun := rfl
@[simp] theorem State.setLane_host (n : Nat) (l : Lane) : (s.setLane n l).host = s.host := rfl
@[simp] theorem State.setLane_super (n : Nat) (l : Lane) : (s.setLane n l).super = s.super := rfl
@[simp] theorem State.setLane_credit (n : Nat) (l : Lane) : (s.setLane n l).credit = s.credit := rfl

/-! ### setTx -/

@[simp] theorem State.setTx_pending (n k : Nat) (b : TxBuf) : (s.setTx n k b).pending = s.pending := rfl
@[simp] theorem State.setTx_out (n k : Nat) (b : TxBuf) : (s.setTx n k b).out = s.out := rfl
@[simp] theorem State.setTx_freeNext (n k : Nat) (b : TxBuf) : (s.setTx n k b).freeNext = s.freeNext := rfl
@[simp] theorem State.setTx_variant (n k : Nat) (b : TxBuf) : (s.setTx n k b).variant = s.variant := rfl
@[simp] theorem State.setTx_regs (n k : Nat) (b : TxBuf) : (s.setTx n k b).regs = s.regs := rfl
@[simp] theorem State.setTx_aper (n k : Nat) (b : TxBuf) : (s.setTx n k b).aper = s.aper := rfl
@[simp] theorem State.setTx_mram (n k : Nat) (b : TxBuf) : (s.setTx n k b).mram = s.mram := rfl
@[simp] theorem State.setTx_rowProgrammed (n k : Nat) (b : TxBuf) : (s.setTx n k b).rowProgrammed = s.rowProgrammed := rfl
@[simp] theorem State.setTx_slotA (n k : Nat) (b : TxBuf) : (s.setTx n k b).slotA = s.slotA := rfl
@[simp] theorem State.setTx_slotB (n k : Nat) (b : TxBuf) : (s.setTx n k b).slotB = s.slotB := rfl
@[simp] theorem State.setTx_genLast (n k : Nat) (b : TxBuf) : (s.setTx n k b).genLast = s.genLast := rfl
@[simp] theorem State.setTx_nvmRun (n k : Nat) (b : TxBuf) : (s.setTx n k b).nvmRun = s.nvmRun := rfl
@[simp] theorem State.setTx_nvmBuf (n k : Nat) (b : TxBuf) : (s.setTx n k b).nvmBuf = s.nvmBuf := rfl
@[simp] theorem State.setTx_farRun (n k : Nat) (b : TxBuf) : (s.setTx n k b).farRun = s.farRun := rfl
@[simp] theorem State.setTx_boot (n k : Nat) (b : TxBuf) : (s.setTx n k b).boot = s.boot := rfl
@[simp] theorem State.setTx_coldStart (n k : Nat) (b : TxBuf) : (s.setTx n k b).coldStart = s.coldStart := rfl
@[simp] theorem State.setTx_coreOn (n k : Nat) (b : TxBuf) : (s.setTx n k b).coreOn = s.coreOn := rfl
@[simp] theorem State.setTx_lineOn (n k : Nat) (b : TxBuf) : (s.setTx n k b).lineOn = s.lineOn := rfl
@[simp] theorem State.setTx_pdieOn (n k : Nat) (b : TxBuf) : (s.setTx n k b).pdieOn = s.pdieOn := rfl
@[simp] theorem State.setTx_cinched (n k : Nat) (b : TxBuf) : (s.setTx n k b).cinched = s.cinched := rfl
@[simp] theorem State.setTx_lanesOff (n k : Nat) (b : TxBuf) : (s.setTx n k b).lanesOff = s.lanesOff := rfl
@[simp] theorem State.setTx_portsOff (n k : Nat) (b : TxBuf) : (s.setTx n k b).portsOff = s.portsOff := rfl
@[simp] theorem State.setTx_teamsOff (n k : Nat) (b : TxBuf) : (s.setTx n k b).teamsOff = s.teamsOff := rfl
@[simp] theorem State.setTx_links (n k : Nat) (b : TxBuf) : (s.setTx n k b).links = s.links := rfl
@[simp] theorem State.setTx_aclkCalibrated (n k : Nat) (b : TxBuf) : (s.setTx n k b).aclkCalibrated = s.aclkCalibrated := rfl
@[simp] theorem State.setTx_owners (n k : Nat) (b : TxBuf) : (s.setTx n k b).owners = s.owners := rfl
@[simp] theorem State.setTx_uptime (n k : Nat) (b : TxBuf) : (s.setTx n k b).uptime = s.uptime := rfl
@[simp] theorem State.setTx_tmbCount (n k : Nat) (b : TxBuf) : (s.setTx n k b).tmbCount = s.tmbCount := rfl
@[simp] theorem State.setTx_tmbOffset (n k : Nat) (b : TxBuf) : (s.setTx n k b).tmbOffset = s.tmbOffset := rfl
@[simp] theorem State.setTx_perstLow (n k : Nat) (b : TxBuf) : (s.setTx n k b).perstLow = s.perstLow := rfl
@[simp] theorem State.setTx_msix (n k : Nat) (b : TxBuf) : (s.setTx n k b).msix = s.msix := rfl
@[simp] theorem State.setTx_msixPending (n k : Nat) (b : TxBuf) : (s.setTx n k b).msixPending = s.msixPending := rfl
@[simp] theorem State.setTx_windows (n k : Nat) (b : TxBuf) : (s.setTx n k b).windows = s.windows := rfl
@[simp] theorem State.setTx_journal (n k : Nat) (b : TxBuf) : (s.setTx n k b).journal = s.journal := rfl
@[simp] theorem State.setTx_journalHeld (n k : Nat) (b : TxBuf) : (s.setTx n k b).journalHeld = s.journalHeld := rfl
@[simp] theorem State.setTx_journalSeq (n k : Nat) (b : TxBuf) : (s.setTx n k b).journalSeq = s.journalSeq := rfl
@[simp] theorem State.setTx_class0Coalescing (n k : Nat) (b : TxBuf) : (s.setTx n k b).class0Coalescing = s.class0Coalescing := rfl
@[simp] theorem State.setTx_bbStaged (n k : Nat) (b : TxBuf) : (s.setTx n k b).bbStaged = s.bbStaged := rfl
@[simp] theorem State.setTx_bbSeq (n k : Nat) (b : TxBuf) : (s.setTx n k b).bbSeq = s.bbSeq := rfl
@[simp] theorem State.setTx_blackBox (n k : Nat) (b : TxBuf) : (s.setTx n k b).blackBox = s.blackBox := rfl
@[simp] theorem State.setTx_lanes (n k : Nat) (b : TxBuf) : (s.setTx n k b).lanes = s.lanes := rfl
@[simp] theorem State.setTx_orderNext (n k : Nat) (b : TxBuf) : (s.setTx n k b).orderNext = s.orderNext := rfl
@[simp] theorem State.setTx_egress (n k : Nat) (b : TxBuf) : (s.setTx n k b).egress = s.egress := rfl
@[simp] theorem State.setTx_portOwner (n k : Nat) (b : TxBuf) : (s.setTx n k b).portOwner = s.portOwner := rfl
@[simp] theorem State.setTx_hobA (n k : Nat) (b : TxBuf) : (s.setTx n k b).hobA = s.hobA := rfl
@[simp] theorem State.setTx_hobB (n k : Nat) (b : TxBuf) : (s.setTx n k b).hobB = s.hobB := rfl
@[simp] theorem State.setTx_offered (n k : Nat) (b : TxBuf) : (s.setTx n k b).offered = s.offered := rfl
@[simp] theorem State.setTx_ticks (n k : Nat) (b : TxBuf) : (s.setTx n k b).ticks = s.ticks := rfl
@[simp] theorem State.setTx_wakePlan (n k : Nat) (b : TxBuf) : (s.setTx n k b).wakePlan = s.wakePlan := rfl
@[simp] theorem State.setTx_pwk (n k : Nat) (b : TxBuf) : (s.setTx n k b).pwk = s.pwk := rfl
@[simp] theorem State.setTx_aonWakeLimit (n k : Nat) (b : TxBuf) : (s.setTx n k b).aonWakeLimit = s.aonWakeLimit := rfl
@[simp] theorem State.setTx_aonTamper (n k : Nat) (b : TxBuf) : (s.setTx n k b).aonTamper = s.aonTamper := rfl
@[simp] theorem State.setTx_outs (n k : Nat) (b : TxBuf) : (s.setTx n k b).outs = s.outs := rfl
@[simp] theorem State.setTx_conv (n k : Nat) (b : TxBuf) : (s.setTx n k b).conv = s.conv := rfl
@[simp] theorem State.setTx_groupEnergy (n k : Nat) (b : TxBuf) : (s.setTx n k b).groupEnergy = s.groupEnergy := rfl
@[simp] theorem State.setTx_planThresh (n k : Nat) (b : TxBuf) : (s.setTx n k b).planThresh = s.planThresh := rfl
@[simp] theorem State.setTx_timeCapture (n k : Nat) (b : TxBuf) : (s.setTx n k b).timeCapture = s.timeCapture := rfl
@[simp] theorem State.setTx_tmbInc (n k : Nat) (b : TxBuf) : (s.setTx n k b).tmbInc = s.tmbInc := rfl
@[simp] theorem State.setTx_lastReport (n k : Nat) (b : TxBuf) : (s.setTx n k b).lastReport = s.lastReport := rfl
@[simp] theorem State.setTx_trigTarget (n k : Nat) (b : TxBuf) : (s.setTx n k b).trigTarget = s.trigTarget := rfl
@[simp] theorem State.setTx_trigLate (n k : Nat) (b : TxBuf) : (s.setTx n k b).trigLate = s.trigLate := rfl
@[simp] theorem State.setTx_pulses (n k : Nat) (b : TxBuf) : (s.setTx n k b).pulses = s.pulses := rfl
@[simp] theorem State.setTx_captures (n k : Nat) (b : TxBuf) : (s.setTx n k b).captures = s.captures := rfl
@[simp] theorem State.setTx_ptpRx (n k : Nat) (b : TxBuf) : (s.setTx n k b).ptpRx = s.ptpRx := rfl
@[simp] theorem State.setTx_ptpTx (n k : Nat) (b : TxBuf) : (s.setTx n k b).ptpTx = s.ptpTx := rfl
@[simp] theorem State.setTx_portGates (n k : Nat) (b : TxBuf) : (s.setTx n k b).portGates = s.portGates := rfl
@[simp] theorem State.setTx_badEntries (n k : Nat) (b : TxBuf) : (s.setTx n k b).badEntries = s.badEntries := rfl
@[simp] theorem State.setTx_tags (n k : Nat) (b : TxBuf) : (s.setTx n k b).tags = s.tags := rfl
@[simp] theorem State.setTx_sealedAt (n k : Nat) (b : TxBuf) : (s.setTx n k b).sealedAt = s.sealedAt := rfl
@[simp] theorem State.setTx_aperImage (n k : Nat) (b : TxBuf) : (s.setTx n k b).aperImage = s.aperImage := rfl
@[simp] theorem State.setTx_repairs (n k : Nat) (b : TxBuf) : (s.setTx n k b).repairs = s.repairs := rfl
@[simp] theorem State.setTx_autoIds (n k : Nat) (b : TxBuf) : (s.setTx n k b).autoIds = s.autoIds := rfl
@[simp] theorem State.setTx_ovfRaised (n k : Nat) (b : TxBuf) : (s.setTx n k b).ovfRaised = s.ovfRaised := rfl
@[simp] theorem State.setTx_fdbEvict (n k : Nat) (b : TxBuf) : (s.setTx n k b).fdbEvict = s.fdbEvict := rfl
@[simp] theorem State.setTx_pipes (n k : Nat) (b : TxBuf) : (s.setTx n k b).pipes = s.pipes := rfl
@[simp] theorem State.setTx_mirrorSink (n k : Nat) (b : TxBuf) : (s.setTx n k b).mirrorSink = s.mirrorSink := rfl
@[simp] theorem State.setTx_buckets (n k : Nat) (b : TxBuf) : (s.setTx n k b).buckets = s.buckets := rfl
@[simp] theorem State.setTx_schools (n k : Nat) (b : TxBuf) : (s.setTx n k b).schools = s.schools := rfl
@[simp] theorem State.setTx_schoolWindows (n k : Nat) (b : TxBuf) : (s.setTx n k b).schoolWindows = s.schoolWindows := rfl
@[simp] theorem State.setTx_unknownRaised (n k : Nat) (b : TxBuf) : (s.setTx n k b).unknownRaised = s.unknownRaised := rfl
@[simp] theorem State.setTx_sgateEntry (n k : Nat) (b : TxBuf) : (s.setTx n k b).sgateEntry = s.sgateEntry := rfl
@[simp] theorem State.setTx_sgateStart (n k : Nat) (b : TxBuf) : (s.setTx n k b).sgateStart = s.sgateStart := rfl
@[simp] theorem State.setTx_stmScrub (n k : Nat) (b : TxBuf) : (s.setTx n k b).stmScrub = s.stmScrub := rfl
@[simp] theorem State.setTx_stored (n k : Nat) (b : TxBuf) : (s.setTx n k b).stored = s.stored := rfl
@[simp] theorem State.setTx_storedNext (n k : Nat) (b : TxBuf) : (s.setTx n k b).storedNext = s.storedNext := rfl
@[simp] theorem State.setTx_voqs (n k : Nat) (b : TxBuf) : (s.setTx n k b).voqs = s.voqs := rfl
@[simp] theorem State.setTx_voqShared (n k : Nat) (b : TxBuf) : (s.setTx n k b).voqShared = s.voqShared := rfl
@[simp] theorem State.setTx_pairs (n k : Nat) (b : TxBuf) : (s.setTx n k b).pairs = s.pairs := rfl
@[simp] theorem State.setTx_grantPtr (n k : Nat) (b : TxBuf) : (s.setTx n k b).grantPtr = s.grantPtr := rfl
@[simp] theorem State.setTx_acceptPtr (n k : Nat) (b : TxBuf) : (s.setTx n k b).acceptPtr = s.acceptPtr := rfl
@[simp] theorem State.setTx_round (n k : Nat) (b : TxBuf) : (s.setTx n k b).round = s.round := rfl
@[simp] theorem State.setTx_poolUsed (n k : Nat) (b : TxBuf) : (s.setTx n k b).poolUsed = s.poolUsed := rfl
@[simp] theorem State.setTx_sharedLow (n k : Nat) (b : TxBuf) : (s.setTx n k b).sharedLow = s.sharedLow := rfl
@[simp] theorem State.setTx_laneLow (n k : Nat) (b : TxBuf) : (s.setTx n k b).laneLow = s.laneLow := rfl
@[simp] theorem State.setTx_eths (n k : Nat) (b : TxBuf) : (s.setTx n k b).eths = s.eths := rfl
@[simp] theorem State.setTx_rxQueues (n k : Nat) (b : TxBuf) : (s.setTx n k b).rxQueues = s.rxQueues := rfl
@[simp] theorem State.setTx_steerHeld (n k : Nat) (b : TxBuf) : (s.setTx n k b).steerHeld = s.steerHeld := rfl
@[simp] theorem State.setTx_cbs (n k : Nat) (b : TxBuf) : (s.setTx n k b).cbs = s.cbs := rfl
@[simp] theorem State.setTx_defaultClass (n k : Nat) (b : TxBuf) : (s.setTx n k b).defaultClass = s.defaultClass := rfl
@[simp] theorem State.setTx_pnWarned (n k : Nat) (b : TxBuf) : (s.setTx n k b).pnWarned = s.pnWarned := rfl
@[simp] theorem State.setTx_pnSpent (n k : Nat) (b : TxBuf) : (s.setTx n k b).pnSpent = s.pnSpent := rfl
@[simp] theorem State.setTx_keySlots (n k : Nat) (b : TxBuf) : (s.setTx n k b).keySlots = s.keySlots := rfl
@[simp] theorem State.setTx_teams (n k : Nat) (b : TxBuf) : (s.setTx n k b).teams = s.teams := rfl
@[simp] theorem State.setTx_sig (n k : Nat) (b : TxBuf) : (s.setTx n k b).sig = s.sig := rfl
@[simp] theorem State.setTx_gw (n k : Nat) (b : TxBuf) : (s.setTx n k b).gw = s.gw := rfl
@[simp] theorem State.setTx_cip (n k : Nat) (b : TxBuf) : (s.setTx n k b).cip = s.cip := rfl
@[simp] theorem State.setTx_tack (n k : Nat) (b : TxBuf) : (s.setTx n k b).tack = s.tack := rfl
@[simp] theorem State.setTx_sclRun (n k : Nat) (b : TxBuf) : (s.setTx n k b).sclRun = s.sclRun := rfl
@[simp] theorem State.setTx_host (n k : Nat) (b : TxBuf) : (s.setTx n k b).host = s.host := rfl
@[simp] theorem State.setTx_super (n k : Nat) (b : TxBuf) : (s.setTx n k b).super = s.super := rfl
@[simp] theorem State.setTx_credit (n k : Nat) (b : TxBuf) : (s.setTx n k b).credit = s.credit := rfl

/-! ### setEth -/

@[simp] theorem State.setEth_pending (n : Nat) (e : Eth) : (s.setEth n e).pending = s.pending := rfl
@[simp] theorem State.setEth_out (n : Nat) (e : Eth) : (s.setEth n e).out = s.out := rfl
@[simp] theorem State.setEth_freeNext (n : Nat) (e : Eth) : (s.setEth n e).freeNext = s.freeNext := rfl
@[simp] theorem State.setEth_variant (n : Nat) (e : Eth) : (s.setEth n e).variant = s.variant := rfl
@[simp] theorem State.setEth_regs (n : Nat) (e : Eth) : (s.setEth n e).regs = s.regs := rfl
@[simp] theorem State.setEth_aper (n : Nat) (e : Eth) : (s.setEth n e).aper = s.aper := rfl
@[simp] theorem State.setEth_mram (n : Nat) (e : Eth) : (s.setEth n e).mram = s.mram := rfl
@[simp] theorem State.setEth_rowProgrammed (n : Nat) (e : Eth) : (s.setEth n e).rowProgrammed = s.rowProgrammed := rfl
@[simp] theorem State.setEth_slotA (n : Nat) (e : Eth) : (s.setEth n e).slotA = s.slotA := rfl
@[simp] theorem State.setEth_slotB (n : Nat) (e : Eth) : (s.setEth n e).slotB = s.slotB := rfl
@[simp] theorem State.setEth_genLast (n : Nat) (e : Eth) : (s.setEth n e).genLast = s.genLast := rfl
@[simp] theorem State.setEth_nvmRun (n : Nat) (e : Eth) : (s.setEth n e).nvmRun = s.nvmRun := rfl
@[simp] theorem State.setEth_nvmBuf (n : Nat) (e : Eth) : (s.setEth n e).nvmBuf = s.nvmBuf := rfl
@[simp] theorem State.setEth_farRun (n : Nat) (e : Eth) : (s.setEth n e).farRun = s.farRun := rfl
@[simp] theorem State.setEth_boot (n : Nat) (e : Eth) : (s.setEth n e).boot = s.boot := rfl
@[simp] theorem State.setEth_coldStart (n : Nat) (e : Eth) : (s.setEth n e).coldStart = s.coldStart := rfl
@[simp] theorem State.setEth_coreOn (n : Nat) (e : Eth) : (s.setEth n e).coreOn = s.coreOn := rfl
@[simp] theorem State.setEth_lineOn (n : Nat) (e : Eth) : (s.setEth n e).lineOn = s.lineOn := rfl
@[simp] theorem State.setEth_pdieOn (n : Nat) (e : Eth) : (s.setEth n e).pdieOn = s.pdieOn := rfl
@[simp] theorem State.setEth_cinched (n : Nat) (e : Eth) : (s.setEth n e).cinched = s.cinched := rfl
@[simp] theorem State.setEth_lanesOff (n : Nat) (e : Eth) : (s.setEth n e).lanesOff = s.lanesOff := rfl
@[simp] theorem State.setEth_portsOff (n : Nat) (e : Eth) : (s.setEth n e).portsOff = s.portsOff := rfl
@[simp] theorem State.setEth_teamsOff (n : Nat) (e : Eth) : (s.setEth n e).teamsOff = s.teamsOff := rfl
@[simp] theorem State.setEth_links (n : Nat) (e : Eth) : (s.setEth n e).links = s.links := rfl
@[simp] theorem State.setEth_aclkCalibrated (n : Nat) (e : Eth) : (s.setEth n e).aclkCalibrated = s.aclkCalibrated := rfl
@[simp] theorem State.setEth_owners (n : Nat) (e : Eth) : (s.setEth n e).owners = s.owners := rfl
@[simp] theorem State.setEth_uptime (n : Nat) (e : Eth) : (s.setEth n e).uptime = s.uptime := rfl
@[simp] theorem State.setEth_tmbCount (n : Nat) (e : Eth) : (s.setEth n e).tmbCount = s.tmbCount := rfl
@[simp] theorem State.setEth_tmbOffset (n : Nat) (e : Eth) : (s.setEth n e).tmbOffset = s.tmbOffset := rfl
@[simp] theorem State.setEth_perstLow (n : Nat) (e : Eth) : (s.setEth n e).perstLow = s.perstLow := rfl
@[simp] theorem State.setEth_msix (n : Nat) (e : Eth) : (s.setEth n e).msix = s.msix := rfl
@[simp] theorem State.setEth_msixPending (n : Nat) (e : Eth) : (s.setEth n e).msixPending = s.msixPending := rfl
@[simp] theorem State.setEth_windows (n : Nat) (e : Eth) : (s.setEth n e).windows = s.windows := rfl
@[simp] theorem State.setEth_journal (n : Nat) (e : Eth) : (s.setEth n e).journal = s.journal := rfl
@[simp] theorem State.setEth_journalHeld (n : Nat) (e : Eth) : (s.setEth n e).journalHeld = s.journalHeld := rfl
@[simp] theorem State.setEth_journalSeq (n : Nat) (e : Eth) : (s.setEth n e).journalSeq = s.journalSeq := rfl
@[simp] theorem State.setEth_class0Coalescing (n : Nat) (e : Eth) : (s.setEth n e).class0Coalescing = s.class0Coalescing := rfl
@[simp] theorem State.setEth_bbStaged (n : Nat) (e : Eth) : (s.setEth n e).bbStaged = s.bbStaged := rfl
@[simp] theorem State.setEth_bbSeq (n : Nat) (e : Eth) : (s.setEth n e).bbSeq = s.bbSeq := rfl
@[simp] theorem State.setEth_blackBox (n : Nat) (e : Eth) : (s.setEth n e).blackBox = s.blackBox := rfl
@[simp] theorem State.setEth_lanes (n : Nat) (e : Eth) : (s.setEth n e).lanes = s.lanes := rfl
@[simp] theorem State.setEth_txBufs (n : Nat) (e : Eth) : (s.setEth n e).txBufs = s.txBufs := rfl
@[simp] theorem State.setEth_orderNext (n : Nat) (e : Eth) : (s.setEth n e).orderNext = s.orderNext := rfl
@[simp] theorem State.setEth_egress (n : Nat) (e : Eth) : (s.setEth n e).egress = s.egress := rfl
@[simp] theorem State.setEth_portOwner (n : Nat) (e : Eth) : (s.setEth n e).portOwner = s.portOwner := rfl
@[simp] theorem State.setEth_hobA (n : Nat) (e : Eth) : (s.setEth n e).hobA = s.hobA := rfl
@[simp] theorem State.setEth_hobB (n : Nat) (e : Eth) : (s.setEth n e).hobB = s.hobB := rfl
@[simp] theorem State.setEth_offered (n : Nat) (e : Eth) : (s.setEth n e).offered = s.offered := rfl
@[simp] theorem State.setEth_ticks (n : Nat) (e : Eth) : (s.setEth n e).ticks = s.ticks := rfl
@[simp] theorem State.setEth_wakePlan (n : Nat) (e : Eth) : (s.setEth n e).wakePlan = s.wakePlan := rfl
@[simp] theorem State.setEth_pwk (n : Nat) (e : Eth) : (s.setEth n e).pwk = s.pwk := rfl
@[simp] theorem State.setEth_aonWakeLimit (n : Nat) (e : Eth) : (s.setEth n e).aonWakeLimit = s.aonWakeLimit := rfl
@[simp] theorem State.setEth_aonTamper (n : Nat) (e : Eth) : (s.setEth n e).aonTamper = s.aonTamper := rfl
@[simp] theorem State.setEth_outs (n : Nat) (e : Eth) : (s.setEth n e).outs = s.outs := rfl
@[simp] theorem State.setEth_conv (n : Nat) (e : Eth) : (s.setEth n e).conv = s.conv := rfl
@[simp] theorem State.setEth_groupEnergy (n : Nat) (e : Eth) : (s.setEth n e).groupEnergy = s.groupEnergy := rfl
@[simp] theorem State.setEth_planThresh (n : Nat) (e : Eth) : (s.setEth n e).planThresh = s.planThresh := rfl
@[simp] theorem State.setEth_timeCapture (n : Nat) (e : Eth) : (s.setEth n e).timeCapture = s.timeCapture := rfl
@[simp] theorem State.setEth_tmbInc (n : Nat) (e : Eth) : (s.setEth n e).tmbInc = s.tmbInc := rfl
@[simp] theorem State.setEth_lastReport (n : Nat) (e : Eth) : (s.setEth n e).lastReport = s.lastReport := rfl
@[simp] theorem State.setEth_trigTarget (n : Nat) (e : Eth) : (s.setEth n e).trigTarget = s.trigTarget := rfl
@[simp] theorem State.setEth_trigLate (n : Nat) (e : Eth) : (s.setEth n e).trigLate = s.trigLate := rfl
@[simp] theorem State.setEth_pulses (n : Nat) (e : Eth) : (s.setEth n e).pulses = s.pulses := rfl
@[simp] theorem State.setEth_captures (n : Nat) (e : Eth) : (s.setEth n e).captures = s.captures := rfl
@[simp] theorem State.setEth_ptpRx (n : Nat) (e : Eth) : (s.setEth n e).ptpRx = s.ptpRx := rfl
@[simp] theorem State.setEth_ptpTx (n : Nat) (e : Eth) : (s.setEth n e).ptpTx = s.ptpTx := rfl
@[simp] theorem State.setEth_portGates (n : Nat) (e : Eth) : (s.setEth n e).portGates = s.portGates := rfl
@[simp] theorem State.setEth_badEntries (n : Nat) (e : Eth) : (s.setEth n e).badEntries = s.badEntries := rfl
@[simp] theorem State.setEth_tags (n : Nat) (e : Eth) : (s.setEth n e).tags = s.tags := rfl
@[simp] theorem State.setEth_sealedAt (n : Nat) (e : Eth) : (s.setEth n e).sealedAt = s.sealedAt := rfl
@[simp] theorem State.setEth_aperImage (n : Nat) (e : Eth) : (s.setEth n e).aperImage = s.aperImage := rfl
@[simp] theorem State.setEth_repairs (n : Nat) (e : Eth) : (s.setEth n e).repairs = s.repairs := rfl
@[simp] theorem State.setEth_autoIds (n : Nat) (e : Eth) : (s.setEth n e).autoIds = s.autoIds := rfl
@[simp] theorem State.setEth_ovfRaised (n : Nat) (e : Eth) : (s.setEth n e).ovfRaised = s.ovfRaised := rfl
@[simp] theorem State.setEth_fdbEvict (n : Nat) (e : Eth) : (s.setEth n e).fdbEvict = s.fdbEvict := rfl
@[simp] theorem State.setEth_pipes (n : Nat) (e : Eth) : (s.setEth n e).pipes = s.pipes := rfl
@[simp] theorem State.setEth_mirrorSink (n : Nat) (e : Eth) : (s.setEth n e).mirrorSink = s.mirrorSink := rfl
@[simp] theorem State.setEth_buckets (n : Nat) (e : Eth) : (s.setEth n e).buckets = s.buckets := rfl
@[simp] theorem State.setEth_schools (n : Nat) (e : Eth) : (s.setEth n e).schools = s.schools := rfl
@[simp] theorem State.setEth_schoolWindows (n : Nat) (e : Eth) : (s.setEth n e).schoolWindows = s.schoolWindows := rfl
@[simp] theorem State.setEth_unknownRaised (n : Nat) (e : Eth) : (s.setEth n e).unknownRaised = s.unknownRaised := rfl
@[simp] theorem State.setEth_sgateEntry (n : Nat) (e : Eth) : (s.setEth n e).sgateEntry = s.sgateEntry := rfl
@[simp] theorem State.setEth_sgateStart (n : Nat) (e : Eth) : (s.setEth n e).sgateStart = s.sgateStart := rfl
@[simp] theorem State.setEth_stmScrub (n : Nat) (e : Eth) : (s.setEth n e).stmScrub = s.stmScrub := rfl
@[simp] theorem State.setEth_stored (n : Nat) (e : Eth) : (s.setEth n e).stored = s.stored := rfl
@[simp] theorem State.setEth_storedNext (n : Nat) (e : Eth) : (s.setEth n e).storedNext = s.storedNext := rfl
@[simp] theorem State.setEth_voqs (n : Nat) (e : Eth) : (s.setEth n e).voqs = s.voqs := rfl
@[simp] theorem State.setEth_voqShared (n : Nat) (e : Eth) : (s.setEth n e).voqShared = s.voqShared := rfl
@[simp] theorem State.setEth_pairs (n : Nat) (e : Eth) : (s.setEth n e).pairs = s.pairs := rfl
@[simp] theorem State.setEth_grantPtr (n : Nat) (e : Eth) : (s.setEth n e).grantPtr = s.grantPtr := rfl
@[simp] theorem State.setEth_acceptPtr (n : Nat) (e : Eth) : (s.setEth n e).acceptPtr = s.acceptPtr := rfl
@[simp] theorem State.setEth_round (n : Nat) (e : Eth) : (s.setEth n e).round = s.round := rfl
@[simp] theorem State.setEth_poolUsed (n : Nat) (e : Eth) : (s.setEth n e).poolUsed = s.poolUsed := rfl
@[simp] theorem State.setEth_sharedLow (n : Nat) (e : Eth) : (s.setEth n e).sharedLow = s.sharedLow := rfl
@[simp] theorem State.setEth_laneLow (n : Nat) (e : Eth) : (s.setEth n e).laneLow = s.laneLow := rfl
@[simp] theorem State.setEth_rxQueues (n : Nat) (e : Eth) : (s.setEth n e).rxQueues = s.rxQueues := rfl
@[simp] theorem State.setEth_steerHeld (n : Nat) (e : Eth) : (s.setEth n e).steerHeld = s.steerHeld := rfl
@[simp] theorem State.setEth_cbs (n : Nat) (e : Eth) : (s.setEth n e).cbs = s.cbs := rfl
@[simp] theorem State.setEth_defaultClass (n : Nat) (e : Eth) : (s.setEth n e).defaultClass = s.defaultClass := rfl
@[simp] theorem State.setEth_pnWarned (n : Nat) (e : Eth) : (s.setEth n e).pnWarned = s.pnWarned := rfl
@[simp] theorem State.setEth_pnSpent (n : Nat) (e : Eth) : (s.setEth n e).pnSpent = s.pnSpent := rfl
@[simp] theorem State.setEth_keySlots (n : Nat) (e : Eth) : (s.setEth n e).keySlots = s.keySlots := rfl
@[simp] theorem State.setEth_teams (n : Nat) (e : Eth) : (s.setEth n e).teams = s.teams := rfl
@[simp] theorem State.setEth_sig (n : Nat) (e : Eth) : (s.setEth n e).sig = s.sig := rfl
@[simp] theorem State.setEth_gw (n : Nat) (e : Eth) : (s.setEth n e).gw = s.gw := rfl
@[simp] theorem State.setEth_cip (n : Nat) (e : Eth) : (s.setEth n e).cip = s.cip := rfl
@[simp] theorem State.setEth_tack (n : Nat) (e : Eth) : (s.setEth n e).tack = s.tack := rfl
@[simp] theorem State.setEth_sclRun (n : Nat) (e : Eth) : (s.setEth n e).sclRun = s.sclRun := rfl
@[simp] theorem State.setEth_host (n : Nat) (e : Eth) : (s.setEth n e).host = s.host := rfl
@[simp] theorem State.setEth_super (n : Nat) (e : Eth) : (s.setEth n e).super = s.super := rfl
@[simp] theorem State.setEth_credit (n : Nat) (e : Eth) : (s.setEth n e).credit = s.credit := rfl

/-! ### setLink -/

@[simp] theorem State.setLink_pending (k : Nat) (l : DieLink) : (s.setLink k l).pending = s.pending := rfl
@[simp] theorem State.setLink_out (k : Nat) (l : DieLink) : (s.setLink k l).out = s.out := rfl
@[simp] theorem State.setLink_freeNext (k : Nat) (l : DieLink) : (s.setLink k l).freeNext = s.freeNext := rfl
@[simp] theorem State.setLink_variant (k : Nat) (l : DieLink) : (s.setLink k l).variant = s.variant := rfl
@[simp] theorem State.setLink_regs (k : Nat) (l : DieLink) : (s.setLink k l).regs = s.regs := rfl
@[simp] theorem State.setLink_aper (k : Nat) (l : DieLink) : (s.setLink k l).aper = s.aper := rfl
@[simp] theorem State.setLink_mram (k : Nat) (l : DieLink) : (s.setLink k l).mram = s.mram := rfl
@[simp] theorem State.setLink_rowProgrammed (k : Nat) (l : DieLink) : (s.setLink k l).rowProgrammed = s.rowProgrammed := rfl
@[simp] theorem State.setLink_slotA (k : Nat) (l : DieLink) : (s.setLink k l).slotA = s.slotA := rfl
@[simp] theorem State.setLink_slotB (k : Nat) (l : DieLink) : (s.setLink k l).slotB = s.slotB := rfl
@[simp] theorem State.setLink_genLast (k : Nat) (l : DieLink) : (s.setLink k l).genLast = s.genLast := rfl
@[simp] theorem State.setLink_nvmRun (k : Nat) (l : DieLink) : (s.setLink k l).nvmRun = s.nvmRun := rfl
@[simp] theorem State.setLink_nvmBuf (k : Nat) (l : DieLink) : (s.setLink k l).nvmBuf = s.nvmBuf := rfl
@[simp] theorem State.setLink_farRun (k : Nat) (l : DieLink) : (s.setLink k l).farRun = s.farRun := rfl
@[simp] theorem State.setLink_boot (k : Nat) (l : DieLink) : (s.setLink k l).boot = s.boot := rfl
@[simp] theorem State.setLink_coldStart (k : Nat) (l : DieLink) : (s.setLink k l).coldStart = s.coldStart := rfl
@[simp] theorem State.setLink_coreOn (k : Nat) (l : DieLink) : (s.setLink k l).coreOn = s.coreOn := rfl
@[simp] theorem State.setLink_lineOn (k : Nat) (l : DieLink) : (s.setLink k l).lineOn = s.lineOn := rfl
@[simp] theorem State.setLink_pdieOn (k : Nat) (l : DieLink) : (s.setLink k l).pdieOn = s.pdieOn := rfl
@[simp] theorem State.setLink_cinched (k : Nat) (l : DieLink) : (s.setLink k l).cinched = s.cinched := rfl
@[simp] theorem State.setLink_lanesOff (k : Nat) (l : DieLink) : (s.setLink k l).lanesOff = s.lanesOff := rfl
@[simp] theorem State.setLink_portsOff (k : Nat) (l : DieLink) : (s.setLink k l).portsOff = s.portsOff := rfl
@[simp] theorem State.setLink_teamsOff (k : Nat) (l : DieLink) : (s.setLink k l).teamsOff = s.teamsOff := rfl
@[simp] theorem State.setLink_aclkCalibrated (k : Nat) (l : DieLink) : (s.setLink k l).aclkCalibrated = s.aclkCalibrated := rfl
@[simp] theorem State.setLink_owners (k : Nat) (l : DieLink) : (s.setLink k l).owners = s.owners := rfl
@[simp] theorem State.setLink_uptime (k : Nat) (l : DieLink) : (s.setLink k l).uptime = s.uptime := rfl
@[simp] theorem State.setLink_tmbCount (k : Nat) (l : DieLink) : (s.setLink k l).tmbCount = s.tmbCount := rfl
@[simp] theorem State.setLink_tmbOffset (k : Nat) (l : DieLink) : (s.setLink k l).tmbOffset = s.tmbOffset := rfl
@[simp] theorem State.setLink_perstLow (k : Nat) (l : DieLink) : (s.setLink k l).perstLow = s.perstLow := rfl
@[simp] theorem State.setLink_msix (k : Nat) (l : DieLink) : (s.setLink k l).msix = s.msix := rfl
@[simp] theorem State.setLink_msixPending (k : Nat) (l : DieLink) : (s.setLink k l).msixPending = s.msixPending := rfl
@[simp] theorem State.setLink_windows (k : Nat) (l : DieLink) : (s.setLink k l).windows = s.windows := rfl
@[simp] theorem State.setLink_journal (k : Nat) (l : DieLink) : (s.setLink k l).journal = s.journal := rfl
@[simp] theorem State.setLink_journalHeld (k : Nat) (l : DieLink) : (s.setLink k l).journalHeld = s.journalHeld := rfl
@[simp] theorem State.setLink_journalSeq (k : Nat) (l : DieLink) : (s.setLink k l).journalSeq = s.journalSeq := rfl
@[simp] theorem State.setLink_class0Coalescing (k : Nat) (l : DieLink) : (s.setLink k l).class0Coalescing = s.class0Coalescing := rfl
@[simp] theorem State.setLink_bbStaged (k : Nat) (l : DieLink) : (s.setLink k l).bbStaged = s.bbStaged := rfl
@[simp] theorem State.setLink_bbSeq (k : Nat) (l : DieLink) : (s.setLink k l).bbSeq = s.bbSeq := rfl
@[simp] theorem State.setLink_blackBox (k : Nat) (l : DieLink) : (s.setLink k l).blackBox = s.blackBox := rfl
@[simp] theorem State.setLink_lanes (k : Nat) (l : DieLink) : (s.setLink k l).lanes = s.lanes := rfl
@[simp] theorem State.setLink_txBufs (k : Nat) (l : DieLink) : (s.setLink k l).txBufs = s.txBufs := rfl
@[simp] theorem State.setLink_orderNext (k : Nat) (l : DieLink) : (s.setLink k l).orderNext = s.orderNext := rfl
@[simp] theorem State.setLink_egress (k : Nat) (l : DieLink) : (s.setLink k l).egress = s.egress := rfl
@[simp] theorem State.setLink_portOwner (k : Nat) (l : DieLink) : (s.setLink k l).portOwner = s.portOwner := rfl
@[simp] theorem State.setLink_hobA (k : Nat) (l : DieLink) : (s.setLink k l).hobA = s.hobA := rfl
@[simp] theorem State.setLink_hobB (k : Nat) (l : DieLink) : (s.setLink k l).hobB = s.hobB := rfl
@[simp] theorem State.setLink_offered (k : Nat) (l : DieLink) : (s.setLink k l).offered = s.offered := rfl
@[simp] theorem State.setLink_ticks (k : Nat) (l : DieLink) : (s.setLink k l).ticks = s.ticks := rfl
@[simp] theorem State.setLink_wakePlan (k : Nat) (l : DieLink) : (s.setLink k l).wakePlan = s.wakePlan := rfl
@[simp] theorem State.setLink_pwk (k : Nat) (l : DieLink) : (s.setLink k l).pwk = s.pwk := rfl
@[simp] theorem State.setLink_aonWakeLimit (k : Nat) (l : DieLink) : (s.setLink k l).aonWakeLimit = s.aonWakeLimit := rfl
@[simp] theorem State.setLink_aonTamper (k : Nat) (l : DieLink) : (s.setLink k l).aonTamper = s.aonTamper := rfl
@[simp] theorem State.setLink_outs (k : Nat) (l : DieLink) : (s.setLink k l).outs = s.outs := rfl
@[simp] theorem State.setLink_conv (k : Nat) (l : DieLink) : (s.setLink k l).conv = s.conv := rfl
@[simp] theorem State.setLink_groupEnergy (k : Nat) (l : DieLink) : (s.setLink k l).groupEnergy = s.groupEnergy := rfl
@[simp] theorem State.setLink_planThresh (k : Nat) (l : DieLink) : (s.setLink k l).planThresh = s.planThresh := rfl
@[simp] theorem State.setLink_timeCapture (k : Nat) (l : DieLink) : (s.setLink k l).timeCapture = s.timeCapture := rfl
@[simp] theorem State.setLink_tmbInc (k : Nat) (l : DieLink) : (s.setLink k l).tmbInc = s.tmbInc := rfl
@[simp] theorem State.setLink_lastReport (k : Nat) (l : DieLink) : (s.setLink k l).lastReport = s.lastReport := rfl
@[simp] theorem State.setLink_trigTarget (k : Nat) (l : DieLink) : (s.setLink k l).trigTarget = s.trigTarget := rfl
@[simp] theorem State.setLink_trigLate (k : Nat) (l : DieLink) : (s.setLink k l).trigLate = s.trigLate := rfl
@[simp] theorem State.setLink_pulses (k : Nat) (l : DieLink) : (s.setLink k l).pulses = s.pulses := rfl
@[simp] theorem State.setLink_captures (k : Nat) (l : DieLink) : (s.setLink k l).captures = s.captures := rfl
@[simp] theorem State.setLink_ptpRx (k : Nat) (l : DieLink) : (s.setLink k l).ptpRx = s.ptpRx := rfl
@[simp] theorem State.setLink_ptpTx (k : Nat) (l : DieLink) : (s.setLink k l).ptpTx = s.ptpTx := rfl
@[simp] theorem State.setLink_portGates (k : Nat) (l : DieLink) : (s.setLink k l).portGates = s.portGates := rfl
@[simp] theorem State.setLink_badEntries (k : Nat) (l : DieLink) : (s.setLink k l).badEntries = s.badEntries := rfl
@[simp] theorem State.setLink_tags (k : Nat) (l : DieLink) : (s.setLink k l).tags = s.tags := rfl
@[simp] theorem State.setLink_sealedAt (k : Nat) (l : DieLink) : (s.setLink k l).sealedAt = s.sealedAt := rfl
@[simp] theorem State.setLink_aperImage (k : Nat) (l : DieLink) : (s.setLink k l).aperImage = s.aperImage := rfl
@[simp] theorem State.setLink_repairs (k : Nat) (l : DieLink) : (s.setLink k l).repairs = s.repairs := rfl
@[simp] theorem State.setLink_autoIds (k : Nat) (l : DieLink) : (s.setLink k l).autoIds = s.autoIds := rfl
@[simp] theorem State.setLink_ovfRaised (k : Nat) (l : DieLink) : (s.setLink k l).ovfRaised = s.ovfRaised := rfl
@[simp] theorem State.setLink_fdbEvict (k : Nat) (l : DieLink) : (s.setLink k l).fdbEvict = s.fdbEvict := rfl
@[simp] theorem State.setLink_pipes (k : Nat) (l : DieLink) : (s.setLink k l).pipes = s.pipes := rfl
@[simp] theorem State.setLink_mirrorSink (k : Nat) (l : DieLink) : (s.setLink k l).mirrorSink = s.mirrorSink := rfl
@[simp] theorem State.setLink_buckets (k : Nat) (l : DieLink) : (s.setLink k l).buckets = s.buckets := rfl
@[simp] theorem State.setLink_schools (k : Nat) (l : DieLink) : (s.setLink k l).schools = s.schools := rfl
@[simp] theorem State.setLink_schoolWindows (k : Nat) (l : DieLink) : (s.setLink k l).schoolWindows = s.schoolWindows := rfl
@[simp] theorem State.setLink_unknownRaised (k : Nat) (l : DieLink) : (s.setLink k l).unknownRaised = s.unknownRaised := rfl
@[simp] theorem State.setLink_sgateEntry (k : Nat) (l : DieLink) : (s.setLink k l).sgateEntry = s.sgateEntry := rfl
@[simp] theorem State.setLink_sgateStart (k : Nat) (l : DieLink) : (s.setLink k l).sgateStart = s.sgateStart := rfl
@[simp] theorem State.setLink_stmScrub (k : Nat) (l : DieLink) : (s.setLink k l).stmScrub = s.stmScrub := rfl
@[simp] theorem State.setLink_stored (k : Nat) (l : DieLink) : (s.setLink k l).stored = s.stored := rfl
@[simp] theorem State.setLink_storedNext (k : Nat) (l : DieLink) : (s.setLink k l).storedNext = s.storedNext := rfl
@[simp] theorem State.setLink_voqs (k : Nat) (l : DieLink) : (s.setLink k l).voqs = s.voqs := rfl
@[simp] theorem State.setLink_voqShared (k : Nat) (l : DieLink) : (s.setLink k l).voqShared = s.voqShared := rfl
@[simp] theorem State.setLink_pairs (k : Nat) (l : DieLink) : (s.setLink k l).pairs = s.pairs := rfl
@[simp] theorem State.setLink_grantPtr (k : Nat) (l : DieLink) : (s.setLink k l).grantPtr = s.grantPtr := rfl
@[simp] theorem State.setLink_acceptPtr (k : Nat) (l : DieLink) : (s.setLink k l).acceptPtr = s.acceptPtr := rfl
@[simp] theorem State.setLink_round (k : Nat) (l : DieLink) : (s.setLink k l).round = s.round := rfl
@[simp] theorem State.setLink_poolUsed (k : Nat) (l : DieLink) : (s.setLink k l).poolUsed = s.poolUsed := rfl
@[simp] theorem State.setLink_sharedLow (k : Nat) (l : DieLink) : (s.setLink k l).sharedLow = s.sharedLow := rfl
@[simp] theorem State.setLink_laneLow (k : Nat) (l : DieLink) : (s.setLink k l).laneLow = s.laneLow := rfl
@[simp] theorem State.setLink_eths (k : Nat) (l : DieLink) : (s.setLink k l).eths = s.eths := rfl
@[simp] theorem State.setLink_rxQueues (k : Nat) (l : DieLink) : (s.setLink k l).rxQueues = s.rxQueues := rfl
@[simp] theorem State.setLink_steerHeld (k : Nat) (l : DieLink) : (s.setLink k l).steerHeld = s.steerHeld := rfl
@[simp] theorem State.setLink_cbs (k : Nat) (l : DieLink) : (s.setLink k l).cbs = s.cbs := rfl
@[simp] theorem State.setLink_defaultClass (k : Nat) (l : DieLink) : (s.setLink k l).defaultClass = s.defaultClass := rfl
@[simp] theorem State.setLink_pnWarned (k : Nat) (l : DieLink) : (s.setLink k l).pnWarned = s.pnWarned := rfl
@[simp] theorem State.setLink_pnSpent (k : Nat) (l : DieLink) : (s.setLink k l).pnSpent = s.pnSpent := rfl
@[simp] theorem State.setLink_keySlots (k : Nat) (l : DieLink) : (s.setLink k l).keySlots = s.keySlots := rfl
@[simp] theorem State.setLink_teams (k : Nat) (l : DieLink) : (s.setLink k l).teams = s.teams := rfl
@[simp] theorem State.setLink_sig (k : Nat) (l : DieLink) : (s.setLink k l).sig = s.sig := rfl
@[simp] theorem State.setLink_gw (k : Nat) (l : DieLink) : (s.setLink k l).gw = s.gw := rfl
@[simp] theorem State.setLink_cip (k : Nat) (l : DieLink) : (s.setLink k l).cip = s.cip := rfl
@[simp] theorem State.setLink_tack (k : Nat) (l : DieLink) : (s.setLink k l).tack = s.tack := rfl
@[simp] theorem State.setLink_sclRun (k : Nat) (l : DieLink) : (s.setLink k l).sclRun = s.sclRun := rfl
@[simp] theorem State.setLink_host (k : Nat) (l : DieLink) : (s.setLink k l).host = s.host := rfl
@[simp] theorem State.setLink_super (k : Nat) (l : DieLink) : (s.setLink k l).super = s.super := rfl
@[simp] theorem State.setLink_credit (k : Nat) (l : DieLink) : (s.setLink k l).credit = s.credit := rfl

/-! ### setEgressQ -/

@[simp] theorem State.setEgressQ_pending (k : Nat) (l : List Frame) : (s.setEgressQ k l).pending = s.pending := rfl
@[simp] theorem State.setEgressQ_out (k : Nat) (l : List Frame) : (s.setEgressQ k l).out = s.out := rfl
@[simp] theorem State.setEgressQ_freeNext (k : Nat) (l : List Frame) : (s.setEgressQ k l).freeNext = s.freeNext := rfl
@[simp] theorem State.setEgressQ_variant (k : Nat) (l : List Frame) : (s.setEgressQ k l).variant = s.variant := rfl
@[simp] theorem State.setEgressQ_regs (k : Nat) (l : List Frame) : (s.setEgressQ k l).regs = s.regs := rfl
@[simp] theorem State.setEgressQ_aper (k : Nat) (l : List Frame) : (s.setEgressQ k l).aper = s.aper := rfl
@[simp] theorem State.setEgressQ_mram (k : Nat) (l : List Frame) : (s.setEgressQ k l).mram = s.mram := rfl
@[simp] theorem State.setEgressQ_rowProgrammed (k : Nat) (l : List Frame) : (s.setEgressQ k l).rowProgrammed = s.rowProgrammed := rfl
@[simp] theorem State.setEgressQ_slotA (k : Nat) (l : List Frame) : (s.setEgressQ k l).slotA = s.slotA := rfl
@[simp] theorem State.setEgressQ_slotB (k : Nat) (l : List Frame) : (s.setEgressQ k l).slotB = s.slotB := rfl
@[simp] theorem State.setEgressQ_genLast (k : Nat) (l : List Frame) : (s.setEgressQ k l).genLast = s.genLast := rfl
@[simp] theorem State.setEgressQ_nvmRun (k : Nat) (l : List Frame) : (s.setEgressQ k l).nvmRun = s.nvmRun := rfl
@[simp] theorem State.setEgressQ_nvmBuf (k : Nat) (l : List Frame) : (s.setEgressQ k l).nvmBuf = s.nvmBuf := rfl
@[simp] theorem State.setEgressQ_farRun (k : Nat) (l : List Frame) : (s.setEgressQ k l).farRun = s.farRun := rfl
@[simp] theorem State.setEgressQ_boot (k : Nat) (l : List Frame) : (s.setEgressQ k l).boot = s.boot := rfl
@[simp] theorem State.setEgressQ_coldStart (k : Nat) (l : List Frame) : (s.setEgressQ k l).coldStart = s.coldStart := rfl
@[simp] theorem State.setEgressQ_coreOn (k : Nat) (l : List Frame) : (s.setEgressQ k l).coreOn = s.coreOn := rfl
@[simp] theorem State.setEgressQ_lineOn (k : Nat) (l : List Frame) : (s.setEgressQ k l).lineOn = s.lineOn := rfl
@[simp] theorem State.setEgressQ_pdieOn (k : Nat) (l : List Frame) : (s.setEgressQ k l).pdieOn = s.pdieOn := rfl
@[simp] theorem State.setEgressQ_cinched (k : Nat) (l : List Frame) : (s.setEgressQ k l).cinched = s.cinched := rfl
@[simp] theorem State.setEgressQ_lanesOff (k : Nat) (l : List Frame) : (s.setEgressQ k l).lanesOff = s.lanesOff := rfl
@[simp] theorem State.setEgressQ_portsOff (k : Nat) (l : List Frame) : (s.setEgressQ k l).portsOff = s.portsOff := rfl
@[simp] theorem State.setEgressQ_teamsOff (k : Nat) (l : List Frame) : (s.setEgressQ k l).teamsOff = s.teamsOff := rfl
@[simp] theorem State.setEgressQ_links (k : Nat) (l : List Frame) : (s.setEgressQ k l).links = s.links := rfl
@[simp] theorem State.setEgressQ_aclkCalibrated (k : Nat) (l : List Frame) : (s.setEgressQ k l).aclkCalibrated = s.aclkCalibrated := rfl
@[simp] theorem State.setEgressQ_owners (k : Nat) (l : List Frame) : (s.setEgressQ k l).owners = s.owners := rfl
@[simp] theorem State.setEgressQ_uptime (k : Nat) (l : List Frame) : (s.setEgressQ k l).uptime = s.uptime := rfl
@[simp] theorem State.setEgressQ_tmbCount (k : Nat) (l : List Frame) : (s.setEgressQ k l).tmbCount = s.tmbCount := rfl
@[simp] theorem State.setEgressQ_tmbOffset (k : Nat) (l : List Frame) : (s.setEgressQ k l).tmbOffset = s.tmbOffset := rfl
@[simp] theorem State.setEgressQ_perstLow (k : Nat) (l : List Frame) : (s.setEgressQ k l).perstLow = s.perstLow := rfl
@[simp] theorem State.setEgressQ_msix (k : Nat) (l : List Frame) : (s.setEgressQ k l).msix = s.msix := rfl
@[simp] theorem State.setEgressQ_msixPending (k : Nat) (l : List Frame) : (s.setEgressQ k l).msixPending = s.msixPending := rfl
@[simp] theorem State.setEgressQ_windows (k : Nat) (l : List Frame) : (s.setEgressQ k l).windows = s.windows := rfl
@[simp] theorem State.setEgressQ_journal (k : Nat) (l : List Frame) : (s.setEgressQ k l).journal = s.journal := rfl
@[simp] theorem State.setEgressQ_journalHeld (k : Nat) (l : List Frame) : (s.setEgressQ k l).journalHeld = s.journalHeld := rfl
@[simp] theorem State.setEgressQ_journalSeq (k : Nat) (l : List Frame) : (s.setEgressQ k l).journalSeq = s.journalSeq := rfl
@[simp] theorem State.setEgressQ_class0Coalescing (k : Nat) (l : List Frame) : (s.setEgressQ k l).class0Coalescing = s.class0Coalescing := rfl
@[simp] theorem State.setEgressQ_bbStaged (k : Nat) (l : List Frame) : (s.setEgressQ k l).bbStaged = s.bbStaged := rfl
@[simp] theorem State.setEgressQ_bbSeq (k : Nat) (l : List Frame) : (s.setEgressQ k l).bbSeq = s.bbSeq := rfl
@[simp] theorem State.setEgressQ_blackBox (k : Nat) (l : List Frame) : (s.setEgressQ k l).blackBox = s.blackBox := rfl
@[simp] theorem State.setEgressQ_lanes (k : Nat) (l : List Frame) : (s.setEgressQ k l).lanes = s.lanes := rfl
@[simp] theorem State.setEgressQ_txBufs (k : Nat) (l : List Frame) : (s.setEgressQ k l).txBufs = s.txBufs := rfl
@[simp] theorem State.setEgressQ_orderNext (k : Nat) (l : List Frame) : (s.setEgressQ k l).orderNext = s.orderNext := rfl
@[simp] theorem State.setEgressQ_portOwner (k : Nat) (l : List Frame) : (s.setEgressQ k l).portOwner = s.portOwner := rfl
@[simp] theorem State.setEgressQ_hobA (k : Nat) (l : List Frame) : (s.setEgressQ k l).hobA = s.hobA := rfl
@[simp] theorem State.setEgressQ_hobB (k : Nat) (l : List Frame) : (s.setEgressQ k l).hobB = s.hobB := rfl
@[simp] theorem State.setEgressQ_offered (k : Nat) (l : List Frame) : (s.setEgressQ k l).offered = s.offered := rfl
@[simp] theorem State.setEgressQ_ticks (k : Nat) (l : List Frame) : (s.setEgressQ k l).ticks = s.ticks := rfl
@[simp] theorem State.setEgressQ_wakePlan (k : Nat) (l : List Frame) : (s.setEgressQ k l).wakePlan = s.wakePlan := rfl
@[simp] theorem State.setEgressQ_pwk (k : Nat) (l : List Frame) : (s.setEgressQ k l).pwk = s.pwk := rfl
@[simp] theorem State.setEgressQ_aonWakeLimit (k : Nat) (l : List Frame) : (s.setEgressQ k l).aonWakeLimit = s.aonWakeLimit := rfl
@[simp] theorem State.setEgressQ_aonTamper (k : Nat) (l : List Frame) : (s.setEgressQ k l).aonTamper = s.aonTamper := rfl
@[simp] theorem State.setEgressQ_outs (k : Nat) (l : List Frame) : (s.setEgressQ k l).outs = s.outs := rfl
@[simp] theorem State.setEgressQ_conv (k : Nat) (l : List Frame) : (s.setEgressQ k l).conv = s.conv := rfl
@[simp] theorem State.setEgressQ_groupEnergy (k : Nat) (l : List Frame) : (s.setEgressQ k l).groupEnergy = s.groupEnergy := rfl
@[simp] theorem State.setEgressQ_planThresh (k : Nat) (l : List Frame) : (s.setEgressQ k l).planThresh = s.planThresh := rfl
@[simp] theorem State.setEgressQ_timeCapture (k : Nat) (l : List Frame) : (s.setEgressQ k l).timeCapture = s.timeCapture := rfl
@[simp] theorem State.setEgressQ_tmbInc (k : Nat) (l : List Frame) : (s.setEgressQ k l).tmbInc = s.tmbInc := rfl
@[simp] theorem State.setEgressQ_lastReport (k : Nat) (l : List Frame) : (s.setEgressQ k l).lastReport = s.lastReport := rfl
@[simp] theorem State.setEgressQ_trigTarget (k : Nat) (l : List Frame) : (s.setEgressQ k l).trigTarget = s.trigTarget := rfl
@[simp] theorem State.setEgressQ_trigLate (k : Nat) (l : List Frame) : (s.setEgressQ k l).trigLate = s.trigLate := rfl
@[simp] theorem State.setEgressQ_pulses (k : Nat) (l : List Frame) : (s.setEgressQ k l).pulses = s.pulses := rfl
@[simp] theorem State.setEgressQ_captures (k : Nat) (l : List Frame) : (s.setEgressQ k l).captures = s.captures := rfl
@[simp] theorem State.setEgressQ_ptpRx (k : Nat) (l : List Frame) : (s.setEgressQ k l).ptpRx = s.ptpRx := rfl
@[simp] theorem State.setEgressQ_ptpTx (k : Nat) (l : List Frame) : (s.setEgressQ k l).ptpTx = s.ptpTx := rfl
@[simp] theorem State.setEgressQ_portGates (k : Nat) (l : List Frame) : (s.setEgressQ k l).portGates = s.portGates := rfl
@[simp] theorem State.setEgressQ_badEntries (k : Nat) (l : List Frame) : (s.setEgressQ k l).badEntries = s.badEntries := rfl
@[simp] theorem State.setEgressQ_tags (k : Nat) (l : List Frame) : (s.setEgressQ k l).tags = s.tags := rfl
@[simp] theorem State.setEgressQ_sealedAt (k : Nat) (l : List Frame) : (s.setEgressQ k l).sealedAt = s.sealedAt := rfl
@[simp] theorem State.setEgressQ_aperImage (k : Nat) (l : List Frame) : (s.setEgressQ k l).aperImage = s.aperImage := rfl
@[simp] theorem State.setEgressQ_repairs (k : Nat) (l : List Frame) : (s.setEgressQ k l).repairs = s.repairs := rfl
@[simp] theorem State.setEgressQ_autoIds (k : Nat) (l : List Frame) : (s.setEgressQ k l).autoIds = s.autoIds := rfl
@[simp] theorem State.setEgressQ_ovfRaised (k : Nat) (l : List Frame) : (s.setEgressQ k l).ovfRaised = s.ovfRaised := rfl
@[simp] theorem State.setEgressQ_fdbEvict (k : Nat) (l : List Frame) : (s.setEgressQ k l).fdbEvict = s.fdbEvict := rfl
@[simp] theorem State.setEgressQ_pipes (k : Nat) (l : List Frame) : (s.setEgressQ k l).pipes = s.pipes := rfl
@[simp] theorem State.setEgressQ_mirrorSink (k : Nat) (l : List Frame) : (s.setEgressQ k l).mirrorSink = s.mirrorSink := rfl
@[simp] theorem State.setEgressQ_buckets (k : Nat) (l : List Frame) : (s.setEgressQ k l).buckets = s.buckets := rfl
@[simp] theorem State.setEgressQ_schools (k : Nat) (l : List Frame) : (s.setEgressQ k l).schools = s.schools := rfl
@[simp] theorem State.setEgressQ_schoolWindows (k : Nat) (l : List Frame) : (s.setEgressQ k l).schoolWindows = s.schoolWindows := rfl
@[simp] theorem State.setEgressQ_unknownRaised (k : Nat) (l : List Frame) : (s.setEgressQ k l).unknownRaised = s.unknownRaised := rfl
@[simp] theorem State.setEgressQ_sgateEntry (k : Nat) (l : List Frame) : (s.setEgressQ k l).sgateEntry = s.sgateEntry := rfl
@[simp] theorem State.setEgressQ_sgateStart (k : Nat) (l : List Frame) : (s.setEgressQ k l).sgateStart = s.sgateStart := rfl
@[simp] theorem State.setEgressQ_stmScrub (k : Nat) (l : List Frame) : (s.setEgressQ k l).stmScrub = s.stmScrub := rfl
@[simp] theorem State.setEgressQ_stored (k : Nat) (l : List Frame) : (s.setEgressQ k l).stored = s.stored := rfl
@[simp] theorem State.setEgressQ_storedNext (k : Nat) (l : List Frame) : (s.setEgressQ k l).storedNext = s.storedNext := rfl
@[simp] theorem State.setEgressQ_voqs (k : Nat) (l : List Frame) : (s.setEgressQ k l).voqs = s.voqs := rfl
@[simp] theorem State.setEgressQ_voqShared (k : Nat) (l : List Frame) : (s.setEgressQ k l).voqShared = s.voqShared := rfl
@[simp] theorem State.setEgressQ_pairs (k : Nat) (l : List Frame) : (s.setEgressQ k l).pairs = s.pairs := rfl
@[simp] theorem State.setEgressQ_grantPtr (k : Nat) (l : List Frame) : (s.setEgressQ k l).grantPtr = s.grantPtr := rfl
@[simp] theorem State.setEgressQ_acceptPtr (k : Nat) (l : List Frame) : (s.setEgressQ k l).acceptPtr = s.acceptPtr := rfl
@[simp] theorem State.setEgressQ_round (k : Nat) (l : List Frame) : (s.setEgressQ k l).round = s.round := rfl
@[simp] theorem State.setEgressQ_poolUsed (k : Nat) (l : List Frame) : (s.setEgressQ k l).poolUsed = s.poolUsed := rfl
@[simp] theorem State.setEgressQ_sharedLow (k : Nat) (l : List Frame) : (s.setEgressQ k l).sharedLow = s.sharedLow := rfl
@[simp] theorem State.setEgressQ_laneLow (k : Nat) (l : List Frame) : (s.setEgressQ k l).laneLow = s.laneLow := rfl
@[simp] theorem State.setEgressQ_eths (k : Nat) (l : List Frame) : (s.setEgressQ k l).eths = s.eths := rfl
@[simp] theorem State.setEgressQ_rxQueues (k : Nat) (l : List Frame) : (s.setEgressQ k l).rxQueues = s.rxQueues := rfl
@[simp] theorem State.setEgressQ_steerHeld (k : Nat) (l : List Frame) : (s.setEgressQ k l).steerHeld = s.steerHeld := rfl
@[simp] theorem State.setEgressQ_cbs (k : Nat) (l : List Frame) : (s.setEgressQ k l).cbs = s.cbs := rfl
@[simp] theorem State.setEgressQ_defaultClass (k : Nat) (l : List Frame) : (s.setEgressQ k l).defaultClass = s.defaultClass := rfl
@[simp] theorem State.setEgressQ_pnWarned (k : Nat) (l : List Frame) : (s.setEgressQ k l).pnWarned = s.pnWarned := rfl
@[simp] theorem State.setEgressQ_pnSpent (k : Nat) (l : List Frame) : (s.setEgressQ k l).pnSpent = s.pnSpent := rfl
@[simp] theorem State.setEgressQ_keySlots (k : Nat) (l : List Frame) : (s.setEgressQ k l).keySlots = s.keySlots := rfl
@[simp] theorem State.setEgressQ_teams (k : Nat) (l : List Frame) : (s.setEgressQ k l).teams = s.teams := rfl
@[simp] theorem State.setEgressQ_sig (k : Nat) (l : List Frame) : (s.setEgressQ k l).sig = s.sig := rfl
@[simp] theorem State.setEgressQ_gw (k : Nat) (l : List Frame) : (s.setEgressQ k l).gw = s.gw := rfl
@[simp] theorem State.setEgressQ_cip (k : Nat) (l : List Frame) : (s.setEgressQ k l).cip = s.cip := rfl
@[simp] theorem State.setEgressQ_tack (k : Nat) (l : List Frame) : (s.setEgressQ k l).tack = s.tack := rfl
@[simp] theorem State.setEgressQ_sclRun (k : Nat) (l : List Frame) : (s.setEgressQ k l).sclRun = s.sclRun := rfl
@[simp] theorem State.setEgressQ_host (k : Nat) (l : List Frame) : (s.setEgressQ k l).host = s.host := rfl
@[simp] theorem State.setEgressQ_super (k : Nat) (l : List Frame) : (s.setEgressQ k l).super = s.super := rfl
@[simp] theorem State.setEgressQ_credit (k : Nat) (l : List Frame) : (s.setEgressQ k l).credit = s.credit := rfl

/-! ### setAper -/

@[simp] theorem State.setAper_pending (a : Nat) (bs : List Byte) : (s.setAper a bs).pending = s.pending := rfl
@[simp] theorem State.setAper_out (a : Nat) (bs : List Byte) : (s.setAper a bs).out = s.out := rfl
@[simp] theorem State.setAper_freeNext (a : Nat) (bs : List Byte) : (s.setAper a bs).freeNext = s.freeNext := rfl
@[simp] theorem State.setAper_variant (a : Nat) (bs : List Byte) : (s.setAper a bs).variant = s.variant := rfl
@[simp] theorem State.setAper_regs (a : Nat) (bs : List Byte) : (s.setAper a bs).regs = s.regs := rfl
@[simp] theorem State.setAper_mram (a : Nat) (bs : List Byte) : (s.setAper a bs).mram = s.mram := rfl
@[simp] theorem State.setAper_rowProgrammed (a : Nat) (bs : List Byte) : (s.setAper a bs).rowProgrammed = s.rowProgrammed := rfl
@[simp] theorem State.setAper_slotA (a : Nat) (bs : List Byte) : (s.setAper a bs).slotA = s.slotA := rfl
@[simp] theorem State.setAper_slotB (a : Nat) (bs : List Byte) : (s.setAper a bs).slotB = s.slotB := rfl
@[simp] theorem State.setAper_genLast (a : Nat) (bs : List Byte) : (s.setAper a bs).genLast = s.genLast := rfl
@[simp] theorem State.setAper_nvmRun (a : Nat) (bs : List Byte) : (s.setAper a bs).nvmRun = s.nvmRun := rfl
@[simp] theorem State.setAper_nvmBuf (a : Nat) (bs : List Byte) : (s.setAper a bs).nvmBuf = s.nvmBuf := rfl
@[simp] theorem State.setAper_farRun (a : Nat) (bs : List Byte) : (s.setAper a bs).farRun = s.farRun := rfl
@[simp] theorem State.setAper_boot (a : Nat) (bs : List Byte) : (s.setAper a bs).boot = s.boot := rfl
@[simp] theorem State.setAper_coldStart (a : Nat) (bs : List Byte) : (s.setAper a bs).coldStart = s.coldStart := rfl
@[simp] theorem State.setAper_coreOn (a : Nat) (bs : List Byte) : (s.setAper a bs).coreOn = s.coreOn := rfl
@[simp] theorem State.setAper_lineOn (a : Nat) (bs : List Byte) : (s.setAper a bs).lineOn = s.lineOn := rfl
@[simp] theorem State.setAper_pdieOn (a : Nat) (bs : List Byte) : (s.setAper a bs).pdieOn = s.pdieOn := rfl
@[simp] theorem State.setAper_cinched (a : Nat) (bs : List Byte) : (s.setAper a bs).cinched = s.cinched := rfl
@[simp] theorem State.setAper_lanesOff (a : Nat) (bs : List Byte) : (s.setAper a bs).lanesOff = s.lanesOff := rfl
@[simp] theorem State.setAper_portsOff (a : Nat) (bs : List Byte) : (s.setAper a bs).portsOff = s.portsOff := rfl
@[simp] theorem State.setAper_teamsOff (a : Nat) (bs : List Byte) : (s.setAper a bs).teamsOff = s.teamsOff := rfl
@[simp] theorem State.setAper_links (a : Nat) (bs : List Byte) : (s.setAper a bs).links = s.links := rfl
@[simp] theorem State.setAper_aclkCalibrated (a : Nat) (bs : List Byte) : (s.setAper a bs).aclkCalibrated = s.aclkCalibrated := rfl
@[simp] theorem State.setAper_owners (a : Nat) (bs : List Byte) : (s.setAper a bs).owners = s.owners := rfl
@[simp] theorem State.setAper_uptime (a : Nat) (bs : List Byte) : (s.setAper a bs).uptime = s.uptime := rfl
@[simp] theorem State.setAper_tmbCount (a : Nat) (bs : List Byte) : (s.setAper a bs).tmbCount = s.tmbCount := rfl
@[simp] theorem State.setAper_tmbOffset (a : Nat) (bs : List Byte) : (s.setAper a bs).tmbOffset = s.tmbOffset := rfl
@[simp] theorem State.setAper_perstLow (a : Nat) (bs : List Byte) : (s.setAper a bs).perstLow = s.perstLow := rfl
@[simp] theorem State.setAper_msix (a : Nat) (bs : List Byte) : (s.setAper a bs).msix = s.msix := rfl
@[simp] theorem State.setAper_msixPending (a : Nat) (bs : List Byte) : (s.setAper a bs).msixPending = s.msixPending := rfl
@[simp] theorem State.setAper_windows (a : Nat) (bs : List Byte) : (s.setAper a bs).windows = s.windows := rfl
@[simp] theorem State.setAper_journal (a : Nat) (bs : List Byte) : (s.setAper a bs).journal = s.journal := rfl
@[simp] theorem State.setAper_journalHeld (a : Nat) (bs : List Byte) : (s.setAper a bs).journalHeld = s.journalHeld := rfl
@[simp] theorem State.setAper_journalSeq (a : Nat) (bs : List Byte) : (s.setAper a bs).journalSeq = s.journalSeq := rfl
@[simp] theorem State.setAper_class0Coalescing (a : Nat) (bs : List Byte) : (s.setAper a bs).class0Coalescing = s.class0Coalescing := rfl
@[simp] theorem State.setAper_bbStaged (a : Nat) (bs : List Byte) : (s.setAper a bs).bbStaged = s.bbStaged := rfl
@[simp] theorem State.setAper_bbSeq (a : Nat) (bs : List Byte) : (s.setAper a bs).bbSeq = s.bbSeq := rfl
@[simp] theorem State.setAper_blackBox (a : Nat) (bs : List Byte) : (s.setAper a bs).blackBox = s.blackBox := rfl
@[simp] theorem State.setAper_lanes (a : Nat) (bs : List Byte) : (s.setAper a bs).lanes = s.lanes := rfl
@[simp] theorem State.setAper_txBufs (a : Nat) (bs : List Byte) : (s.setAper a bs).txBufs = s.txBufs := rfl
@[simp] theorem State.setAper_orderNext (a : Nat) (bs : List Byte) : (s.setAper a bs).orderNext = s.orderNext := rfl
@[simp] theorem State.setAper_egress (a : Nat) (bs : List Byte) : (s.setAper a bs).egress = s.egress := rfl
@[simp] theorem State.setAper_portOwner (a : Nat) (bs : List Byte) : (s.setAper a bs).portOwner = s.portOwner := rfl
@[simp] theorem State.setAper_hobA (a : Nat) (bs : List Byte) : (s.setAper a bs).hobA = s.hobA := rfl
@[simp] theorem State.setAper_hobB (a : Nat) (bs : List Byte) : (s.setAper a bs).hobB = s.hobB := rfl
@[simp] theorem State.setAper_offered (a : Nat) (bs : List Byte) : (s.setAper a bs).offered = s.offered := rfl
@[simp] theorem State.setAper_ticks (a : Nat) (bs : List Byte) : (s.setAper a bs).ticks = s.ticks := rfl
@[simp] theorem State.setAper_wakePlan (a : Nat) (bs : List Byte) : (s.setAper a bs).wakePlan = s.wakePlan := rfl
@[simp] theorem State.setAper_pwk (a : Nat) (bs : List Byte) : (s.setAper a bs).pwk = s.pwk := rfl
@[simp] theorem State.setAper_aonWakeLimit (a : Nat) (bs : List Byte) : (s.setAper a bs).aonWakeLimit = s.aonWakeLimit := rfl
@[simp] theorem State.setAper_aonTamper (a : Nat) (bs : List Byte) : (s.setAper a bs).aonTamper = s.aonTamper := rfl
@[simp] theorem State.setAper_outs (a : Nat) (bs : List Byte) : (s.setAper a bs).outs = s.outs := rfl
@[simp] theorem State.setAper_conv (a : Nat) (bs : List Byte) : (s.setAper a bs).conv = s.conv := rfl
@[simp] theorem State.setAper_groupEnergy (a : Nat) (bs : List Byte) : (s.setAper a bs).groupEnergy = s.groupEnergy := rfl
@[simp] theorem State.setAper_planThresh (a : Nat) (bs : List Byte) : (s.setAper a bs).planThresh = s.planThresh := rfl
@[simp] theorem State.setAper_timeCapture (a : Nat) (bs : List Byte) : (s.setAper a bs).timeCapture = s.timeCapture := rfl
@[simp] theorem State.setAper_tmbInc (a : Nat) (bs : List Byte) : (s.setAper a bs).tmbInc = s.tmbInc := rfl
@[simp] theorem State.setAper_lastReport (a : Nat) (bs : List Byte) : (s.setAper a bs).lastReport = s.lastReport := rfl
@[simp] theorem State.setAper_trigTarget (a : Nat) (bs : List Byte) : (s.setAper a bs).trigTarget = s.trigTarget := rfl
@[simp] theorem State.setAper_trigLate (a : Nat) (bs : List Byte) : (s.setAper a bs).trigLate = s.trigLate := rfl
@[simp] theorem State.setAper_pulses (a : Nat) (bs : List Byte) : (s.setAper a bs).pulses = s.pulses := rfl
@[simp] theorem State.setAper_captures (a : Nat) (bs : List Byte) : (s.setAper a bs).captures = s.captures := rfl
@[simp] theorem State.setAper_ptpRx (a : Nat) (bs : List Byte) : (s.setAper a bs).ptpRx = s.ptpRx := rfl
@[simp] theorem State.setAper_ptpTx (a : Nat) (bs : List Byte) : (s.setAper a bs).ptpTx = s.ptpTx := rfl
@[simp] theorem State.setAper_portGates (a : Nat) (bs : List Byte) : (s.setAper a bs).portGates = s.portGates := rfl
@[simp] theorem State.setAper_badEntries (a : Nat) (bs : List Byte) : (s.setAper a bs).badEntries = s.badEntries := rfl
@[simp] theorem State.setAper_tags (a : Nat) (bs : List Byte) : (s.setAper a bs).tags = s.tags := rfl
@[simp] theorem State.setAper_sealedAt (a : Nat) (bs : List Byte) : (s.setAper a bs).sealedAt = s.sealedAt := rfl
@[simp] theorem State.setAper_aperImage (a : Nat) (bs : List Byte) : (s.setAper a bs).aperImage = s.aperImage := rfl
@[simp] theorem State.setAper_repairs (a : Nat) (bs : List Byte) : (s.setAper a bs).repairs = s.repairs := rfl
@[simp] theorem State.setAper_autoIds (a : Nat) (bs : List Byte) : (s.setAper a bs).autoIds = s.autoIds := rfl
@[simp] theorem State.setAper_ovfRaised (a : Nat) (bs : List Byte) : (s.setAper a bs).ovfRaised = s.ovfRaised := rfl
@[simp] theorem State.setAper_fdbEvict (a : Nat) (bs : List Byte) : (s.setAper a bs).fdbEvict = s.fdbEvict := rfl
@[simp] theorem State.setAper_pipes (a : Nat) (bs : List Byte) : (s.setAper a bs).pipes = s.pipes := rfl
@[simp] theorem State.setAper_mirrorSink (a : Nat) (bs : List Byte) : (s.setAper a bs).mirrorSink = s.mirrorSink := rfl
@[simp] theorem State.setAper_buckets (a : Nat) (bs : List Byte) : (s.setAper a bs).buckets = s.buckets := rfl
@[simp] theorem State.setAper_schools (a : Nat) (bs : List Byte) : (s.setAper a bs).schools = s.schools := rfl
@[simp] theorem State.setAper_schoolWindows (a : Nat) (bs : List Byte) : (s.setAper a bs).schoolWindows = s.schoolWindows := rfl
@[simp] theorem State.setAper_unknownRaised (a : Nat) (bs : List Byte) : (s.setAper a bs).unknownRaised = s.unknownRaised := rfl
@[simp] theorem State.setAper_sgateEntry (a : Nat) (bs : List Byte) : (s.setAper a bs).sgateEntry = s.sgateEntry := rfl
@[simp] theorem State.setAper_sgateStart (a : Nat) (bs : List Byte) : (s.setAper a bs).sgateStart = s.sgateStart := rfl
@[simp] theorem State.setAper_stmScrub (a : Nat) (bs : List Byte) : (s.setAper a bs).stmScrub = s.stmScrub := rfl
@[simp] theorem State.setAper_stored (a : Nat) (bs : List Byte) : (s.setAper a bs).stored = s.stored := rfl
@[simp] theorem State.setAper_storedNext (a : Nat) (bs : List Byte) : (s.setAper a bs).storedNext = s.storedNext := rfl
@[simp] theorem State.setAper_voqs (a : Nat) (bs : List Byte) : (s.setAper a bs).voqs = s.voqs := rfl
@[simp] theorem State.setAper_voqShared (a : Nat) (bs : List Byte) : (s.setAper a bs).voqShared = s.voqShared := rfl
@[simp] theorem State.setAper_pairs (a : Nat) (bs : List Byte) : (s.setAper a bs).pairs = s.pairs := rfl
@[simp] theorem State.setAper_grantPtr (a : Nat) (bs : List Byte) : (s.setAper a bs).grantPtr = s.grantPtr := rfl
@[simp] theorem State.setAper_acceptPtr (a : Nat) (bs : List Byte) : (s.setAper a bs).acceptPtr = s.acceptPtr := rfl
@[simp] theorem State.setAper_round (a : Nat) (bs : List Byte) : (s.setAper a bs).round = s.round := rfl
@[simp] theorem State.setAper_poolUsed (a : Nat) (bs : List Byte) : (s.setAper a bs).poolUsed = s.poolUsed := rfl
@[simp] theorem State.setAper_sharedLow (a : Nat) (bs : List Byte) : (s.setAper a bs).sharedLow = s.sharedLow := rfl
@[simp] theorem State.setAper_laneLow (a : Nat) (bs : List Byte) : (s.setAper a bs).laneLow = s.laneLow := rfl
@[simp] theorem State.setAper_eths (a : Nat) (bs : List Byte) : (s.setAper a bs).eths = s.eths := rfl
@[simp] theorem State.setAper_rxQueues (a : Nat) (bs : List Byte) : (s.setAper a bs).rxQueues = s.rxQueues := rfl
@[simp] theorem State.setAper_steerHeld (a : Nat) (bs : List Byte) : (s.setAper a bs).steerHeld = s.steerHeld := rfl
@[simp] theorem State.setAper_cbs (a : Nat) (bs : List Byte) : (s.setAper a bs).cbs = s.cbs := rfl
@[simp] theorem State.setAper_defaultClass (a : Nat) (bs : List Byte) : (s.setAper a bs).defaultClass = s.defaultClass := rfl
@[simp] theorem State.setAper_pnWarned (a : Nat) (bs : List Byte) : (s.setAper a bs).pnWarned = s.pnWarned := rfl
@[simp] theorem State.setAper_pnSpent (a : Nat) (bs : List Byte) : (s.setAper a bs).pnSpent = s.pnSpent := rfl
@[simp] theorem State.setAper_keySlots (a : Nat) (bs : List Byte) : (s.setAper a bs).keySlots = s.keySlots := rfl
@[simp] theorem State.setAper_teams (a : Nat) (bs : List Byte) : (s.setAper a bs).teams = s.teams := rfl
@[simp] theorem State.setAper_sig (a : Nat) (bs : List Byte) : (s.setAper a bs).sig = s.sig := rfl
@[simp] theorem State.setAper_gw (a : Nat) (bs : List Byte) : (s.setAper a bs).gw = s.gw := rfl
@[simp] theorem State.setAper_cip (a : Nat) (bs : List Byte) : (s.setAper a bs).cip = s.cip := rfl
@[simp] theorem State.setAper_tack (a : Nat) (bs : List Byte) : (s.setAper a bs).tack = s.tack := rfl
@[simp] theorem State.setAper_sclRun (a : Nat) (bs : List Byte) : (s.setAper a bs).sclRun = s.sclRun := rfl
@[simp] theorem State.setAper_host (a : Nat) (bs : List Byte) : (s.setAper a bs).host = s.host := rfl
@[simp] theorem State.setAper_super (a : Nat) (bs : List Byte) : (s.setAper a bs).super = s.super := rfl
@[simp] theorem State.setAper_credit (a : Nat) (bs : List Byte) : (s.setAper a bs).credit = s.credit := rfl

/-! ### setWindow -/

@[simp] theorem State.setWindow_pending (src : Nat) (w : Window) : (s.setWindow src w).pending = s.pending := rfl
@[simp] theorem State.setWindow_out (src : Nat) (w : Window) : (s.setWindow src w).out = s.out := rfl
@[simp] theorem State.setWindow_freeNext (src : Nat) (w : Window) : (s.setWindow src w).freeNext = s.freeNext := rfl
@[simp] theorem State.setWindow_variant (src : Nat) (w : Window) : (s.setWindow src w).variant = s.variant := rfl
@[simp] theorem State.setWindow_regs (src : Nat) (w : Window) : (s.setWindow src w).regs = s.regs := rfl
@[simp] theorem State.setWindow_aper (src : Nat) (w : Window) : (s.setWindow src w).aper = s.aper := rfl
@[simp] theorem State.setWindow_mram (src : Nat) (w : Window) : (s.setWindow src w).mram = s.mram := rfl
@[simp] theorem State.setWindow_rowProgrammed (src : Nat) (w : Window) : (s.setWindow src w).rowProgrammed = s.rowProgrammed := rfl
@[simp] theorem State.setWindow_slotA (src : Nat) (w : Window) : (s.setWindow src w).slotA = s.slotA := rfl
@[simp] theorem State.setWindow_slotB (src : Nat) (w : Window) : (s.setWindow src w).slotB = s.slotB := rfl
@[simp] theorem State.setWindow_genLast (src : Nat) (w : Window) : (s.setWindow src w).genLast = s.genLast := rfl
@[simp] theorem State.setWindow_nvmRun (src : Nat) (w : Window) : (s.setWindow src w).nvmRun = s.nvmRun := rfl
@[simp] theorem State.setWindow_nvmBuf (src : Nat) (w : Window) : (s.setWindow src w).nvmBuf = s.nvmBuf := rfl
@[simp] theorem State.setWindow_farRun (src : Nat) (w : Window) : (s.setWindow src w).farRun = s.farRun := rfl
@[simp] theorem State.setWindow_boot (src : Nat) (w : Window) : (s.setWindow src w).boot = s.boot := rfl
@[simp] theorem State.setWindow_coldStart (src : Nat) (w : Window) : (s.setWindow src w).coldStart = s.coldStart := rfl
@[simp] theorem State.setWindow_coreOn (src : Nat) (w : Window) : (s.setWindow src w).coreOn = s.coreOn := rfl
@[simp] theorem State.setWindow_lineOn (src : Nat) (w : Window) : (s.setWindow src w).lineOn = s.lineOn := rfl
@[simp] theorem State.setWindow_pdieOn (src : Nat) (w : Window) : (s.setWindow src w).pdieOn = s.pdieOn := rfl
@[simp] theorem State.setWindow_cinched (src : Nat) (w : Window) : (s.setWindow src w).cinched = s.cinched := rfl
@[simp] theorem State.setWindow_lanesOff (src : Nat) (w : Window) : (s.setWindow src w).lanesOff = s.lanesOff := rfl
@[simp] theorem State.setWindow_portsOff (src : Nat) (w : Window) : (s.setWindow src w).portsOff = s.portsOff := rfl
@[simp] theorem State.setWindow_teamsOff (src : Nat) (w : Window) : (s.setWindow src w).teamsOff = s.teamsOff := rfl
@[simp] theorem State.setWindow_links (src : Nat) (w : Window) : (s.setWindow src w).links = s.links := rfl
@[simp] theorem State.setWindow_aclkCalibrated (src : Nat) (w : Window) : (s.setWindow src w).aclkCalibrated = s.aclkCalibrated := rfl
@[simp] theorem State.setWindow_owners (src : Nat) (w : Window) : (s.setWindow src w).owners = s.owners := rfl
@[simp] theorem State.setWindow_uptime (src : Nat) (w : Window) : (s.setWindow src w).uptime = s.uptime := rfl
@[simp] theorem State.setWindow_tmbCount (src : Nat) (w : Window) : (s.setWindow src w).tmbCount = s.tmbCount := rfl
@[simp] theorem State.setWindow_tmbOffset (src : Nat) (w : Window) : (s.setWindow src w).tmbOffset = s.tmbOffset := rfl
@[simp] theorem State.setWindow_perstLow (src : Nat) (w : Window) : (s.setWindow src w).perstLow = s.perstLow := rfl
@[simp] theorem State.setWindow_msix (src : Nat) (w : Window) : (s.setWindow src w).msix = s.msix := rfl
@[simp] theorem State.setWindow_msixPending (src : Nat) (w : Window) : (s.setWindow src w).msixPending = s.msixPending := rfl
@[simp] theorem State.setWindow_journal (src : Nat) (w : Window) : (s.setWindow src w).journal = s.journal := rfl
@[simp] theorem State.setWindow_journalHeld (src : Nat) (w : Window) : (s.setWindow src w).journalHeld = s.journalHeld := rfl
@[simp] theorem State.setWindow_journalSeq (src : Nat) (w : Window) : (s.setWindow src w).journalSeq = s.journalSeq := rfl
@[simp] theorem State.setWindow_class0Coalescing (src : Nat) (w : Window) : (s.setWindow src w).class0Coalescing = s.class0Coalescing := rfl
@[simp] theorem State.setWindow_bbStaged (src : Nat) (w : Window) : (s.setWindow src w).bbStaged = s.bbStaged := rfl
@[simp] theorem State.setWindow_bbSeq (src : Nat) (w : Window) : (s.setWindow src w).bbSeq = s.bbSeq := rfl
@[simp] theorem State.setWindow_blackBox (src : Nat) (w : Window) : (s.setWindow src w).blackBox = s.blackBox := rfl
@[simp] theorem State.setWindow_lanes (src : Nat) (w : Window) : (s.setWindow src w).lanes = s.lanes := rfl
@[simp] theorem State.setWindow_txBufs (src : Nat) (w : Window) : (s.setWindow src w).txBufs = s.txBufs := rfl
@[simp] theorem State.setWindow_orderNext (src : Nat) (w : Window) : (s.setWindow src w).orderNext = s.orderNext := rfl
@[simp] theorem State.setWindow_egress (src : Nat) (w : Window) : (s.setWindow src w).egress = s.egress := rfl
@[simp] theorem State.setWindow_portOwner (src : Nat) (w : Window) : (s.setWindow src w).portOwner = s.portOwner := rfl
@[simp] theorem State.setWindow_hobA (src : Nat) (w : Window) : (s.setWindow src w).hobA = s.hobA := rfl
@[simp] theorem State.setWindow_hobB (src : Nat) (w : Window) : (s.setWindow src w).hobB = s.hobB := rfl
@[simp] theorem State.setWindow_offered (src : Nat) (w : Window) : (s.setWindow src w).offered = s.offered := rfl
@[simp] theorem State.setWindow_ticks (src : Nat) (w : Window) : (s.setWindow src w).ticks = s.ticks := rfl
@[simp] theorem State.setWindow_wakePlan (src : Nat) (w : Window) : (s.setWindow src w).wakePlan = s.wakePlan := rfl
@[simp] theorem State.setWindow_pwk (src : Nat) (w : Window) : (s.setWindow src w).pwk = s.pwk := rfl
@[simp] theorem State.setWindow_aonWakeLimit (src : Nat) (w : Window) : (s.setWindow src w).aonWakeLimit = s.aonWakeLimit := rfl
@[simp] theorem State.setWindow_aonTamper (src : Nat) (w : Window) : (s.setWindow src w).aonTamper = s.aonTamper := rfl
@[simp] theorem State.setWindow_outs (src : Nat) (w : Window) : (s.setWindow src w).outs = s.outs := rfl
@[simp] theorem State.setWindow_conv (src : Nat) (w : Window) : (s.setWindow src w).conv = s.conv := rfl
@[simp] theorem State.setWindow_groupEnergy (src : Nat) (w : Window) : (s.setWindow src w).groupEnergy = s.groupEnergy := rfl
@[simp] theorem State.setWindow_planThresh (src : Nat) (w : Window) : (s.setWindow src w).planThresh = s.planThresh := rfl
@[simp] theorem State.setWindow_timeCapture (src : Nat) (w : Window) : (s.setWindow src w).timeCapture = s.timeCapture := rfl
@[simp] theorem State.setWindow_tmbInc (src : Nat) (w : Window) : (s.setWindow src w).tmbInc = s.tmbInc := rfl
@[simp] theorem State.setWindow_lastReport (src : Nat) (w : Window) : (s.setWindow src w).lastReport = s.lastReport := rfl
@[simp] theorem State.setWindow_trigTarget (src : Nat) (w : Window) : (s.setWindow src w).trigTarget = s.trigTarget := rfl
@[simp] theorem State.setWindow_trigLate (src : Nat) (w : Window) : (s.setWindow src w).trigLate = s.trigLate := rfl
@[simp] theorem State.setWindow_pulses (src : Nat) (w : Window) : (s.setWindow src w).pulses = s.pulses := rfl
@[simp] theorem State.setWindow_captures (src : Nat) (w : Window) : (s.setWindow src w).captures = s.captures := rfl
@[simp] theorem State.setWindow_ptpRx (src : Nat) (w : Window) : (s.setWindow src w).ptpRx = s.ptpRx := rfl
@[simp] theorem State.setWindow_ptpTx (src : Nat) (w : Window) : (s.setWindow src w).ptpTx = s.ptpTx := rfl
@[simp] theorem State.setWindow_portGates (src : Nat) (w : Window) : (s.setWindow src w).portGates = s.portGates := rfl
@[simp] theorem State.setWindow_badEntries (src : Nat) (w : Window) : (s.setWindow src w).badEntries = s.badEntries := rfl
@[simp] theorem State.setWindow_tags (src : Nat) (w : Window) : (s.setWindow src w).tags = s.tags := rfl
@[simp] theorem State.setWindow_sealedAt (src : Nat) (w : Window) : (s.setWindow src w).sealedAt = s.sealedAt := rfl
@[simp] theorem State.setWindow_aperImage (src : Nat) (w : Window) : (s.setWindow src w).aperImage = s.aperImage := rfl
@[simp] theorem State.setWindow_repairs (src : Nat) (w : Window) : (s.setWindow src w).repairs = s.repairs := rfl
@[simp] theorem State.setWindow_autoIds (src : Nat) (w : Window) : (s.setWindow src w).autoIds = s.autoIds := rfl
@[simp] theorem State.setWindow_ovfRaised (src : Nat) (w : Window) : (s.setWindow src w).ovfRaised = s.ovfRaised := rfl
@[simp] theorem State.setWindow_fdbEvict (src : Nat) (w : Window) : (s.setWindow src w).fdbEvict = s.fdbEvict := rfl
@[simp] theorem State.setWindow_pipes (src : Nat) (w : Window) : (s.setWindow src w).pipes = s.pipes := rfl
@[simp] theorem State.setWindow_mirrorSink (src : Nat) (w : Window) : (s.setWindow src w).mirrorSink = s.mirrorSink := rfl
@[simp] theorem State.setWindow_buckets (src : Nat) (w : Window) : (s.setWindow src w).buckets = s.buckets := rfl
@[simp] theorem State.setWindow_schools (src : Nat) (w : Window) : (s.setWindow src w).schools = s.schools := rfl
@[simp] theorem State.setWindow_schoolWindows (src : Nat) (w : Window) : (s.setWindow src w).schoolWindows = s.schoolWindows := rfl
@[simp] theorem State.setWindow_unknownRaised (src : Nat) (w : Window) : (s.setWindow src w).unknownRaised = s.unknownRaised := rfl
@[simp] theorem State.setWindow_sgateEntry (src : Nat) (w : Window) : (s.setWindow src w).sgateEntry = s.sgateEntry := rfl
@[simp] theorem State.setWindow_sgateStart (src : Nat) (w : Window) : (s.setWindow src w).sgateStart = s.sgateStart := rfl
@[simp] theorem State.setWindow_stmScrub (src : Nat) (w : Window) : (s.setWindow src w).stmScrub = s.stmScrub := rfl
@[simp] theorem State.setWindow_stored (src : Nat) (w : Window) : (s.setWindow src w).stored = s.stored := rfl
@[simp] theorem State.setWindow_storedNext (src : Nat) (w : Window) : (s.setWindow src w).storedNext = s.storedNext := rfl
@[simp] theorem State.setWindow_voqs (src : Nat) (w : Window) : (s.setWindow src w).voqs = s.voqs := rfl
@[simp] theorem State.setWindow_voqShared (src : Nat) (w : Window) : (s.setWindow src w).voqShared = s.voqShared := rfl
@[simp] theorem State.setWindow_pairs (src : Nat) (w : Window) : (s.setWindow src w).pairs = s.pairs := rfl
@[simp] theorem State.setWindow_grantPtr (src : Nat) (w : Window) : (s.setWindow src w).grantPtr = s.grantPtr := rfl
@[simp] theorem State.setWindow_acceptPtr (src : Nat) (w : Window) : (s.setWindow src w).acceptPtr = s.acceptPtr := rfl
@[simp] theorem State.setWindow_round (src : Nat) (w : Window) : (s.setWindow src w).round = s.round := rfl
@[simp] theorem State.setWindow_poolUsed (src : Nat) (w : Window) : (s.setWindow src w).poolUsed = s.poolUsed := rfl
@[simp] theorem State.setWindow_sharedLow (src : Nat) (w : Window) : (s.setWindow src w).sharedLow = s.sharedLow := rfl
@[simp] theorem State.setWindow_laneLow (src : Nat) (w : Window) : (s.setWindow src w).laneLow = s.laneLow := rfl
@[simp] theorem State.setWindow_eths (src : Nat) (w : Window) : (s.setWindow src w).eths = s.eths := rfl
@[simp] theorem State.setWindow_rxQueues (src : Nat) (w : Window) : (s.setWindow src w).rxQueues = s.rxQueues := rfl
@[simp] theorem State.setWindow_steerHeld (src : Nat) (w : Window) : (s.setWindow src w).steerHeld = s.steerHeld := rfl
@[simp] theorem State.setWindow_cbs (src : Nat) (w : Window) : (s.setWindow src w).cbs = s.cbs := rfl
@[simp] theorem State.setWindow_defaultClass (src : Nat) (w : Window) : (s.setWindow src w).defaultClass = s.defaultClass := rfl
@[simp] theorem State.setWindow_pnWarned (src : Nat) (w : Window) : (s.setWindow src w).pnWarned = s.pnWarned := rfl
@[simp] theorem State.setWindow_pnSpent (src : Nat) (w : Window) : (s.setWindow src w).pnSpent = s.pnSpent := rfl
@[simp] theorem State.setWindow_keySlots (src : Nat) (w : Window) : (s.setWindow src w).keySlots = s.keySlots := rfl
@[simp] theorem State.setWindow_teams (src : Nat) (w : Window) : (s.setWindow src w).teams = s.teams := rfl
@[simp] theorem State.setWindow_sig (src : Nat) (w : Window) : (s.setWindow src w).sig = s.sig := rfl
@[simp] theorem State.setWindow_gw (src : Nat) (w : Window) : (s.setWindow src w).gw = s.gw := rfl
@[simp] theorem State.setWindow_cip (src : Nat) (w : Window) : (s.setWindow src w).cip = s.cip := rfl
@[simp] theorem State.setWindow_tack (src : Nat) (w : Window) : (s.setWindow src w).tack = s.tack := rfl
@[simp] theorem State.setWindow_sclRun (src : Nat) (w : Window) : (s.setWindow src w).sclRun = s.sclRun := rfl
@[simp] theorem State.setWindow_host (src : Nat) (w : Window) : (s.setWindow src w).host = s.host := rfl
@[simp] theorem State.setWindow_super (src : Nat) (w : Window) : (s.setWindow src w).super = s.super := rfl
@[simp] theorem State.setWindow_credit (src : Nat) (w : Window) : (s.setWindow src w).credit = s.credit := rfl

end Sys2Proof.Machine
end

