-- ==== Sys2Proof/Laws/Registers.lean ====
section
/-!
SUPPORT. The laws of registers, register fields and the unit records: what reads as written, and what every other read
gives after a write.
-/

namespace Sys2Proof.Machine

/-! ### Registers -/

@[simp] theorem State.reg_setReg_same (s : State) (a : Nat) (v : Word) : (s.setReg a v).reg a = v := by
  simp [State.reg, State.setReg]

theorem State.reg_setReg_other (s : State) {a b : Nat} (v : Word) (h : b ≠ a) : (s.setReg a v).reg b = s.reg b :=
  look_put_other _ _ _ h

theorem State.reg_setReg (s : State) (a b : Nat) (v : Word) : (s.setReg a v).reg b = if b = a then v else s.reg b :=
  look_put _ _ _ _ _

theorem State.reg_fset_other (s : State) {f : Fld} {b : Nat} (n : Nat) (h : b ≠ f.addr) : (s.fset f n).reg b = s.reg b :=
  State.reg_setReg_other s _ h

@[simp] theorem State.reg_fset_same (s : State) (f : Fld) (n : Nat) :
    (s.fset f n).reg f.addr = setField (s.reg f.addr) f.hi f.lo n := by simp [State.fset]

/-- A field read after a write of it. -/
theorem State.fget_fset_same (s : State) {f : Fld} (n : Nat) (h : f.hi < 32) :
    (s.fset f n).fget f = n % 2 ^ (f.hi + 1 - f.lo) := by
  rw [State.fget, State.reg_fset_same, getField_setField_same _ _ h]

/-- A field read after a write of a field of another register, or of other bits of the same one. -/
theorem State.fget_fset_other (s : State) {f g : Fld} (n : Nat) (h : g.addr ≠ f.addr ∨ g.lo > f.hi ∨ g.hi < f.lo)
    (hb : g.hi < 32) : (s.fset f n).fget g = s.fget g := by
  by_cases ha : g.addr = f.addr
  · have : f.hi < g.lo ∨ g.hi < f.lo := by omega
    rw [State.fget, State.fget, ha, State.reg_fset_same, getField_setField_other _ _ this hb]
  · rw [State.fget, State.fget, State.reg_fset_other s n ha]

theorem State.fget_setReg_other (s : State) {a : Nat} {g : Fld} (v : Word) (h : g.addr ≠ a) :
    (s.setReg a v).fget g = s.fget g := by rw [State.fget, State.fget, State.reg_setReg_other s v h]

@[simp] theorem State.fget_setReg_same (s : State) (v : Word) (g : Fld) :
    (s.setReg g.addr v).fget g = getField v g.hi g.lo := by rw [State.fget, State.reg_setReg_same]

/-- Updates outside the register map leave every register as it is. -/
theorem State.reg_congr {s t : State} (h : t.regs = s.regs) (a : Nat) : t.reg a = s.reg a := by
  rw [State.reg, State.reg, h]

theorem State.fget_congr {s t : State} (h : t.regs = s.regs) (f : Fld) : t.fget f = s.fget f := by
  rw [State.fget, State.fget, State.reg_congr h]

/-! ### Unit records -/

@[simp] theorem State.lane_setLane_same (s : State) (n : Nat) (l : Lane) : (s.setLane n l).lane n = l := by
  simp [State.lane, State.setLane]

theorem State.lane_setLane_other (s : State) {n m : Nat} (l : Lane) (h : m ≠ n) : (s.setLane n l).lane m = s.lane m :=
  look_put_other _ _ _ h

@[simp] theorem State.eth_setEth_same (s : State) (n : Nat) (e : Eth) : (s.setEth n e).eth n = e := by
  simp [State.eth, State.setEth]

theorem State.eth_setEth_other (s : State) {n m : Nat} (e : Eth) (h : m ≠ n) : (s.setEth n e).eth m = s.eth m :=
  look_put_other _ _ _ h

@[simp] theorem State.owner_setOwner_same (s : State) (o : Nat) (r : Owner) : (s.setOwner o r).owner o = r := by
  simp [State.owner, State.setOwner]

theorem State.owner_setOwner_other (s : State) {o p : Nat} (r : Owner) (h : p ≠ o) : (s.setOwner o r).owner p = s.owner p :=
  look_put_other _ _ _ h

@[simp] theorem State.link_setLink_same (s : State) (k : Nat) (l : DieLink) : (s.setLink k l).link k = l := by
  simp [State.link, State.setLink]

theorem State.link_setLink_other (s : State) {k j : Nat} (l : DieLink) (h : j ≠ k) : (s.setLink k l).link j = s.link j :=
  look_put_other _ _ _ h

@[simp] theorem State.egressQ_setEgressQ_same (s : State) (k : Nat) (l : List Frame) :
    (s.setEgressQ k l).egressQ k = l := by simp [State.egressQ, State.setEgressQ]

theorem State.egressQ_setEgressQ_other (s : State) {k j : Nat} (l : List Frame) (h : j ≠ k) :
    (s.setEgressQ k l).egressQ j = s.egressQ j := look_put_other _ _ _ h

@[simp] theorem State.tx_setTx_same (s : State) (n k : Nat) (b : TxBuf) : (s.setTx n k b).tx n k = b := by
  simp [State.tx, State.setTx]

@[simp] theorem State.window_setWindow_same (s : State) (src : Nat) (w : Window) : (s.setWindow src w).window src = w := by
  simp [State.window, State.setWindow]

end Sys2Proof.Machine
end

