-- ==== Sys2Proof/Laws/Courser.lean ====
section
/-!
SUPPORT. The laws of a Courser's registers and of the shared operations of its instructions: what a write of a general
register gives, what `issue` does with a word, and what the end of an instruction leaves.
-/

namespace Sys2Proof.Machine

/-! ### Coursers and general registers -/

@[simp] theorem State.crs_setCrs_same (s : State) (k : Nat) (c : Courser) : (s.setCrs k c).crs k = c := by
  simp [State.crs, State.setCrs]

theorem State.crs_setCrs_other (s : State) {k j : Nat} (c : Courser) (h : j ≠ k) : (s.setCrs k c).crs j = s.crs j :=
  look_put_other _ _ _ h

@[simp] theorem State.greg_setCrs (s : State) (k j r : Nat) (c : Courser) : (s.setCrs k c).greg j r = s.greg j r := rfl
@[simp] theorem State.reg_setCrs (s : State) (k a : Nat) (c : Courser) : (s.setCrs k c).reg a = s.reg a := rfl

@[simp] theorem State.crs_setGreg (s : State) (k r j : Nat) (v : Word) : (s.setGreg k r v).crs j = s.crs j := by
  unfold State.setGreg; split <;> rfl
@[simp] theorem State.reg_setGreg (s : State) (k r a : Nat) (v : Word) : (s.setGreg k r v).reg a = s.reg a := by
  unfold State.setGreg; split <;> rfl
@[simp] theorem State.dmem_setGreg (s : State) (k r : Nat) (v : Word) :
    (s.setGreg k r v).teams.dmem = s.teams.dmem := by unfold State.setGreg; split <;> rfl

/-- Courser k's registers after a write of rd. -/
theorem State.greg_setGreg_own (s : State) (k rd r : Nat) (v : Word) :
    (s.setGreg k rd v).greg k r = s.gregWith k rd v r := by
  unfold State.setGreg State.gregWith State.greg
  by_cases hd : rd = 0
  · simp [hd]
  · by_cases hr : r = 0
    · simp [hd, hr, Ne.symm hd]
    · by_cases h : r = rd
      · subst h; simp [hr]
      · simp [hd, hr, h, look_put]

/-- Another Courser's registers after a write. -/
theorem State.greg_setGreg_other (s : State) {k j rd r : Nat} (v : Word) (hj : j ≠ k) (hd : rd < 32) (hr : r < 32) :
    (s.setGreg k rd v).greg j r = s.greg j r := by
  unfold State.setGreg State.greg
  by_cases h0 : rd = 0
  · simp [h0]
  · simp [h0, look_put, show ¬ 32 * j + r = 32 * k + rd by omega]

@[simp] theorem State.greg_crsGo (s : State) (k pc n j r : Nat) : (s.crsGo k pc n).greg j r = s.greg j r := rfl

/-! ### The end of an instruction -/

/-- An instruction that goes on and writes no general register. -/
theorem CourserRan.of_go (s : State) (k pc cycles : Nat) : CourserRan s (s.crsGo k pc cycles) k (pc % 4096) cycles (s.greg k) where
  courser := by
    show (s.setCrs k { s.crs k with pc := pc % 4096, missed := false, published := 0 }).crs k = _
    simp
  gregs := fun _ _ => rfl
  others := fun j r hj _ => ⟨State.crs_setCrs_other s _ hj, rfl⟩
  busy := by
    unfold State.crsGo State.addSat
    rw [State.reg_setReg_same]; rfl
  map := fun a ha => by
    unfold State.crsGo State.addSat
    rw [State.reg_setReg_other _ _ ha]; rfl
  teams := rfl
  rest := rfl

/-- An instruction that writes one general register and goes to a word address. -/
theorem CourserRan.of_write_go (s : State) (k rd pc cycles : Nat) (v : Word) (hd : rd < 32) :
    CourserRan s ((s.setGreg k rd v).crsGo k pc cycles) k (pc % 4096) cycles (s.gregWith k rd v) where
  courser := by
    show ((s.setGreg k rd v).setCrs k { (s.setGreg k rd v).crs k with pc := pc % 4096, missed := false, published := 0 }).crs k = _
    simp
  gregs := fun r _ => State.greg_setGreg_own s k rd r v
  others := fun j r hj hr => ⟨by
    show ((s.setGreg k rd v).setCrs k _).crs j = _
    rw [State.crs_setCrs_other _ _ hj, State.crs_setGreg], State.greg_setGreg_other s v hj hd hr⟩
  busy := by
    unfold State.crsGo State.addSat
    rw [State.reg_setReg_same]; simp
  map := fun a ha => by
    unfold State.crsGo State.addSat
    rw [State.reg_setReg_other _ _ ha]; simp
  teams := by unfold State.setGreg; split <;> rfl
  rest := by unfold State.setGreg; split <;> rfl

/-- An instruction that writes one general register and goes on with the next word. -/
theorem CourserRan.of_writeback (s : State) (k rd cycles : Nat) (v : Word) (hd : rd < 32) :
    CourserRan s (s.crsWriteback k rd v cycles) k (s.pcNext k) cycles (s.gregWith k rd v) := by
  have h := CourserRan.of_write_go s k rd ((s.crs k).pc + 1) cycles v hd
  simpa [State.crsWriteback, State.crsNext, State.pcNext] using h

@[simp] theorem State.dmem_crsGo (s : State) (k pc cycles : Nat) : (s.crsGo k pc cycles).teams.dmem = s.teams.dmem := rfl
@[simp] theorem State.dmem_crsWriteback (s : State) (k rd cycles : Nat) (v : Word) :
    (s.crsWriteback k rd v cycles).teams.dmem = s.teams.dmem := by
  show (s.setGreg k rd v).teams.dmem = _
  simp

/-! ### Issue -/

/-- An issued, defined word of the instruction's own op and func, well formed and without an error in instruction memory,
takes the instruction's effect. -/
theorem State.issue_effect {s : State} {k w op func : Nat} {ecc : EccHit} {ok : Nat → Bool} {eff : Nat → State → State}
    (h : s.Issues k w) (he : ecc ≠ .imem) (hd : opDefined w = true) (ho : opOf w = op) (hf : op = 0 → funcOf w = func)
    (hok : ok w = true) : s.issue k ecc op func ok eff = eff w s := by
  obtain ⟨hi, hw⟩ := h
  subst ho
  unfold State.issue
  by_cases h0 : opOf w = 0
  · simp [hi, hw, he, hd, hok, h0, hf h0]
  · simp [hi, hw, he, hd, hok, h0]

/-- An issued word of the instruction's own op and func that is not well formed raises ILLEGAL. -/
theorem State.issue_illegal {s : State} {k w op func : Nat} {ecc : EccHit} {ok : Nat → Bool} {eff : Nat → State → State}
    (h : s.Issues k w) (he : ecc ≠ .imem) (hd : opDefined w = true) (ho : opOf w = op) (hf : op = 0 → funcOf w = func)
    (hok : ok w = false) : s.issue k ecc op func ok eff = s.crsExcept k 1 w := by
  obtain ⟨hi, hw⟩ := h
  subst ho
  unfold State.issue
  by_cases h0 : opOf w = 0
  · simp [hi, hw, he, hd, hok, h0, hf h0]
  · simp [hi, hw, he, hd, hok, h0]

/-- A Courser that does not issue is left as it is. -/
theorem State.issue_idle {s : State} {k op func : Nat} {ecc : EccHit} {ok : Nat → Bool} {eff : Nat → State → State}
    (h : s.crsIssues k = false) : s.issue k ecc op func ok eff = s := by simp [State.issue, h]

end Sys2Proof.Machine
end

