-- ==== Sys2Proof/Laws/Events.lean ====
section
/-!
SUPPORT. All that raising an event source can do (R499 to R507): it changes the event controller's and the host port's
registers, the messages driven out, the MSI-X pending bits, the windows, the journal and the black box, and nothing else.
-/

namespace Sys2Proof.Machine

/-- `t` is `s` but for the event controller (R495 to R509) and the host port's message counter, link state and pending bits. -/
def OnlyEvents (s t : State) : Prop :=
  ∃ rg ou mp wi jo jh js cc st bs, t = { s with
      regs := rg, out := ou, msixPending := mp, windows := wi, journal := jo, journalHeld := jh, journalSeq := js,
      class0Coalescing := cc, bbStaged := st, bbSeq := bs } ∧
    ∀ a, ¬(0x20000 ≤ a ∧ a < 0x30000) → ¬(0x40000 ≤ a ∧ a < 0x50000) → t.reg a = s.reg a

theorem OnlyEvents.refl (s : State) : OnlyEvents s s := ⟨_, _, _, _, _, _, _, _, _, _, rfl, fun _ _ _ => rfl⟩

theorem OnlyEvents.trans {s t u : State} (h : OnlyEvents s t) (g : OnlyEvents t u) : OnlyEvents s u := by
  obtain ⟨_, _, _, _, _, _, _, _, _, _, rfl, hr⟩ := h
  obtain ⟨_, _, _, _, _, _, _, _, _, _, rfl, gr⟩ := g
  exact ⟨_, _, _, _, _, _, _, _, _, _, rfl, fun a p q => (gr a p q).trans (hr a p q)⟩

/-- A register of the event controller or the host port written. -/
theorem OnlyEvents.setReg (s : State) {a : Nat} (v : Word) (h : (0x20000 ≤ a ∧ a < 0x30000) ∨ (0x40000 ≤ a ∧ a < 0x50000)) :
    OnlyEvents s (s.setReg a v) :=
  ⟨_, _, _, _, _, _, _, _, _, _, rfl, fun b p q => State.reg_setReg_other s v (by rintro rfl; exact h.elim p q)⟩

theorem OnlyEvents.fset (s : State) {f : Fld} (n : Nat)
    (h : (0x20000 ≤ f.addr ∧ f.addr < 0x30000) ∨ (0x40000 ≤ f.addr ∧ f.addr < 0x50000)) : OnlyEvents s (s.fset f n) :=
  OnlyEvents.setReg s _ h

theorem OnlyEvents.emit (s : State) (o : Output) : OnlyEvents s (s.emit o) :=
  ⟨_, _, _, _, _, _, _, _, _, _, rfl, fun _ _ _ => rfl⟩

theorem OnlyEvents.setWindow (s : State) (src : Nat) (w : Window) : OnlyEvents s (s.setWindow src w) :=
  ⟨_, _, _, _, _, _, _, _, _, _, rfl, fun _ _ _ => rfl⟩

theorem State.sendMsix_only (s : State) (f v : Nat) : OnlyEvents s (s.sendMsix f v) := by
  unfold State.sendMsix
  dsimp only
  split
  · exact OnlyEvents.setReg s _ (.inr (by decide))
  · split
    · exact ⟨_, _, _, _, _, _, _, _, _, _, rfl, fun _ _ _ => rfl⟩
    · exact (OnlyEvents.fset s 2 (.inr (by decide))).trans (OnlyEvents.emit _ _)

theorem State.pend_only (s : State) {src : Nat} (h : src < 1536) : OnlyEvents s (s.pend src) := by
  have hp : (0x20000 ≤ (pendFld src).addr ∧ (pendFld src).addr < 0x30000) := by
    simp only [pendFld, EVC_PEND]; omega
  unfold State.pend
  dsimp only
  split
  · exact (OnlyEvents.fset s 1 (.inl hp)).trans (State.sendMsix_only _ _ _)
  · exact OnlyEvents.fset s 1 (.inl hp)

theorem State.ringWrite_only (s : State) (r : Record) : OnlyEvents s (s.ringWrite r) :=
  (OnlyEvents.fset s ((s.fget EVC_JRNL_WR_wr + 1) % 8192) (.inl (by decide))).trans
    ⟨_, _, _, _, _, _, _, _, _, _, rfl, fun _ _ _ => rfl⟩

theorem OnlyEvents.countSat (s : State) {a : Nat} (h : (0x20000 ≤ a ∧ a < 0x30000) ∨ (0x40000 ≤ a ∧ a < 0x50000)) :
    OnlyEvents s (s.countSat a) := OnlyEvents.setReg s _ h

theorem State.boxOffer_only (s : State) (r : Record) : OnlyEvents s (s.boxOffer r) := by
  unfold State.boxOffer
  dsimp only
  split
  · exact ⟨_, _, _, _, _, _, _, _, _, _, rfl, fun _ _ _ => rfl⟩
  · refine OnlyEvents.trans (t := { s with bbSeq := s.bbSeq + 1 }) ⟨_, _, _, _, _, _, _, _, _, _, rfl, fun _ _ _ => rfl⟩ ?_
    exact (OnlyEvents.countSat _ (.inl (by decide))).trans (State.pend_only _ (by decide))

theorem State.sendRecord_only (s : State) (r : Record) (h : r.cls < 4) : OnlyEvents s (s.sendRecord r).1 := by
  have hl : 0x20000 ≤ EVC_LOST r.cls ∧ EVC_LOST r.cls < 0x30000 := by simp only [EVC_LOST]; omega
  have ring : ∀ t : State, OnlyEvents s t → OnlyEvents s (t.boxOffer r) := fun t ht => ht.trans (t.boxOffer_only r)
  unfold State.sendRecord
  dsimp only
  have hs : OnlyEvents s (
      if !s.isSet (EVC_SRC_jrnl r.event) then s
      else
        if !({ s with journalSeq := s.journalSeq + 1 } : State).readers.isEmpty &&
            (decide (4096 ≤ s.occupied) || (r.cls != 0 &&
              decide (3072 ≤ (({ s with journalSeq := s.journalSeq + 1 } : State).unread.filter fun q => q.cls != 0).length))) then
          (({ s with journalSeq := s.journalSeq + 1 } : State).countSat (EVC_LOST r.cls)).pend 1480
        else ({ s with journalSeq := s.journalSeq + 1 } : State).ringWrite { r with seq := s.journalSeq % 2 ^ 32 }) := by
    have h1 : OnlyEvents s { s with journalSeq := s.journalSeq + 1 } :=
      ⟨_, _, _, _, _, _, _, _, _, _, rfl, fun _ _ _ => rfl⟩
    split
    · exact OnlyEvents.refl s
    · split
      · exact h1.trans ((OnlyEvents.countSat _ (.inl hl)).trans (State.pend_only _ (by decide)))
      · exact h1.trans (State.ringWrite_only _ _)
  split
  · exact ring _ hs
  · exact hs

/-- Raising an event source changes nothing outside the event controller and the host port's messages. -/
theorem State.raiseTo_only (depth : Nat) : ∀ (s : State) (src : Nat) (payload : List Byte), src < 1536 →
    OnlyEvents s (State.raiseTo depth s src payload) := by
  induction depth with
  | zero => intro s src _ h; exact s.pend_only h
  | succ depth ih =>
    intro s src payload h
    unfold State.raiseTo
    split
    · exact OnlyEvents.refl s
    · have hp := s.pend_only h
      generalize s.pend src = u at hp ⊢
      have hc : (u.fullRecord src payload).cls < 4 := by
        have := getField_lt (u.reg (EVC_SRC_class src).addr) 30 29
        simpa [State.fullRecord, State.fget, EVC_SRC_class] using this
      have hr := u.sendRecord_only (u.fullRecord src payload) hc
      dsimp only
      split
      · exact hp
      · split
        · exact hp.trans (OnlyEvents.setWindow _ _ _)
        · generalize (u.sendRecord (u.fullRecord src payload)) = r at hr ⊢
          generalize (u.fget (EVC_SRC_class src)) = cls
          have h1 : OnlyEvents u { r.1 with
              class0Coalescing := if cls == 0 then u.class0Coalesce else u.class0Coalescing } :=
            hr.trans ⟨_, _, _, _, _, _, _, _, _, _, rfl, fun _ _ _ => rfl⟩
          generalize ({ r.1 with
              class0Coalescing := if cls == 0 then u.class0Coalesce else u.class0Coalescing } : State) = v at h1 ⊢
          have h2 : OnlyEvents u (if (cls == 0 && !u.class0Coalesce) = true then v
              else v.setWindow src { isOpen := true }) := by
            split
            · exact h1
            · exact h1.trans (OnlyEvents.setWindow _ _ _)
          generalize (if (cls == 0 && !u.class0Coalesce) = true then v
              else v.setWindow src { isOpen := true }) = w at h2 ⊢
          have h3 : OnlyEvents u (if (cls == 0 && u.class0Coalesce && !u.class0Coalescing) = true then
              State.raiseTo depth w 1483 [] else w) := by
            split
            · exact h2.trans (ih _ _ _ (by decide))
            · exact h2
          generalize (if (cls == 0 && u.class0Coalesce && !u.class0Coalescing) = true then
              State.raiseTo depth w 1483 [] else w) = x at h3 ⊢
          split
          · exact hp.trans (h3.trans (ih _ _ _ (by decide)))
          · exact hp.trans h3

theorem State.raiseWith_only (s : State) {src : Nat} (payload : List Byte) (h : src < 1536) :
    OnlyEvents s (s.raiseWith src payload) := State.raiseTo_only 3 s src payload h

theorem State.raise_only (s : State) {src : Nat} (h : src < 1536) : OnlyEvents s (s.raise src) := s.raiseWith_only [] h

/-- Raising an event leaves every register outside the event controller and the host port as it is. -/
theorem OnlyEvents.reg {s t : State} (h : OnlyEvents s t) {a : Nat} (h1 : ¬(0x20000 ≤ a ∧ a < 0x30000))
    (h2 : ¬(0x40000 ≤ a ∧ a < 0x50000)) : t.reg a = s.reg a := by
  obtain ⟨_, _, _, _, _, _, _, _, _, _, _, hr⟩ := h
  exact hr a h1 h2

end Sys2Proof.Machine
end

