-- ==== Sys2Proof/Laws/Halt.lean ====
section
/-!
SUPPORT. What an exception of a Courser leaves (R287).
-/

namespace Sys2Proof.Machine

/-- A counter with a half bit counts: nothing changes but the counter, its half register and what an event changes. -/
theorem State.countHalf_reg (s : State) {cnt event n a : Nat} {half : Fld} (he : event < 1536) (h1 : a ≠ cnt)
    (h2 : a ≠ half.addr) (h3 : ¬(0x20000 ≤ a ∧ a < 0x30000)) (h4 : ¬(0x40000 ≤ a ∧ a < 0x50000)) :
    (s.countHalf cnt half event n).reg a = s.reg a := by
  unfold State.countHalf
  dsimp only
  split
  · rw [(State.raise_only _ he).reg h3 h4, State.reg_fset_other _ _ h2, State.reg_setReg_other _ _ h1]
  · rw [State.reg_setReg_other _ _ h1]

theorem State.countHalf_teams (s : State) {cnt event n : Nat} {half : Fld} (he : event < 1536) :
    (s.countHalf cnt half event n).teams = s.teams := by
  unfold State.countHalf
  dsimp only
  split
  · obtain ⟨_, _, _, _, _, _, _, _, _, _, h, _⟩ := State.raise_only
      ((s.setReg cnt (word (((s.reg cnt).toNat + n) % 2 ^ 32))).fset half 1) he
    rw [h]; rfl
  · rfl

/-- The counters of Team t leave every register alone but themselves, the half register and those of an event. -/
theorem State.crsCnt_reg (s : State) {t i a : Nat} (h1 : a ≠ CRS_CNT t i) (h2 : a ≠ CRS_CNT_HALF t)
    (h3 : ¬(0x20000 ≤ a ∧ a < 0x30000)) (h4 : ¬(0x40000 ≤ a ∧ a < 0x50000)) : (s.crsCnt t i).reg a = s.reg a :=
  State.countHalf_reg s (by decide) h1 h2 h3 h4

@[simp] theorem State.crsCnt_teams (s : State) (t i : Nat) : (s.crsCnt t i).teams = s.teams :=
  State.countHalf_teams s (by decide)

/-- A counter that counts several times leaves what one count of it leaves. -/
theorem State.crsCnts_teams (s : State) (t i n : Nat) : (Nat.repeat (fun u => u.crsCnt t i) n s).teams = s.teams := by
  induction n with
  | zero => rfl
  | succ n ih => rw [Nat.repeat, State.crsCnt_teams, ih]

theorem State.crsCnts_reg (s : State) {t i a : Nat} (n : Nat) (h1 : a ≠ CRS_CNT t i) (h2 : a ≠ CRS_CNT_HALF t)
    (h3 : ¬(0x20000 ≤ a ∧ a < 0x30000)) (h4 : ¬(0x40000 ≤ a ∧ a < 0x50000)) :
    (Nat.repeat (fun u => u.crsCnt t i) n s).reg a = s.reg a := by
  induction n with
  | zero => rfl
  | succ n ih => rw [Nat.repeat, State.crsCnt_reg _ h1 h2 h3 h4, ih]

theorem State.raise_teams (s : State) {src : Nat} (h : src < 1536) : (s.raise src).teams = s.teams := by
  obtain ⟨_, _, _, _, _, _, _, _, _, _, e, _⟩ := State.raise_only s h
  rw [e]

theorem State.crs_congr {s t : State} (h : t.teams = s.teams) (k : Nat) : t.crs k = s.crs k := by
  rw [State.crs, State.crs, h]

/-- An exception with cause and value as given (R287). -/
theorem CourserHalted.of_except (s : State) {k cause val : Nat} (hk : k < 128) (hc : cause < 16) :
    CourserHalted s (s.crsExcept k cause val) k cause (word val) := by
  have hm : k % 8 < 8 := Nat.mod_lt _ (by decide)
  have hd : k / 8 < 16 := by omega
  -- the state in which CRS_CEXC and CRS_CEXC_VAL have been written
  let u := (s.fsets [(CRS_CEXC_valid (k / 8) (k % 8), 1), (CRS_CEXC_cause (k / 8) (k % 8), cause),
    (CRS_CEXC_pc (k / 8) (k % 8), (s.crs k).pc)]).setReg (CRS_CEXC_VAL (k / 8) (k % 8)) (word val)
  have hu : u.teams = s.teams := rfl
  -- what follows leaves both registers, and of the Teams changes Courser k's record alone
  have key : ∃ c : Courser, c.run = .halted ∧ c.pc = (s.crs k).pc ∧
      (s.crsExcept k cause val).teams = (s.setCrs k c).teams ∧
      ∀ a, a = CRS_CEXC (k / 8) (k % 8) ∨ a = CRS_CEXC_VAL (k / 8) (k % 8) →
        (s.crsExcept k cause val).reg a = u.reg a := by
    refine ⟨{ s.crs k with
      run := .halted, dirty := [], miss := none, missed := false, published := 0, taken := 0, target := none,
      parked := false }, rfl, rfl, ?_, ?_⟩
    · unfold State.crsExcept
      dsimp only
      rw [State.raise_teams _ (by omega)]
      simp only [State.setCrs, State.crsCnts_teams, State.crsCnt_teams]; rfl
    · intro a ha
      have e1 : ∀ i, i < 16 → a ≠ CRS_CNT (k / 8) i := by
        intro i hi; rcases ha with rfl | rfl <;> simp only [CRS_CEXC, CRS_CEXC_VAL, CRS_CNT] <;> omega
      have e2 : a ≠ CRS_CNT_HALF (k / 8) := by
        rcases ha with rfl | rfl <;> simp only [CRS_CEXC, CRS_CEXC_VAL, CRS_CNT_HALF] <;> omega
      have e3 : ¬(0x20000 ≤ a ∧ a < 0x30000) := by
        rcases ha with rfl | rfl <;> simp only [CRS_CEXC, CRS_CEXC_VAL] <;> omega
      have e4 : ¬(0x40000 ≤ a ∧ a < 0x50000) := by
        rcases ha with rfl | rfl <;> simp only [CRS_CEXC, CRS_CEXC_VAL] <;> omega
      unfold State.crsExcept
      dsimp only
      rw [(State.raise_only _ (by omega)).reg e3 e4, State.reg_setCrs]
      rw [State.crsCnts_reg _ _ (e1 4 (by decide)) e2 e3 e4, State.crsCnt_reg _ (e1 11 (by decide)) e2 e3 e4]
  obtain ⟨c, hrun, hpc, hteams, hreg⟩ := key
  have hcx : u.reg (CRS_CEXC (k / 8) (k % 8)) = (s.fsets [(CRS_CEXC_valid (k / 8) (k % 8), 1),
      (CRS_CEXC_cause (k / 8) (k % 8), cause), (CRS_CEXC_pc (k / 8) (k % 8), (s.crs k).pc)]).reg (CRS_CEXC (k / 8) (k % 8)) :=
    State.reg_setReg_other _ _ (by simp only [CRS_CEXC, CRS_CEXC_VAL]; omega)
  have hg : ∀ f : Fld, f.addr = CRS_CEXC (k / 8) (k % 8) → (s.crsExcept k cause val).fget f =
      (s.fsets [(CRS_CEXC_valid (k / 8) (k % 8), 1), (CRS_CEXC_cause (k / 8) (k % 8), cause),
        (CRS_CEXC_pc (k / 8) (k % 8), (s.crs k).pc)]).fget f := by
    intro f hf
    rw [State.fget, State.fget, hf, hreg _ (.inl rfl), hcx]
  have hcrs : (s.crsExcept k cause val).crs k = c := by
    rw [State.crs_congr hteams, State.crs_setCrs_same]
  refine ⟨⟨by rw [hcrs, hrun], by rw [hcrs, hpc]⟩, ?_, ?_, ?_, ?_, ?_, ?_⟩
  · rw [hg _ rfl]
    show (((s.fset _ 1).fset _ cause).fset _ (s.crs k).pc).fget _ = 1
    rw [State.fget_fset_other _ _ (.inr (.inl (show 11 < 31 by decide))) (show 31 < 32 by decide),
      State.fget_fset_other _ _ (.inr (.inl (show 19 < 31 by decide))) (show 31 < 32 by decide),
      State.fget_fset_same _ _ (show 31 < 32 by decide)]
    rfl
  · rw [hg _ rfl]
    show (((s.fset _ 1).fset _ cause).fset _ (s.crs k).pc).fget _ = cause
    rw [State.fget_fset_other _ _ (.inr (.inl (show 11 < 16 by decide))) (show 19 < 32 by decide),
      State.fget_fset_same _ _ (show 19 < 32 by decide)]
    exact Nat.mod_eq_of_lt hc
  · rw [hg _ rfl]
    show (((s.fset _ 1).fset _ cause).fset _ (s.crs k).pc).fget _ = _
    rw [State.fget_fset_same _ _ (show 11 < 32 by decide)]
    rfl
  · rw [hreg _ (.inr rfl)]; exact State.reg_setReg_same _ _ _
  · rw [hteams]; rfl
  · rw [hteams]; rfl

end Sys2Proof.Machine
end

