-- ==== Sys2Proof/WellFormed.lean ====
section
/-!
DEFINITION. When a command is well formed: every operand that names a place names one that the block has, an address is
aligned as its access must be, and bytes of a fixed length have it. The meanings are total: what they answer for a
command that is not well formed has no counterpart in the specification.
-/

namespace Sys2Proof

/-- A requester: the service port, Ostler firmware, PF0 or one of the 31 virtual functions (R406, R511). -/
def reqOk : Requester → Bool
  | .svc => true
  | .ostler => true
  | .func n => decide (n < 32)

/-- A word of the register map (R529). -/
def regAddr (a : Nat) : Bool := decide (a < 0x400000) && a % 4 == 0

/-- A word of a decoded address space (R529). -/
def spaceAddr (a : Nat) : Bool := regAddr a || (decide (0x10000000 ≤ a) && decide (a < 0x18000000) && a % 4 == 0)

/-- An aperture write: whole words from an aligned address (R529). -/
def aperOk (a : Nat) (bs : List Byte) : Bool :=
  decide (0x10000000 ≤ a) && decide (a < 0x18000000) && a % 4 == 0 && bs.length % 4 == 0

/-- A frame that a lane can carry (R129): the identifier fits its format, and the data its length field. -/
def frameOk (f : LaneFrame) : Bool :=
  decide (f.format < 4) && decide (f.id < 2 ^ (if f.format = 3 then 16 else if f.ide then 29 else 11)) &&
    decide (f.vcid < 256) && decide (f.sdt < 256) && decide (f.af < 2 ^ 32) &&
    decide (f.data.length ≤ (if f.format = 0 then 8 else if f.format = 1 then 64 else 2048))

/-- Every operand is one that the command can have. [DESIGN CHOICE, log entry 4] -/
def Instr.wf : Instr → Bool
  | .aonPowerOnReset => true
  | .vbatValid => true
  | .railsInRegulation => true
  | .pllLock => true
  | .bootBistPartitionDone fails => decide (fails < 65536)
  | .imageLoad => true
  | .sramClearDone => true
  | .servicePortReady => true
  | .laneEnable => true
  | .routingReady => true
  | .digestVerdict => true
  | .ostlerFirmwareRead => true
  | .perstNLow => true
  | .perstNRise => true
  | .configRequest f q => decide (f < 32) && q.numVfs.all (· ≤ 31) && decide (q.at_ < 1024)
  | .testReset => true
  | .dieLinkTransfer k _ _ _ => decide (k < 18)
  | .plkSilence => true
  | .dieLinkRetrain k _ _ => decide (k < 18)
  | .absentWrite r a => reqOk r && spaceAddr a
  | .registerWrite r a _ => reqOk r && regAddr a
  | .counterRead r a => reqOk r && regAddr a
  | .retire r _ => reqOk r
  | .program r row => reqOk r && decide (row < 98304)
  | .commit r _ => reqOk r
  | .nvmUndefinedOpcode r opcode => reqOk r && decide (opcode < 16 ∧ ¬(1 ≤ opcode ∧ opcode ≤ 3))
  | .nvmCmdComplete => true
  | .teamTest r t => reqOk r && decide (t < 16)
  | .farUndefinedOpcode r opcode => reqOk r && decide (opcode < 16 ∧ opcode ≠ 1)
  | .teamDrained => true
  | .drainTimeout => true
  | .teamTestComplete _ => true
  | .laneIntegrated n => decide (n < 48)
  | .overVoltage n _ => decide (n < 48)
  | .terminationReclose n => decide (n < 48)
  | .cmRange n => decide (n < 48)
  | .stuckDominant n => decide (n < 48)
  | .linPullupShort n => decide (n < 48)
  | .laneThermal n => decide (n < 48)
  | .domTimeout n => decide (n < 48)
  | .laneFaultRecovery n bit => decide (n < 48) && decide (bit < 8)
  | .lanePhyFaultClear r n _ => reqOk r && decide (n < 48)
  | .laneDisable r n => reqOk r && decide (n < 48)
  | .laneReenable r n => reqOk r && decide (n < 48)
  | .laneLoopback r n => reqOk r && decide (n < 48)
  | .dominantEdgeWake n _ => decide (n < 48)
  | .selectiveWakeMatch n f => decide (n < 48) && frameOk f
  | .pnErrorOverflow n => decide (n < 48)
  | .pnOscillatorIdle n => decide (n < 48)
  | .canFrameReceived n f _ => decide (n < 48) && frameOk f
  | .protocolException n fmt => decide (n < 48) && decide (fmt < 3)
  | .canReintegrate n => decide (n < 48)
  | .busError n _ _ => decide (n < 48)
  | .busOffRecovery n => decide (n < 48)
  | .hpRelease r n => reqOk r && decide (n < 48)
  | .ackIdxWrite r n q _ => reqOk r && decide (n < 48) && decide (q < 2)
  | .watermarkWrite r n q _ => reqOk r && decide (n < 48) && decide (q < 2)
  | .txRequest r n k _ => reqOk r && decide (n < 48) && decide (k < 8)
  | .txAbort r n k _ => reqOk r && decide (n < 48) && decide (k < 8)
  | .laneTxStart n => decide (n < 48)
  | .lostArbitration n _ => decide (n < 48)
  | .laneTxComplete n _ _ => decide (n < 48)
  | .fabricFrameToLane n => decide (n < 48)
  | .linHeader n h => decide (n < 48) && decide (h.id < 64)
  | .linNoResp n => decide (n < 48)
  | .linSlotStart n _ _ => decide (n < 48)
  | .t1sFrameReceived n bytes _ _ => decide (n < 48) && decide (bytes.length ≤ 9216)
  | .plcaBeacon n => decide (n < 48)
  | .plcaFallback n => decide (n < 48)
  | .ethFrameReceived n bs _ _ => decide (n < 16) && decide (bs.length ≤ 9216)
  | .cutThroughPresent n bs => decide (n < 16) && decide (bs.length ≤ 9216)
  | .steeringRuleCommit r n i _ => reqOk r && decide (n < 16) && decide (i < 64)
  | .endpointFrameDelivery e _ _ => decide (e < 3)
  | .teamFrameArrival t c => decide (t < 16) && decide (c < 8)
  | .preemptVerifyDone n => decide (n < 16)
  | .preemptVerifyTimeout n => decide (n < 16)
  | .gateHoldApply n _ => decide (n < 16)
  | .egressFrameStart n _ => decide (n < 16)
  | .egressFrameEnd n => decide (n < 16)
  | .linkDown n _ => decide (n < 16)
  | .linkUp n => decide (n < 16)
  | .trainingFail n => decide (n < 16)
  | .sqiLow n _ => decide (n < 16)
  | .phyThermal n _ => decide (n < 16)
  | .portDisable r n => reqOk r && decide (n < 16)
  | .portEnable r n => reqOk r && decide (n < 16)
  | .pipelineFrame q _ => decide (q < 86)
  | .learnApply p => decide (p < 2)
  | .peerQuery p => decide (p < 2)
  | .peerAnswer p => decide (p < 2)
  | .moveNotify p => decide (p < 2)
  | .ageingTick p => decide (p < 2)
  | .streamIdRelease _ => true
  | .frerReset p i => decide (p < 2) && decide (i < 1024)
  | .mirrorCopyDeliver => true
  | .fwdScrubRead p _ => decide (p < 2)
  | .fwdRepairDone p _ => decide (p < 2)
  | .tableWrite r a bs => reqOk r && aperOk a bs
  | .tblRead r p _ => reqOk r && decide (p < 2)
  | .tblWrite r p _ => reqOk r && decide (p < 2)
  | .tblInsert r p _ => reqOk r && decide (p < 2)
  | .tblDelete r p _ => reqOk r && decide (p < 2)
  | .tblSearch r p _ => reqOk r && decide (p < 2)
  | .tblCmdComplete p => decide (p < 2)
  | .schedulerMatching parity ecc _ => parity.all (fun e => e.1 < 32 ∧ e.2 < 32) && ecc.all (fun e => e.1 < 32)
  | .pointerSweepEnd => true
  | .parityWindowEnd => true
  | .holStall p o c => decide (p < 32) && decide (o < 32) && decide (c < 8)
  | .streamGateEntry g => decide (g < 32)
  | .gateListEntry n => decide (n < 16)
  | .gclChangeRequest r n _ => reqOk r && decide (n < 16)
  | .gclChangeApply n => decide (n < 16)
  | .gateResume n => decide (n < 16)
  | .schoolStart r _ => reqOk r
  | .schoolWindowEnd => true
  | .stmScrubRead _ => true
  | .stmRepairDone _ => true
  | .add k _ => decide (k < 128)
  | .sub k _ => decide (k < 128)
  | .and k _ => decide (k < 128)
  | .or k _ => decide (k < 128)
  | .xor k _ => decide (k < 128)
  | .sll k _ => decide (k < 128)
  | .srl k _ => decide (k < 128)
  | .sra k _ => decide (k < 128)
  | .slt k _ => decide (k < 128)
  | .sltu k _ => decide (k < 128)
  | .mul k _ => decide (k < 128)
  | .mulh k _ => decide (k < 128)
  | .addi k _ => decide (k < 128)
  | .andi k _ => decide (k < 128)
  | .ori k _ => decide (k < 128)
  | .xori k _ => decide (k < 128)
  | .slti k _ => decide (k < 128)
  | .slli k _ => decide (k < 128)
  | .srli k _ => decide (k < 128)
  | .srai k _ => decide (k < 128)
  | .lui k _ => decide (k < 128)
  | .lw k _ => decide (k < 128)
  | .lh k _ => decide (k < 128)
  | .lhu k _ => decide (k < 128)
  | .lb k _ => decide (k < 128)
  | .lbu k _ => decide (k < 128)
  | .sw k _ => decide (k < 128)
  | .sh k _ => decide (k < 128)
  | .sb k _ => decide (k < 128)
  | .beq k _ => decide (k < 128)
  | .bne k _ => decide (k < 128)
  | .blt k _ => decide (k < 128)
  | .bge k _ => decide (k < 128)
  | .bltu k _ => decide (k < 128)
  | .bgeu k _ => decide (k < 128)
  | .jal k _ => decide (k < 128)
  | .jalr k _ => decide (k < 128)
  | .bfx k _ => decide (k < 128)
  | .bfi k _ => decide (k < 128)
  | .bfxr k _ => decide (k < 128)
  | .bfir k _ => decide (k < 128)
  | .crcb k _ => decide (k < 128)
  | .crcw k _ => decide (k < 128)
  | .scale k _ => decide (k < 128)
  | .qget k _ => decide (k < 128)
  | .qput k _ => decide (k < 128)
  | .sld k _ => decide (k < 128)
  | .sst k _ => decide (k < 128)
  | .sstc k _ => decide (k < 128)
  | .sfl k _ => decide (k < 128)
  | .waitt k _ => decide (k < 128)
  | .waite k _ => decide (k < 128)
  | .rdt k _ => decide (k < 128)
  | .evr k _ => decide (k < 128)
  | .ciph k _ => decide (k < 128)
  | .yield k _ => decide (k < 128)
  | .runLimit k => decide (k < 128)
  | .courserResume k => decide (k < 128)
  | .courserAutoRestart k => decide (k < 128)
  | .courserRestart r k => reqOk r && decide (k < 128)
  | .courserHalt r k => reqOk r && decide (k < 128)
  | .doorbellRing r t _ => reqOk r && decide (t < 16)
  | .gets t slot _ => decide (t < 16) && decide (slot < 262144)
  | .getm t slot _ => decide (t < 16) && decide (slot < 262144)
  | .putm t slot => decide (t < 16) && decide (slot < 262144)
  | .puts t slot => decide (t < 16) && decide (slot < 262144)
  | .hwr slot => decide (slot < 262144)
  | .hrd r slot x => reqOk r && decide (slot < 262144) && decide (x.w < 4)
  | .fetch t slot => decide (t < 16) && decide (slot < 262144)
  | .fetchinv t slot => decide (t < 16) && decide (slot < 262144)
  | .inv t slot => decide (t < 16) && decide (slot < 262144)
  | .snoopData t slot => decide (t < 16) && decide (slot < 262144)
  | .snoopAck t slot => decide (t < 16) && decide (slot < 262144)
  | .snoopAbsent t slot => decide (t < 16) && decide (slot < 262144)
  | .putmAck t slot => decide (t < 16) && decide (slot < 262144)
  | .lineFill t slot _ => decide (t < 16) && decide (slot < 262144)
  | .sigScrubRead _ => true
  | .dirRebuildDone t => decide (t < 16)
  | .aggregatorFrame n => decide (n < 48)
  | .deferredRelease u => decide (u < 2)
  | .stalenessSweep i => decide (i < 262144)
  | .eventSend d => decide (d < 65536)
  | .cyclicSend d => decide (d < 65536)
  | .tunnelSend d => decide (d < 65536)
  | .acfDownlink n => decide (n < 48)
  | .routeScrubRead _ => true
  | .routeRepairDone _ => true
  | .incrementCommit r d v => reqOk r && decide (d < 4) && decide (v < 4294967296)
  | .timeStep r d => reqOk r && decide (d < 4)
  | .threshWrite r d _ => reqOk r && decide (d < 4)
  | .threshRestore r d => reqOk r && decide (d < 4)
  | .timeCaptureRead r d => reqOk r && decide (d < 4)
  | .syncReport r d _ => reqOk r && decide (d < 4)
  | .syncLost d => decide (d < 4)
  | .wakeGuardExpiry => true
  | .triggerFire n => decide (n < 32)
  | .triggerTargetCommit r n _ => reqOk r && decide (n < 32)
  | .gpioPulseEnd n => decide (n < 32)
  | .captureEdge k _ _ => decide (k < 16)
  | .captureFifoPop r k => reqOk r && decide (k < 16)
  | .ptpFifoPop r n _ => reqOk r && decide (n < 16)
  | .macsecIcvVerdict n => decide (n < 16)
  | .jobSubmit r f desc => reqOk r && decide (f ≤ 32) && decide (desc.length = 64)
  | .jobStart n _ => decide (n ≤ 4)
  | .jobSuspend _ => true
  | .jobComplete n _ _ => decide (n ≤ 4)
  | .frameJob => true
  | .frameJobDone n => decide (n < 4)
  | .keyWrite r slot => reqOk r && decide (slot < 4096)
  | .keyClear r slot => reqOk r && decide (slot < 4096)
  | .keyDerive r slot => reqOk r && decide (slot < 4096)
  | .keyWrap r slot => reqOk r && decide (slot < 4096)
  | .keyUnwrap r slot => reqOk r && decide (slot < 4096)
  | .keyAttest r slot => reqOk r && decide (slot < 4096)
  | .keyInfo r slot => reqOk r && decide (slot < 4096)
  | .keyUndefinedOpcode r opcode => reqOk r && decide (opcode < 16 ∧ ¬(1 ≤ opcode ∧ opcode ≤ 7))
  | .keyCmdComplete => true
  | .persistLoadDone => true
  | .debugUnlock token => decide (token.length = 128)
  | .tamperAssert n => decide (n < 4)
  | .persistEraseDone => true
  | .tamperLatchClear r mask => reqOk r && decide (mask < 16)
  | .ownerCreate r o => reqOk r && decide (o < 256)
  | .ownerDestroy r o => reqOk r && decide (o < 256)
  | .sclCmdComplete => true
  | .stateTargetWrite r target => reqOk r && decide (target < 4)
  | .stateMoveDone => true
  | .paddockDrainTimeout => true
  | .wakeLineLow _ => true
  | .wakeTimer => true
  | .serviceCsWake => true
  | .wakeStart => true
  | .sleepWrite r => reqOk r
  | .undervoltage => true
  | .offLatchAct => true
  | .detectorArm => true
  | .laneRelease => true
  | .ethernetSilence => true
  | .coreLineOff => true
  | .pdieOff => true
  | .buckDropout => true
  | .wakeAssert r => reqOk r
  | .wakePulseEnd => true
  | .wakeHeldRelease => true
  | .wakeStuck => true
  | .consentWrite r v => reqOk r && decide (v < 4294967296)
  | .quietTimeExpiry _ => true
  | .minAwakeExpiry => true
  | .ringMessage bytes => decide (bytes.length = 32)
  | .ringSilenceExpiry => true
  | .hopTimeout => true
  | .confirmSilenceExpiry => true
  | .dismountEnd => true
  | .outputCommand r j _ => reqOk r && decide (j < 20)
  | .pwmPeriod j => decide (j < 20)
  | .currentSample currents => decide (currents.length ≤ 20)
  | .shortCircuit j => decide (j < 20)
  | .inrush j => decide (j < 20)
  | .outputThermal j => decide (j < 20)
  | .shedReevaluate g => decide (g ≤ 4)
  | .maxOnExpiry j => decide (j < 20)
  | .minOffExpiry j => decide (j < 20)
  | .outputRetry j => decide (j < 20)
  | .retryBudgetRestore j => decide (j < 20)
  | .outputFaultClear r j v _ => reqOk r && decide (j < 20) && decide (v < 4294967296)
  | .openLoad j => decide (j < 20)
  | .offStateCheck j _ => decide (j < 20)
  | .offStatePullupEnd j _ => decide (j < 20)
  | .plkLostClear => true
  | .profileRun r j _ => reqOk r && decide (j < 20)
  | .profileStop r j _ => reqOk r && decide (j < 20)
  | .profileJump r j _ => reqOk r && decide (j < 20)
  | .profileSample j => decide (j < 20)
  | .sarSequenceGo r q => reqOk r && decide (q < 8)
  | .sarPeriod q => decide (q < 8)
  | .sequenceDone results => decide (results.length ≤ 16 ∧ results.all (· < 4096))
  | .batMeasStart r => reqOk r
  | .batPeriod => true
  | .batMeasDone cells _ => decide (cells.length ≤ 16)
  | .openWireStart r => reqOk r
  | .openWirePhase cells => decide (cells.length ≤ 16)
  | .ostlerKick r => reqOk r
  | .watchdog => true
  | .lockstep => true
  | .ostlerAutoRestart => true
  | .ostlerRestart r => reqOk r
  | .hobbleCopyMismatch off _ _ => decide (off < 1744)
  | .hobbleRestoreDone => true
  | .arbiterGrant a _ _ _ => decide (a < 21)
  | .pendClear r n v => reqOk r && decide (n < 48) && decide (v < 4294967296)
  | .coalesceWindowEnd src => decide (src < 1536)
  | .bbWrite => true
  | .bbScanDone => true
  | .journalRdWrite r _ rd => reqOk r && decide (rd < 8192)
  | .readerEnable r _ => reqOk r
  | .hostLinkUp width gen => decide (width < 16) && decide (gen < 8)
  | .hostLinkDown => true
  | .pmeTurnOff => true
  | .flr f => decide (f < 32)
  | .qpTxPost r q _ => reqOk r && decide (q < 64)
  | .txDescriptor q w2 _ => decide (q < 64) && decide (w2 < 4294967296)
  | .dmaError q _ => decide (q < 64)
  | .svcWrite off ws _ => decide (off < 65536) && decide (ws.length ≤ 16)
  | .svcRead off count _ => decide (off < 65536) && decide (count < 256)
  | .svcFetch _ => true
  | .svcStatus _ => true
  | .svcWindow base _ => decide (base < 65536)
  | .svcMbox _ _ => true
  | .mboxAnswer => true
  | .mboxTimeout => true
  | .svcCommandDone => true
  | .aclkCalibration => true
  | .scanEnable => true
  | .linResponseEnd n data checksum _ _ _ => decide (n < 48) && decide (data.length ≤ 8) && decide (checksum < 256)
  | .rxJabber n => decide (n < 16)
  | .hostPost r t _ _ _ _ => reqOk r && decide (t < 16)
  | .sensorDeassert n => decide (n < 4)
  | .wakeLineHigh => true
  | .lowPowerBiasActive n => decide (n < 48)
  | .lowPowerBiasIdle n => decide (n < 48)
  | .vioLow => true
  | .vioRestored => true

end Sys2Proof
end

