-- ==== Sys2Proof/Tests/Slice0.lean ====
section
/-!
SUPPORT. Tests: ill-formed commands, encodings and worked examples of the specification, and for every statement with
hypotheses one theorem that shows, clause by clause, a state and operands that meet them together.
-/

open Sys2Proof Sys2Proof.Machine

namespace Sys2Proof.Tests

set_option Elab.async false

/-- A powered device with a cinched image and routing ready; the owners 0 and 1 have keys. -/
def live : State :=
  { (State.reset.fset GLB_IMAGE_STATUS_state 2).fset SWC_PORT_STATE_port 0xFFFFFFFF with
    coreOn := true, lineOn := true, pdieOn := true, cinched := true, boot := .routing
    owners := [(0, { state := 1, keyValid := true }), (1, { state := 1, func := some 0, keyValid := true })] }

/-- Fields of registers written. -/
def sets (s : State) (l : List (Fld × Nat)) : State := l.foldl (fun s p => s.fset p.1 p.2) s

/-- Courser 0 issues word w with these general registers. -/
def crs (w : Nat) (g : List (Nat × Word) := []) (run : CrsRun := .running) : State :=
  { live with teams := { coursers := [(0, { named := true, run := run })], gregs := g, imem := [(0, word w)] } }

/-- The same with a cache line of slot 0. -/
def crsLine (w : Nat) (m : Bool) (g : List (Nat × Word) := []) : State :=
  { live with
    teams := { coursers := [(0, { named := true, run := .running })], gregs := g, imem := [(0, word w)]
               caches := [(0, [{ slot := 0, owner := 0, value := 0, version := 0, modified := m }])] } }

/-- A ring member 0 of two, ready, with Ostler firmware running. -/
def ring : State :=
  sets { live with wakePlan := List.replicate 13 0 ++ [2] ++ List.replicate 22 0 ++ [2] ++ List.replicate 27 0 }
    [(GLB_OSTLER_STATUS_state, 2), (PWK_READY_ready, 1)]

/-- A ring message of member 1 in state `st` with initiator `i`, addressed to `n`; both members are present. -/
def ringBytes (st i n : Nat) : List Byte :=
  [.ofNat 8 (16 + st), 0, .ofNat 8 i, 1, .ofNat 8 n] ++ List.replicate 15 0 ++ [0, 0, 0, 0, 0, 0, 0, 3] ++ List.replicate 4 0

/-- A device in Stable. -/
def stable : State := { State.reset with coldStart := false }

/-- The 64 bytes of a bulk-job descriptor. -/
def descr (w0 len : Nat) : List Byte := leBytes 4 w0 ++ leBytes 4 len ++ List.replicate 56 0

/-- A job of function 0 on engine 0. -/
def job (w0 len : Nat) (run : JobRun) : Job := { requester := 0, owner := 1, seq := 0, desc := descr w0 len, run := run }

/-- A cinched image of no bytes in MRAM but a header digest, each byte of `d` changed by `f`, with the verdict due. -/
def verdict (f : Byte → Byte) (d : List Byte) : State :=
  { live with
    mram := (List.range 32).map fun i => (0x20 + i, f (d.getD i 0))
    slotA := { valid := true, digest := d } }

theorem byte_ne_succ : ∀ b : Byte, b ≠ b + 1 := by decide

/-- The row of the register map that holds an address. -/
def rowOf (s : State) (a : Nat) : RegRow := (s.rowAt a).getD ⟨0, [], 0, 0, 0, 0, false, 0⟩

def withJobs (l : List Job) : State := { live with cip := { jobs := l } }

/-- Fields of a table entry written. -/
def entry (s : State) (a : Nat) (l : List (EFld × Nat)) : State := l.foldl (fun s p => s.eset a p.1 p.2) s

/-- Forwarding pipeline 1 holds a dynamic entry for key (1, 1) and has these queues. -/
def learned (x : Pipe) : State :=
  entry { live with pipes := [(1, x)] } (fdbAddr 1 (4 * fdbBucket ⟨1, 1⟩))
    [(FDB_valid, 1), (FDB_mac_lo, 1), (FDB_vid, 1), (FDB_owner, 1)]

/-- Port E15 link-up, its frames those of owner 1. -/
def port (e : Eth := {}) : State :=
  sets { live with eths := [(15, e)], portOwner := [(15, 1)] } [(EMAC_STATUS_link_up 15, 1), (EMAC_CTRL_enable 15, 1)]

/-- An Ethernet frame with this EtherType. -/
def ether (t : Nat) : List Byte := [0x33, 1, 2, 3, 4, 5, 2, 1, 2, 3, 4, 6] ++ beBytes 2 t ++ List.replicate 46 0

/-- One single-cell frame in a VOQ of input 31 towards output 22, logical port 80. -/
def queued : State :=
  { sets live [(SWC_SCHED_STATUS_mode, 0), (SWC_SCHED_STATUS_cause_init, 0)] with
    voqs := [(voqKey 31 22 7, [5])]
    owners := [(1, { keyValid := true })]
    stored := [(5, some { frame := { owner := 1 }, outs := [(22, [80])], cells := 1, cls := 7 })] }

/-- Lane 47 of this kind, enabled and integrated, with this state and these fields. -/
def lane (kind : Nat) (x : Lane := {}) (l : List (Fld × Nat) := []) : State :=
  sets { live with lanes := [(47, x)] }
    ([(LANE_PHY_CFG_kind 47, kind), (LANE_PHY_CTRL_enable 47, 1), (LANE_PHY_STATUS_integrated 47, 1),
      (LANE_ERR_state 47, 1)] ++ l)

/-- Lane 47 of a device in Stable. -/
def asleep (x : Lane) : State := { stable with lanes := [(47, x)] }

/-! ### Well-formed commands: an ill-formed term for each check -/

/-- Requesters, addresses and aperture writes. -/
theorem test_wf_requesters_and_addresses :
    ([.retire (.func 32) false, .registerWrite .svc 0x400000 0, .registerWrite .svc 2 0, .absentWrite .svc 0x18000000,
      .absentWrite .svc 0x0FFFFFFC, .tableWrite .svc 0x0FFFFFFC [1, 2, 3, 4], .tableWrite .svc 0x18000000 [1, 2, 3, 4],
      .tableWrite .svc 0x10000002 [1, 2, 3, 4], .tableWrite .svc 0x10000000 [1, 2, 3]] : List Instr).all
      (fun c => !c.wf) = true := by decide +kernel

/-- Numbers of lanes, ports, pipelines, Teams, Coursers, outputs and the other numbered things. -/
theorem test_wf_numbers :
    ([.laneIntegrated 48, .linkUp 16, .learnApply 2, .dirRebuildDone 16, .add 128 .none, .pwmPeriod 20, .dieLinkTransfer 18 true true true,
      .configRequest 32 {}, .configRequest 0 { numVfs := some 32 }, .configRequest 0 { at_ := 1024 }, .endpointFrameDelivery 3 0 false, .pipelineFrame 86 0, .frerReset 0 1024,
      .holStall 32 0 0, .holStall 0 32 0, .holStall 0 0 8, .streamGateEntry 32, .hwr 262144, .hrd .svc 0 ⟨4, .clean⟩, .deferredRelease 2,
      .eventSend 65536, .timeStep .svc 4, .triggerFire 32, .captureEdge 16 true 0, .jobStart 5 none, .frameJobDone 4,
      .keyInfo .svc 4096, .tamperAssert 4, .ownerCreate .svc 256, .stateTargetWrite .svc 4, .shedReevaluate 5, .sarPeriod 8,
      .hobbleCopyMismatch 1744 true 0, .pendClear .svc 48 0, .coalesceWindowEnd 1536, .flr 32, .qpTxPost .svc 64 0,
      .txRequest .svc 0 8 0, .watermarkWrite .svc 0 2 0, .linHeader 0 ⟨64, 11, 19200⟩, .steeringRuleCommit .svc 0 64 0,
      .teamFrameArrival 0 8, .arbiterGrant 21 0 none 0, .svcWrite 65536 [] false, .svcRead 0 256 false, .svcWindow 65536 false,
      .program .svc 98304] : List Instr).all (fun c => !c.wf) = true := by decide +kernel

/-- Widths, opcodes and lengths. -/
theorem test_wf_widths_and_lengths :
    ([.bootBistPartitionDone 65536, .nvmUndefinedOpcode .svc 1, .farUndefinedOpcode .svc 1, .keyUndefinedOpcode .svc 7,
      .laneFaultRecovery 0 8, .protocolException 0 3, .canFrameReceived 0 { format := 4 } 0,
      .canFrameReceived 0 { id := 2048 } 0, .canFrameReceived 0 { data := List.replicate 9 0 } 0,
      .canFrameReceived 0 { vcid := 256 } 0, .canFrameReceived 0 { sdt := 256 } 0, .canFrameReceived 0 { af := 2 ^ 32 } 0,
      .ethFrameReceived 0 (List.replicate 9217 0) {} 0, .schedulerMatching (some (32, 0)) none false, .incrementCommit .svc 0 (2 ^ 32),
      .jobSubmit .svc 0 [], .debugUnlock [], .ringMessage [], .tamperLatchClear .svc 16, .sequenceDone [4096],
      .batMeasDone (List.replicate 17 0) 0, .openWirePhase (List.replicate 17 0), .currentSample (List.replicate 21 0),
      .journalRdWrite .svc true 8192, .hostLinkUp 16 0, .hostLinkUp 0 8, .linResponseEnd 0 [] 256 false 0 0] : List Instr).all
      (fun c => !c.wf) = true := by decide +kernel

/-! ### Encodings and worked examples of the specification -/

/-- No row of the opcode table gives bits, so no word spells a command. -/
theorem test_no_table_words : decodeTableWord 32 0 = none ∧ decodeTableWord 0 0 = none := by decide

/-- The worked example "the L5 program on Team T3": six words built from the formats of R279. -/
theorem test_l5_program_words :
    formA 0x31 10 1 0 0 = 0xC5410000 ∧ formA 0x26 15 12 2 0x28 = 0x99EC1028 ∧ formI 8 16 15 31 = 0x220F001F ∧
      formI 0x2D 15 0 18962 = 0xB5E04A12 ∧ formA 0x35 0 0 0 0 = 0xD4000000 ∧ formJ 0x1E 0 (-6) = 0x781FFFFA := by
  decide +kernel

/-- A general register after a command. -/
def gregAfter (c : Instr) (s : State) (r : Nat) : Option Word :=
  match exec c s with
  | .next t => some (t.greg 0 r)
  | _ => none

/-- The program counter after a command. -/
def pcAfter (c : Instr) (s : State) : Option Nat :=
  match exec c s with
  | .next t => some (t.crs 0).pc
  | _ => none

/-- A register of the register map after a command. -/
def regAfter (c : Instr) (s : State) (a : Nat) : Option Word :=
  match exec c s with
  | .next t => some (t.reg a)
  | _ => none

/-- SCALE of the same program (R283): −10 × 768 >> 8, and 5, is −25. -/
theorem test_scale_word : gregAfter (.scale 0 .none) (crs 0x99EC1028 [(2, 768), (3, 5), (12, -10)]) 15 = some (-25) := by
  decide +kernel

/-- SRAI by 31 of a negative value. -/
theorem test_srai_word : gregAfter (.srai 0 .none) (crs 0x220F001F [(15, 0x80000000)]) 16 = some 0xFFFFFFFF := by decide +kernel

/-- JAL with offset −6 from word 5 goes to word 0. -/
theorem test_jal_word :
    pcAfter (.jal 0 .none)
      { live with teams := { coursers := [(0, { named := true, run := .running, pc := 5 })], imem := [(5, 0x781FFFFA)] } } =
      some 0 := by decide +kernel

/-- A source that is also the destination: MUL g1, g1, g1 (op 0, func 0x00B). -/
theorem test_mul_in_place : gregAfter (.mul 0 .none) (crs (formA 0 1 1 1 0x00B) [(1, 0x10001)]) 1 = some 0x20001 := by
  decide +kernel

/-- Writes to g0 are ignored (R271). -/
theorem test_g0 : gregAfter (.addi 0 .none) (crs (formI 1 0 0 5)) 0 = some 0 := by decide +kernel

/-- The bit timings of the example zone (R118): 500 kb/s and 2 Mb/s, 1 Mb/s and 10 Mb/s. -/
theorem test_bit_timings :
    nominalTiming 500000 = some (1, 127, 32) ∧ dataTiming 2000000 = some (1, 27, 12) ∧
      nominalTiming 1000000 = some (1, 63, 16) ∧ dataTiming 10000000 = some (1, 5, 2) := by decide +kernel

/-- Addresses of the worked examples of chapter 21: L9's RXQ0 indices, slot 18,962, the routing of PLK_DOWN and its
pending register. -/
theorem test_addresses :
    LANE_RXQ0_IDX 9 = 0x184924 ∧ slotAt 18962 = 0x1304A120 ∧ EVC_SRC 1457 = 0x226C4 ∧ EVC_PEND 45 = 0x201B4 := by
  decide +kernel

/-- The routing of PLK_DOWN reads 0x9E00_0000 after reset (chapter 21). -/
theorem test_plk_down_routing : State.reset.reg (EVC_SRC 1457) = 0x9E000000 := by decide +kernel

/-- A W1C write of bit 17 to EVC_PEND45 clears source 1457 (worked example of chapter 20). -/
theorem test_pend_clear : regAfter (.pendClear .svc 45 0x20000) (sets live [(pendFld 1457, 1)]) (EVC_PEND 45) = some 0 := by
  decide +kernel

/-- The NTSCF frame and the container message of the worked example "the container from frame 0x2C1", up to the
timestamp. -/
theorem test_container :
    let s := entry (sets live [(SIG_GW_MAC_HI_mac_hi, 0x024C), (SIG_GW_MAC_LO_mac_lo, 0x4E00010F), (SIG_GW_CFG_zone, 1),
        (SIG_GW_CFG_kc_type, 0x7A)]) (routeAt 0x410)
      [(ETHD_mac_hi, 0x024C), (ETHD_mac_lo, 0x4E000001), (ETHD_tagged, 1), (ETHD_pcp, 6), (ETHD_vid, 7),
        (ETHD_stream_id_hi, 0x024C4E00), (ETHD_stream_id_lo, 0x010F0410)]
    let t := { s with gw := { s.gw with defs := [(0x410, { kcSeq := 0x1A2B })] } }
    let m := t.containerBytes 0x410 false false (List.replicate 36 0)
    m.take 8 = [0xF4, 0x0D, 0x10, 0x01, 0x04, 0x10, 0x1A, 0x2B] ∧ (t.ethDefBytes 0x410 0x5D m).length = 92 ∧
      (t.ethDefBytes 0x410 0x5D m).take 30 =
        [0x02, 0x4C, 0x4E, 0, 0, 1, 0x02, 0x4C, 0x4E, 0, 1, 0x0F, 0x81, 0, 0xC0, 0x07, 0x22, 0xF0, 0x82, 0x80, 0x34, 0x5D,
          0x02, 0x4C, 0x4E, 0, 1, 0x0F, 4, 0x10] := by decide +kernel

/-- A step runs the command at the front of the queue and leaves the rest. -/
theorem test_pending_command_runs_first :
    step ({ State.reset with pending := [.testReset, .vbatValid] }) = .next { State.reset with pending := [.vbatValid] } := by
  rfl

/-- From reset the first command of a cold start is VBAT_VALID (R73). -/
theorem test_cold_start : exec .vbatValid State.reset = .next { State.reset with boot := .aonUp } := by rfl

/-- RESET leaves memories in canonical form. -/
theorem test_reset_memory : State.reset.memOk = true := by decide +kernel

/-! ### Witnesses of the hypotheses of each statement -/

theorem test_witness_courserArithmetic :
    (∃ (s : Machine.State) (k : Nat) (rd : Nat) (rs1 : Nat) (rs2 : Nat) (ecc : EccHit) (e : (Nat → EccHit → Instr) ×
     Nat × Nat × (Word → Word → Word)), ecc ≠ EccHit.imem ∧ rd < 32 ∧ rs1 < 32 ∧ rs2 < 32 ∧ e ∈ aluTable ∧ s.Issues k
     (formA 0 rd rs1 rs2 e.snd.fst)) ∧
    (∃ (s : Machine.State) (k : Nat) (rd : Nat) (rs1 : Nat) (imm : BitVec 16) (ecc : EccHit) (e : (Nat → EccHit →
     Instr) × Nat × (BitVec 16 → Word) × (Word → Word → Word)), ecc ≠ EccHit.imem ∧ rd < 32 ∧ rs1 < 32 ∧ e ∈ immTable
     ∧ s.Issues k (formI e.snd.fst rd rs1 imm)) ∧
    (∃ (s : Machine.State) (k : Nat) (rd : Nat) (rs1 : Nat) (imm : BitVec 16) (ecc : EccHit) (e : (Nat → EccHit →
     Instr) × Nat × (Word → Nat → Word)), ecc ≠ EccHit.imem ∧ rd < 32 ∧ rs1 < 32 ∧ e ∈ shiftTable ∧ s.Issues k (formI
     e.snd.fst rd rs1 imm) ∧ imm.toNat < 32) ∧
    (∃ (s : Machine.State) (k : Nat) (rd : Nat) (rs1 : Nat) (imm : BitVec 16) (ecc : EccHit) (e : (Nat → EccHit →
     Instr) × Nat × (Word → Nat → Word)), ecc ≠ EccHit.imem ∧ rd < 32 ∧ rs1 < 32 ∧ e ∈ shiftTable ∧ s.Issues k (formI
     e.snd.fst rd rs1 imm) ∧ 32 ≤ imm.toNat) ∧
    (∃ (s : Machine.State) (k : Nat) (rd : Nat) (rs1 : Nat) (imm : BitVec 16) (ecc : EccHit), ecc ≠ EccHit.imem ∧ rd <
     32 ∧ rs1 < 32 ∧ s.Issues k (formI 9 rd rs1 imm) ∧ rs1 = 0) ∧
    (∃ (s : Machine.State) (k : Nat) (rd : Nat) (rs1 : Nat) (imm : BitVec 16) (ecc : EccHit), ecc ≠ EccHit.imem ∧ rd <
     32 ∧ rs1 < 32 ∧ s.Issues k (formI 9 rd rs1 imm) ∧ rs1 ≠ 0) :=
  ⟨⟨crs (formA 0 1 2 3 aluTable[0].2.1), 0, 1, 2, 3, .none, aluTable[0], by decide +kernel, by decide +kernel,
     by decide +kernel, by decide +kernel, by simp [aluTable], ⟨by decide +kernel, by decide +kernel⟩⟩,
   ⟨crs (formI immTable[0].2.1 1 2 0xFFFF), 0, 1, 2, 0xFFFF, .none, immTable[0], by decide +kernel,
     by decide +kernel, by decide +kernel, by simp [immTable], ⟨by decide +kernel, by decide +kernel⟩⟩,
   ⟨crs (formI shiftTable[0].2.1 1 2 31), 0, 1, 2, 31, .none, shiftTable[0], by decide +kernel, by decide +kernel,
     by decide +kernel, by simp [shiftTable], ⟨by decide +kernel, by decide +kernel⟩, by decide +kernel⟩,
   ⟨crs (formI shiftTable[0].2.1 1 2 32), 0, 1, 2, 32, .none, shiftTable[0], by decide +kernel, by decide +kernel,
     by decide +kernel, by simp [shiftTable], ⟨by decide +kernel, by decide +kernel⟩, by decide +kernel⟩,
   ⟨crs (formI 9 1 0 0), 0, 1, 0, 0, .none, by decide +kernel, by decide +kernel, by decide +kernel,
     ⟨by decide +kernel, by decide +kernel⟩, by decide +kernel⟩,
   ⟨crs (formI 9 1 2 0), 0, 1, 2, 0, .none, by decide +kernel, by decide +kernel, by decide +kernel,
     ⟨by decide +kernel, by decide +kernel⟩, by decide +kernel⟩⟩

theorem test_witness_courserLoadsAndStores :
    (∃ (s : Machine.State) (k : Nat) (rd : Nat) (rs1 : Nat) (imm : BitVec 16) (ecc : EccHit) (e : (Nat → EccHit →
     Instr) × Nat × Nat × (Nat → Word)), ecc ≠ EccHit.imem ∧ rd < 32 ∧ rs1 < 32 ∧ e ∈ loadTable ∧ s.Issues k (formI
     e.snd.fst rd rs1 imm) ∧ s.loadAddr k rs1 imm % e.snd.snd.fst = 0 ∧ s.loadAddr k rs1 imm < 32768 ∧ ecc ≠
     EccHit.dmem) ∧
    (∃ (s : Machine.State) (k : Nat) (rd : Nat) (rs1 : Nat) (imm : BitVec 16) (ecc : EccHit) (e : (Nat → EccHit →
     Instr) × Nat × Nat × (Nat → Word)), ecc ≠ EccHit.imem ∧ rd < 32 ∧ rs1 < 32 ∧ e ∈ loadTable ∧ s.Issues k (formI
     e.snd.fst rd rs1 imm) ∧ s.loadAddr k rs1 imm % e.snd.snd.fst ≠ 0) ∧
    (∃ (s : Machine.State) (k : Nat) (rd : Nat) (rs1 : Nat) (imm : BitVec 16) (ecc : EccHit) (e : (Nat → EccHit →
     Instr) × Nat × Nat × (Nat → Word)), ecc ≠ EccHit.imem ∧ rd < 32 ∧ rs1 < 32 ∧ e ∈ loadTable ∧ s.Issues k (formI
     e.snd.fst rd rs1 imm) ∧ s.loadAddr k rs1 imm % e.snd.snd.fst = 0 ∧ 32768 ≤ s.loadAddr k rs1 imm) ∧
    (∃ (s : Machine.State) (k : Nat) (rd : Nat) (rs1 : Nat) (imm : BitVec 16) (ecc : EccHit) (e : (Nat → EccHit →
     Instr) × Nat × Nat × (Nat → Word)), ecc ≠ EccHit.imem ∧ rd < 32 ∧ rs1 < 32 ∧ e ∈ loadTable ∧ s.Issues k (formI
     e.snd.fst rd rs1 imm) ∧ s.loadAddr k rs1 imm % e.snd.snd.fst = 0 ∧ s.loadAddr k rs1 imm < 32768 ∧ ecc =
     EccHit.dmem) ∧
    (∃ (s : Machine.State) (k : Nat) (rd : Nat) (rs1 : Nat) (imm : BitVec 16) (ecc : EccHit) (e : (Nat → EccHit →
     Instr) × Nat × Nat), ecc ≠ EccHit.imem ∧ rd < 32 ∧ rs1 < 32 ∧ e ∈ storeTable ∧ s.Issues k (formI e.snd.fst rd rs1
     imm) ∧ s.loadAddr k rs1 imm % e.snd.snd = 0 ∧ s.loadAddr k rs1 imm < 32768) ∧
    (∃ (s : Machine.State) (k : Nat) (rd : Nat) (rs1 : Nat) (imm : BitVec 16) (ecc : EccHit) (e : (Nat → EccHit →
     Instr) × Nat × Nat), ecc ≠ EccHit.imem ∧ rd < 32 ∧ rs1 < 32 ∧ e ∈ storeTable ∧ s.Issues k (formI e.snd.fst rd rs1
     imm) ∧ s.loadAddr k rs1 imm % e.snd.snd ≠ 0) ∧
    (∃ (s : Machine.State) (k : Nat) (rd : Nat) (rs1 : Nat) (imm : BitVec 16) (ecc : EccHit) (e : (Nat → EccHit →
     Instr) × Nat × Nat), ecc ≠ EccHit.imem ∧ rd < 32 ∧ rs1 < 32 ∧ e ∈ storeTable ∧ s.Issues k (formI e.snd.fst rd rs1
     imm) ∧ s.loadAddr k rs1 imm % e.snd.snd = 0 ∧ 32768 ≤ s.loadAddr k rs1 imm) :=
  ⟨⟨crs (formI loadTable[0].2.1 1 2 0x7FFC), 0, 1, 2, 0x7FFC, .none, loadTable[0], by decide +kernel,
     by decide +kernel, by decide +kernel, by simp [loadTable], ⟨by decide +kernel, by decide +kernel⟩,
     by and_intros <;> decide +kernel⟩,
   ⟨crs (formI loadTable[0].2.1 1 2 1), 0, 1, 2, 1, .none, loadTable[0], by decide +kernel, by decide +kernel,
     by decide +kernel, by simp [loadTable], ⟨by decide +kernel, by decide +kernel⟩, by decide +kernel⟩,
   ⟨crs (formI loadTable[0].2.1 1 2 0x7FFC) [(2, 4)], 0, 1, 2, 0x7FFC, .none, loadTable[0], by decide +kernel,
     by decide +kernel, by decide +kernel, by simp [loadTable], ⟨by decide +kernel, by decide +kernel⟩,
     by and_intros <;> decide +kernel⟩,
   ⟨crs (formI loadTable[0].2.1 1 2 0x7FFC), 0, 1, 2, 0x7FFC, .dmem, loadTable[0], by decide +kernel,
     by decide +kernel, by decide +kernel, by simp [loadTable], ⟨by decide +kernel, by decide +kernel⟩,
     by and_intros <;> decide +kernel⟩,
   ⟨crs (formI storeTable[0].2.1 1 2 0x7FFC), 0, 1, 2, 0x7FFC, .none, storeTable[0], by decide +kernel,
     by decide +kernel, by decide +kernel, by simp [storeTable], ⟨by decide +kernel, by decide +kernel⟩,
     by and_intros <;> decide +kernel⟩,
   ⟨crs (formI storeTable[0].2.1 1 2 1), 0, 1, 2, 1, .none, storeTable[0], by decide +kernel, by decide +kernel,
     by decide +kernel, by simp [storeTable], ⟨by decide +kernel, by decide +kernel⟩, by decide +kernel⟩,
   ⟨crs (formI storeTable[0].2.1 1 2 0x7FFC) [(2, 4)], 0, 1, 2, 0x7FFC, .none, storeTable[0], by decide +kernel,
     by decide +kernel, by decide +kernel, by simp [storeTable], ⟨by decide +kernel, by decide +kernel⟩,
     by and_intros <;> decide +kernel⟩⟩

theorem test_witness_courserBranchesAndJumps :
    (∃ (s : Machine.State) (k : Nat) (ra : Nat) (rb : Nat) (off : BitVec 16) (ecc : EccHit) (e : (Nat → EccHit →
     Instr) × Nat × (Word → Word → Bool)), ecc ≠ EccHit.imem ∧ ra < 32 ∧ rb < 32 ∧ e ∈ branchTable ∧ s.Issues k (formI
     e.snd.fst ra rb off) ∧ e.snd.snd (s.greg k ra) (s.greg k rb) = false) ∧
    (∃ (s : Machine.State) (k : Nat) (ra : Nat) (rb : Nat) (off : BitVec 16) (ecc : EccHit) (e : (Nat → EccHit →
     Instr) × Nat × (Word → Word → Bool)), ecc ≠ EccHit.imem ∧ ra < 32 ∧ rb < 32 ∧ e ∈ branchTable ∧ s.Issues k (formI
     e.snd.fst ra rb off) ∧ e.snd.snd (s.greg k ra) (s.greg k rb) = true ∧ inImem (↑(s.crs k).pc + 1 + off.toInt)) ∧
    (∃ (s : Machine.State) (k : Nat) (ra : Nat) (rb : Nat) (off : BitVec 16) (ecc : EccHit) (e : (Nat → EccHit →
     Instr) × Nat × (Word → Word → Bool)), ecc ≠ EccHit.imem ∧ ra < 32 ∧ rb < 32 ∧ e ∈ branchTable ∧ s.Issues k (formI
     e.snd.fst ra rb off) ∧ e.snd.snd (s.greg k ra) (s.greg k rb) = true ∧ (¬inImem (↑(s.crs k).pc + 1 + off.toInt))) ∧
    (∃ (s : Machine.State) (k : Nat) (ra : Nat) (rb : Nat) (far : BitVec 21) (ecc : EccHit), ecc ≠ EccHit.imem ∧ ra <
     32 ∧ rb < 32 ∧ s.Issues k (formJ 30 ra far) ∧ inImem (↑(s.crs k).pc + 1 + far.toInt)) ∧
    (∃ (s : Machine.State) (k : Nat) (ra : Nat) (rb : Nat) (far : BitVec 21) (ecc : EccHit), ecc ≠ EccHit.imem ∧ ra <
     32 ∧ rb < 32 ∧ s.Issues k (formJ 30 ra far) ∧ (¬inImem (↑(s.crs k).pc + 1 + far.toInt))) ∧
    (∃ (s : Machine.State) (k : Nat) (ra : Nat) (rb : Nat) (off : BitVec 16) (ecc : EccHit), ecc ≠ EccHit.imem ∧ ra <
     32 ∧ rb < 32 ∧ s.Issues k (formI 31 ra rb off) ∧ s.loadAddr k rb off < 4096) ∧
    (∃ (s : Machine.State) (k : Nat) (ra : Nat) (rb : Nat) (off : BitVec 16) (ecc : EccHit), ecc ≠ EccHit.imem ∧ ra <
     32 ∧ rb < 32 ∧ s.Issues k (formI 31 ra rb off) ∧ 4096 ≤ s.loadAddr k rb off) :=
  ⟨⟨crs (formI branchTable[0].2.1 1 2 0) [(1, 7)], 0, 1, 2, 0, .none, branchTable[0], by decide +kernel,
     by decide +kernel, by decide +kernel, by simp [branchTable], ⟨by decide +kernel, by decide +kernel⟩,
     by decide +kernel⟩,
   ⟨crs (formI branchTable[0].2.1 1 2 0xFFFF), 0, 1, 2, 0xFFFF, .none, branchTable[0], by decide +kernel,
     by decide +kernel, by decide +kernel, by simp [branchTable], ⟨by decide +kernel, by decide +kernel⟩,
     by decide +kernel, by unfold inImem; decide +kernel⟩,
   ⟨crs (formI branchTable[0].2.1 1 2 0xFFFE), 0, 1, 2, 0xFFFE, .none, branchTable[0], by decide +kernel,
     by decide +kernel, by decide +kernel, by simp [branchTable], ⟨by decide +kernel, by decide +kernel⟩,
     by decide +kernel, by unfold inImem; decide +kernel⟩,
   ⟨crs (formJ 30 1 0xFFE), 0, 1, 2, 0xFFE, .none, by decide +kernel, by decide +kernel, by decide +kernel,
     ⟨by decide +kernel, by decide +kernel⟩, by unfold inImem; decide +kernel⟩,
   ⟨crs (formJ 30 1 0xFFF), 0, 1, 2, 0xFFF, .none, by decide +kernel, by decide +kernel, by decide +kernel,
     ⟨by decide +kernel, by decide +kernel⟩, by unfold inImem; decide +kernel⟩,
   ⟨crs (formI 31 1 2 0xFFF), 0, 1, 2, 0xFFF, .none, by decide +kernel, by decide +kernel, by decide +kernel,
     ⟨by decide +kernel, by decide +kernel⟩, by decide +kernel⟩,
   ⟨crs (formI 31 1 2 0x1000), 0, 1, 2, 0x1000, .none, by decide +kernel, by decide +kernel, by decide +kernel,
     ⟨by decide +kernel, by decide +kernel⟩, by decide +kernel⟩⟩

theorem test_witness_courserFieldsAndScaling :
    (∃ (s : Machine.State) (k : Nat) (rd : Nat) (rs1 : Nat) (rs2 : Nat) (lenM1 : Nat) (sgn : Nat) (be : Nat) (pos :
     Nat) (ecc : EccHit), ecc ≠ EccHit.imem ∧ ecc ≠ EccHit.dmem ∧ rd < 32 ∧ rs1 < 32 ∧ rs2 < 32 ∧ lenM1 < 32 ∧ sgn < 2
     ∧ be < 2 ∧ pos < 512 ∧ s.Issues k (formX 32 rd rs1 lenM1 sgn be pos) ∧ fieldInside (BitVec.toNat (s.greg k rs1))
     (bitWalk (be == 1) (lenM1 + 1) ↑pos)) ∧
    (∃ (s : Machine.State) (k : Nat) (rd : Nat) (rs1 : Nat) (rs2 : Nat) (lenM1 : Nat) (sgn : Nat) (be : Nat) (pos :
     Nat) (ecc : EccHit), ecc ≠ EccHit.imem ∧ ecc ≠ EccHit.dmem ∧ rd < 32 ∧ rs1 < 32 ∧ rs2 < 32 ∧ lenM1 < 32 ∧ sgn < 2
     ∧ be < 2 ∧ pos < 512 ∧ s.Issues k (formX 32 rd rs1 lenM1 sgn be pos) ∧ BitVec.toNat (s.greg k rs1) < 2 ^ 31 ∧
     (¬fieldInside (BitVec.toNat (s.greg k rs1)) (bitWalk (be == 1) (lenM1 + 1) ↑pos))) ∧
    (∃ (s : Machine.State) (k : Nat) (rd : Nat) (rs1 : Nat) (rs2 : Nat) (lenM1 : Nat) (sgn : Nat) (be : Nat) (pos :
     Nat) (ecc : EccHit), ecc ≠ EccHit.imem ∧ ecc ≠ EccHit.dmem ∧ rd < 32 ∧ rs1 < 32 ∧ rs2 < 32 ∧ lenM1 < 32 ∧ sgn < 2
     ∧ be < 2 ∧ pos < 512 ∧ s.Issues k (formX 33 rd rs1 lenM1 0 be pos) ∧ fieldInside (BitVec.toNat (s.greg k rs1))
     (bitWalk (be == 1) (lenM1 + 1) ↑pos)) ∧
    (∃ (s : Machine.State) (k : Nat) (rd : Nat) (rs1 : Nat) (rs2 : Nat) (lenM1 : Nat) (sgn : Nat) (be : Nat) (pos :
     Nat) (ecc : EccHit), ecc ≠ EccHit.imem ∧ ecc ≠ EccHit.dmem ∧ rd < 32 ∧ rs1 < 32 ∧ rs2 < 32 ∧ lenM1 < 32 ∧ sgn < 2
     ∧ be < 2 ∧ pos < 512 ∧ s.Issues k (formX 33 rd rs1 lenM1 0 be pos) ∧ BitVec.toNat (s.greg k rs1) < 2 ^ 31 ∧
     (¬fieldInside (BitVec.toNat (s.greg k rs1)) (bitWalk (be == 1) (lenM1 + 1) ↑pos))) ∧
    (∃ (s : Machine.State) (k : Nat) (rd : Nat) (rs1 : Nat) (rs2 : Nat) (lenM1 : Nat) (sgn : Nat) (be : Nat) (pos :
     Nat) (ecc : EccHit), ecc ≠ EccHit.imem ∧ ecc ≠ EccHit.dmem ∧ rd < 32 ∧ rs1 < 32 ∧ rs2 < 32 ∧ lenM1 < 32 ∧ sgn < 2
     ∧ be < 2 ∧ pos < 512 ∧ s.Issues k (formA 34 rd rs1 rs2 (lenM1 * 64 + sgn * 32 + be * 16)) ∧ fieldInside
     (BitVec.toNat (s.greg k rs1)) (bitWalk (be == 1) (lenM1 + 1) ↑(BitVec.toNat (s.greg k rs2) % 4096))) ∧
    (∃ (s : Machine.State) (k : Nat) (rd : Nat) (rs1 : Nat) (rs2 : Nat) (lenM1 : Nat) (sgn : Nat) (be : Nat) (pos :
     Nat) (ecc : EccHit) (c : (Nat → EccHit → Instr) × Nat × Nat), ecc ≠ EccHit.imem ∧ ecc ≠ EccHit.dmem ∧ rd < 32 ∧
     rs1 < 32 ∧ rs2 < 32 ∧ lenM1 < 32 ∧ sgn < 2 ∧ be < 2 ∧ pos < 512 ∧ c ∈ [(Instr.bfxr, 34, sgn), (Instr.bfir, 35,
     0)] ∧ s.Issues k (formA c.snd.fst rd rs1 rs2 (lenM1 * 64 + c.snd.snd * 32 + be * 16)) ∧ BitVec.toNat (s.greg k
     rs1) < 2 ^ 31 ∧ (¬fieldInside (BitVec.toNat (s.greg k rs1)) (bitWalk (be == 1) (lenM1 + 1) ↑(BitVec.toNat (s.greg
     k rs2) % 4096)))) ∧
    (∃ (s : Machine.State) (k : Nat) (rd : Nat) (rs1 : Nat) (rs2 : Nat) (lenM1 : Nat) (sgn : Nat) (be : Nat) (pos :
     Nat) (ecc : EccHit), ecc ≠ EccHit.imem ∧ ecc ≠ EccHit.dmem ∧ rd < 32 ∧ rs1 < 32 ∧ rs2 < 32 ∧ lenM1 < 32 ∧ sgn < 2
     ∧ be < 2 ∧ pos < 512 ∧ s.Issues k (formA 35 rd rs1 rs2 (lenM1 * 64 + be * 16)) ∧ fieldInside (BitVec.toNat
     (s.greg k rs1)) (bitWalk (be == 1) (lenM1 + 1) ↑(BitVec.toNat (s.greg k rs2) % 4096))) ∧
    (∃ (s : Machine.State) (k : Nat) (rd : Nat) (rs1 : Nat) (rs2 : Nat) (ecc : EccHit) (i : Nat), ecc ≠ EccHit.imem ∧
     rd < 32 ∧ rs1 < 32 ∧ rs2 < 32 ∧ i < 4 ∧ s.Issues k (formA 36 rd rs1 rs2 i)) ∧
    (∃ (s : Machine.State) (k : Nat) (rd : Nat) (rs1 : Nat) (rs2 : Nat) (ecc : EccHit) (i : Nat), ecc ≠ EccHit.imem ∧
     rd < 32 ∧ rs1 < 32 ∧ rs2 < 32 ∧ i < 4 ∧ s.Issues k (formA 37 rd rs1 rs2 i)) ∧
    (∃ (s : Machine.State) (k : Nat) (rd : Nat) (rs1 : Nat) (rs2 : Nat) (ecc : EccHit) (shift : Nat) (sgn : Nat) (sat
     : Nat), ecc ≠ EccHit.imem ∧ rd < 32 ∧ rs1 < 32 ∧ rs2 < 32 ∧ shift < 32 ∧ sgn < 2 ∧ sat < 2 ∧ rs2 ≤ 30 ∧ s.Issues
     k (formA 38 rd rs1 rs2 (sat * 64 + sgn * 32 + shift))) :=
  ⟨⟨crs (formX 32 1 2 31 1 0 480), 0, 1, 2, 3, 31, 1, 0, 480, .none, by decide +kernel, by decide +kernel,
     by decide +kernel, by decide +kernel, by decide +kernel, by decide +kernel, by decide +kernel, by decide +kernel,
     by decide +kernel, ⟨by decide +kernel, by decide +kernel⟩, by unfold fieldInside; decide +kernel⟩,
   ⟨crs (formX 32 1 2 31 1 0 511) [(2, 0x7FFFFFFF)], 0, 1, 2, 3, 31, 1, 0, 511, .none, by decide +kernel,
     by decide +kernel, by decide +kernel, by decide +kernel, by decide +kernel, by decide +kernel, by decide +kernel,
     by decide +kernel, by decide +kernel, ⟨by decide +kernel, by decide +kernel⟩, by decide +kernel,
     by unfold fieldInside; decide +kernel⟩,
   ⟨crs (formX 33 1 2 31 0 0 480), 0, 1, 2, 3, 31, 1, 0, 480, .none, by decide +kernel, by decide +kernel,
     by decide +kernel, by decide +kernel, by decide +kernel, by decide +kernel, by decide +kernel, by decide +kernel,
     by decide +kernel, ⟨by decide +kernel, by decide +kernel⟩, by unfold fieldInside; decide +kernel⟩,
   ⟨crs (formX 33 1 2 31 0 0 511) [(2, 0x7FFFFFFF)], 0, 1, 2, 3, 31, 1, 0, 511, .none, by decide +kernel,
     by decide +kernel, by decide +kernel, by decide +kernel, by decide +kernel, by decide +kernel, by decide +kernel,
     by decide +kernel, by decide +kernel, ⟨by decide +kernel, by decide +kernel⟩, by decide +kernel,
     by unfold fieldInside; decide +kernel⟩,
   ⟨crs (formA 34 1 2 3 (31 * 64 + 32)) [(3, 4064)], 0, 1, 2, 3, 31, 1, 0, 480, .none, by decide +kernel,
     by decide +kernel, by decide +kernel, by decide +kernel, by decide +kernel, by decide +kernel, by decide +kernel,
     by decide +kernel, by decide +kernel, ⟨by decide +kernel, by decide +kernel⟩,
     by unfold fieldInside; decide +kernel⟩,
   ⟨crs (formA 34 1 2 3 (31 * 64 + 32)) [(2, 0x7FFFFFFF), (3, 0xFFF)], 0, 1, 2, 3, 31, 1, 0, 480, .none, (.bfxr, 34,
     1), by decide +kernel, by decide +kernel, by decide +kernel, by decide +kernel, by decide +kernel,
     by decide +kernel, by decide +kernel, by decide +kernel, by decide +kernel, by simp, ⟨by decide +kernel,
     by decide +kernel⟩, by decide +kernel, by unfold fieldInside; decide +kernel⟩,
   ⟨crs (formA 35 1 2 3 (31 * 64)) [(3, 4064)], 0, 1, 2, 3, 31, 1, 0, 480, .none, by decide +kernel,
     by decide +kernel, by decide +kernel, by decide +kernel, by decide +kernel, by decide +kernel, by decide +kernel,
     by decide +kernel, by decide +kernel, ⟨by decide +kernel, by decide +kernel⟩,
     by unfold fieldInside; decide +kernel⟩,
   ⟨crs (formA 36 1 2 3 3), 0, 1, 2, 3, .none, 3, by decide +kernel, by decide +kernel, by decide +kernel,
     by decide +kernel, by decide +kernel, ⟨by decide +kernel, by decide +kernel⟩⟩,
   ⟨crs (formA 37 1 2 3 3), 0, 1, 2, 3, .none, 3, by decide +kernel, by decide +kernel, by decide +kernel,
     by decide +kernel, by decide +kernel, ⟨by decide +kernel, by decide +kernel⟩⟩,
   ⟨crs (formA 38 1 2 30 127), 0, 1, 2, 30, .none, 31, 1, 1, by decide +kernel, by decide +kernel,
     by decide +kernel, by decide +kernel, by decide +kernel, by decide +kernel, by decide +kernel, by decide +kernel,
     ⟨by decide +kernel, by decide +kernel⟩⟩⟩

theorem test_witness_courserSlotInstructions :
    (∃ (s : Machine.State) (k : Nat) (rd : Nat) (rs1 : Nat) (imm : BitVec 16) (ecc : EccHit) (x : Line), ecc =
     EccHit.none ∧ rs1 < 32 ∧ s.slotOf k rs1 imm < 262144 ∧ s.slotCause k (s.slotOf k rs1 imm) = 0 ∧ s.line (k / 8)
     (s.slotOf k rs1 imm) = some x ∧ s.Issues k (formI 44 rd rs1 imm) ∧ rd ≤ 29) ∧
    (∃ (s : Machine.State) (k : Nat) (rd : Nat) (rs1 : Nat) (imm : BitVec 16) (ecc : EccHit) (x : Line), ecc =
     EccHit.none ∧ rs1 < 32 ∧ s.slotOf k rs1 imm < 262144 ∧ s.slotCause k (s.slotOf k rs1 imm) = 0 ∧ s.line (k / 8)
     (s.slotOf k rs1 imm) = some x ∧ s.Issues k (formI 45 rd rs1 imm) ∧ rd ≤ 30 ∧ x.modified = true ∧ ((s.crs
     k).dirty.contains (s.slotOf k rs1 imm) = true ∨ (s.crs k).dirty.length < 16)) ∧
    (∃ (s : Machine.State) (k : Nat) (rd : Nat) (rs1 : Nat) (rs2 : Nat) (x : Line), rd < 32 ∧ rs1 < 32 ∧ rs2 ≤ 30 ∧
     s.Issues k (formA 46 rd rs1 rs2 0) ∧ BitVec.toNat (s.greg k rs1) < 262144 ∧ s.slotCause k (BitVec.toNat (s.greg k
     rs1)) = 0 ∧ s.line (k / 8) (BitVec.toNat (s.greg k rs1)) = some x ∧ x.modified = true ∧ x.version = BitVec.toNat
     (s.greg k rd) % 65536 ∧ ((s.crs k).dirty.contains (BitVec.toNat (s.greg k rs1)) = true ∨ (s.crs k).dirty.length <
     16)) ∧
    (∃ (s : Machine.State) (k : Nat) (rd : Nat) (rs1 : Nat) (rs2 : Nat) (x : Line), rd < 32 ∧ rs1 < 32 ∧ rs2 ≤ 30 ∧
     s.Issues k (formA 46 rd rs1 rs2 0) ∧ BitVec.toNat (s.greg k rs1) < 262144 ∧ s.slotCause k (BitVec.toNat (s.greg k
     rs1)) = 0 ∧ s.line (k / 8) (BitVec.toNat (s.greg k rs1)) = some x ∧ x.modified = true ∧ x.version ≠ BitVec.toNat
     (s.greg k rd) % 65536) :=
  ⟨⟨crsLine (formI 44 29 2 0) false, 0, 29, 2, 0, .none,
     { slot := 0, owner := 0, value := 0, version := 0, modified := false }, by decide +kernel, by decide +kernel,
     by decide +kernel, by decide +kernel, by decide +kernel, ⟨by decide +kernel, by decide +kernel⟩,
     by decide +kernel⟩,
   ⟨crsLine (formI 45 30 2 0) true, 0, 30, 2, 0, .none,
     { slot := 0, owner := 0, value := 0, version := 0, modified := true }, by decide +kernel, by decide +kernel,
     by decide +kernel, by decide +kernel, by decide +kernel, ⟨by decide +kernel, by decide +kernel⟩,
     by and_intros <;> decide +kernel⟩,
   ⟨crsLine (formA 46 1 2 30 0) true, 0, 1, 2, 30,
     { slot := 0, owner := 0, value := 0, version := 0, modified := true }, by decide +kernel, by decide +kernel,
     by decide +kernel, ⟨by decide +kernel, by decide +kernel⟩, by and_intros <;> decide +kernel⟩,
   ⟨crsLine (formA 46 1 2 30 0) true [(1, 1)], 0, 1, 2, 30,
     { slot := 0, owner := 0, value := 0, version := 0, modified := true }, by decide +kernel, by decide +kernel,
     by decide +kernel, ⟨by decide +kernel, by decide +kernel⟩, by and_intros <;> decide +kernel⟩⟩

theorem test_witness_courserWaitsAndQueues :
    (∃ (s : Machine.State) (k : Nat) (rd : Nat) (rs1 : Nat) (rs2 : Nat) (imm : BitVec 16), rd < 32 ∧ rs1 < 32 ∧ rs2 <
     32 ∧ s.Issues k (formI 47 0 rs1 imm) ∧ s.slotOf k rs1 imm < 262144 ∧ s.slotCause k (s.slotOf k rs1 imm) = 0 ∧
     s.line (k / 8) (s.slotOf k rs1 imm) = none) ∧
    (∃ (s : Machine.State) (k : Nat) (rd : Nat) (rs1 : Nat) (rs2 : Nat), rd < 32 ∧ rs1 < 32 ∧ rs2 < 32 ∧ s.Issues k
     (53 * 2 ^ 26) ∧ (s.crs k).dirty = []) ∧
    (∃ (s : Machine.State) (k : Nat) (rd : Nat) (rs1 : Nat) (rs2 : Nat), rd < 32 ∧ rs1 < 32 ∧ rs2 < 32 ∧ s.Issues k
     (formA 49 rd rs1 0 0) ∧ (s.crs k).dirty = [] ∧ (bitOf (BitVec.toNat (s.greg k rs1)) 0 = true → rd ≤ 27)) ∧
    (∃ (s : Machine.State) (k : Nat) (rd : Nat) (rs1 : Nat) (rs2 : Nat) (d : Nat), rd < 32 ∧ rs1 < 32 ∧ rs2 < 32 ∧ d <
     4 ∧ rs1 ≤ 30 ∧ s.Issues k (formA 48 rd rs1 rs2 d) ∧ (s.crs k).dirty = [] ∧ (bitOf (BitVec.toNat (s.greg k rs2)) 0
     = true → rd ≤ 27)) ∧
    (∃ (s : Machine.State) (k : Nat) (rd : Nat) (rs1 : Nat) (rs2 : Nat) (d : Nat), rd < 32 ∧ rs1 < 32 ∧ rs2 < 32 ∧ d <
     4 ∧ rd ≤ 30 ∧ s.Issues k (formA 50 rd 0 0 d)) ∧
    (∃ (s : Machine.State) (k : Nat) (rd : Nat) (rs1 : Nat) (rs2 : Nat) (imm : BitVec 16), rd < 32 ∧ rs1 < 32 ∧ rs2 <
     32 ∧ s.Issues k (formI 51 0 0 imm)) ∧
    (∃ (s : Machine.State) (k : Nat) (rd : Nat) (rs1 : Nat) (rs2 : Nat) (e : WqEntry), rd < 32 ∧ rs1 < 32 ∧ rs2 < 32 ∧
     rd ≤ 27 ∧ s.Issues k (formA 40 rd 0 0 0) ∧ List.find? (fun x => x.owner == (s.crs k).owner) (s.workQ (k / 8)) =
     some e) ∧
    (∃ (s : Machine.State) (k : Nat) (rd : Nat) (rs1 : Nat) (rs2 : Nat) (q : Nat), rd < 32 ∧ rs1 < 32 ∧ rs2 < 32 ∧ 1 ≤
     q ∧ q ≤ 2 ∧ rd ≤ 30 ∧ s.Issues k (formA 40 rd rs1 0 q) ∧ BitVec.toNat (s.greg k rs1) % 16 = 0 ∧ s.fqHead (k / 8)
     (q - 1) (s.crs k).owner = none) ∧
    (∃ (s : Machine.State) (k : Nat) (rd : Nat) (rs1 : Nat) (rs2 : Nat), rd < 32 ∧ rs1 < 32 ∧ rs2 < 32 ∧ s.Issues k
     (formA 41 rd rs1 rs2 0) ∧ rs1 ≤ 28 ∧ teamPresent s.variant (BitVec.toNat (s.greg k rs2) % 16) = true ∧
     s.teamPowered (BitVec.toNat (s.greg k rs2) % 16) = true ∧ s.teamHas (BitVec.toNat (s.greg k rs2) % 16) (s.crs
     k).owner = true ∧ (s.workQ (BitVec.toNat (s.greg k rs2) % 16)).length < 256) ∧
    (∃ (s : Machine.State) (k : Nat) (rd : Nat) (rs1 : Nat) (rs2 : Nat), rd < 32 ∧ rs1 < 32 ∧ rs2 < 32 ∧ s.Issues k
     (formA 52 rd rs1 0 0) ∧ BitVec.toNat (s.greg k rs1) % 64 = 0 ∧ BitVec.toNat (s.greg k rs1) < 32768 ∧ s.teamJobs
     (k / 8) < 4) :=
  ⟨⟨crs (formI 47 0 2 0), 0, 1, 2, 3, 0, by decide +kernel, by decide +kernel, by decide +kernel,
     ⟨by decide +kernel, by decide +kernel⟩, by and_intros <;> decide +kernel⟩,
   ⟨crs (53 * 2 ^ 26), 0, 1, 2, 3, by decide +kernel, by decide +kernel, by decide +kernel, ⟨by decide +kernel,
     by decide +kernel⟩, by decide +kernel⟩,
   ⟨crs (formA 49 27 2 0 0) [(2, 1)], 0, 27, 2, 3, by decide +kernel, by decide +kernel, by decide +kernel,
     ⟨by decide +kernel, by decide +kernel⟩, by and_intros <;> decide +kernel⟩,
   ⟨crs (formA 48 27 2 3 3) [(3, 1)], 0, 27, 2, 3, 3, by decide +kernel, by decide +kernel, by decide +kernel,
     by decide +kernel, by decide +kernel, ⟨by decide +kernel, by decide +kernel⟩, by and_intros <;> decide +kernel⟩,
   ⟨crs (formA 50 30 0 0 3), 0, 30, 2, 3, 3, by decide +kernel, by decide +kernel, by decide +kernel,
     by decide +kernel, by decide +kernel, ⟨by decide +kernel, by decide +kernel⟩⟩,
   ⟨crs (formI 51 0 0 9), 0, 1, 2, 3, 9, by decide +kernel, by decide +kernel, by decide +kernel,
     ⟨by decide +kernel, by decide +kernel⟩⟩,
   ⟨{ crs (formA 40 27 0 0 0) with teams := { (crs (formA 40 27 0 0 0)).teams with workQs := [(0, [⟨1, 2, 3, 4, 0⟩])] } },
     0, 27, 2, 3, ⟨1, 2, 3, 4, 0⟩, by decide +kernel, by decide +kernel, by decide +kernel, by decide +kernel,
     ⟨by decide +kernel, by decide +kernel⟩, by decide +kernel⟩,
   ⟨crs (formA 40 30 2 0 2), 0, 30, 2, 3, 2, by decide +kernel, by decide +kernel, by decide +kernel,
     by decide +kernel, by decide +kernel, by decide +kernel, ⟨by decide +kernel, by decide +kernel⟩,
     by and_intros <;> decide +kernel⟩,
   ⟨crs (formA 41 1 28 3 0), 0, 1, 28, 3, by decide +kernel, by decide +kernel, by decide +kernel,
     ⟨by decide +kernel, by decide +kernel⟩, by and_intros <;> decide +kernel⟩,
   ⟨crs (formA 52 1 2 0 0) [(2, 32704)], 0, 1, 2, 3, by decide +kernel, by decide +kernel, by decide +kernel,
     ⟨by decide +kernel, by decide +kernel⟩, by and_intros <;> decide +kernel⟩⟩

theorem test_witness_courserExceptions :
    (∃ (s : Machine.State) (k : Nat) (w : Nat) (c : Nat → EccHit → Instr), s.Issues k w ∧ w < 2 ^ 32 ∧ c ∈ courserOps
     ∧ opDefined w = false) ∧
    (∃ (s : Machine.State) (k : Nat), k < 128 ∧ s.crsPowered k = true ∧ (s.crs k).run = CrsRun.running ∧ (s.crs
     k).parked = false ∧ s.fget (CRS_TEAM_CFG_run_limit (k / 8)) ≠ 0) ∧
    (∃ (s : Machine.State) (k : Nat) (r : Requester), k < 128 ∧ s.crsPowered k = true ∧ s.privileged r = true ∧
     ((s.crs k).run = CrsRun.running ∨ (s.crs k).run = CrsRun.waiting)) ∧
    (∃ (s : Machine.State) (k : Nat) (r : Requester), k < 128 ∧ s.crsPowered k = true ∧ s.privileged r = true ∧ (s.crs
     k).run = CrsRun.halted ∧ (s.crs k).named = true ∧ (s.crs k).gone = false) ∧
    (∃ (s : Machine.State) (k : Nat), k < 128 ∧ s.crsPowered k = true ∧ s.isSet (CRS_TEAM_CFG_auto_restart (k / 8)) =
     true ∧ (s.crs k).run = CrsRun.halted ∧ (s.crs k).named = true ∧ (s.crs k).gone = false) :=
  ⟨⟨crs (63 * 2 ^ 26), 0, 63 * 2 ^ 26, .add, ⟨by decide +kernel, by decide +kernel⟩, by decide +kernel,
     by simp [courserOps], by decide +kernel⟩,
   ⟨sets (crs 0) [(CRS_TEAM_CFG_run_limit 0, 1)], 0, by and_intros <;> decide +kernel⟩,
   ⟨crs (0), 0, .svc, by and_intros <;> decide +kernel⟩,
   ⟨crs 0 [] .halted, 0, .svc, by and_intros <;> decide +kernel⟩,
   ⟨sets (crs 0 [] .halted) [(CRS_TEAM_CFG_auto_restart 0, 1)], 0, by and_intros <;> decide +kernel⟩⟩

theorem test_witness_homeRequests :
    (∃ (s : Machine.State) (tm : Nat) (slot : Nat) (q : SigReq), s.trans slot = none ∧ s.homeCause q.owner slot = 0 ∧
     s.holders slot = [] ∧ s.teamReq SigKind.getS tm slot = some q) ∧
    (∃ (s : Machine.State) (tm : Nat) (slot : Nat) (q : SigReq), s.trans slot = none ∧ s.homeCause q.owner slot = 0 ∧
     s.holders slot = [] ∧ s.teamReq SigKind.getM tm slot = some q) ∧
    (∃ (s : Machine.State) (tm : Nat) (slot : Nat) (q : SigReq), s.teamReq SigKind.putM tm slot = some q ∧ s.trans
     slot = none ∧ s.holdsM slot tm = false) ∧
    (∃ (s : Machine.State) (tm : Nat) (slot : Nat) (q : SigReq), s.teamReq SigKind.putM tm slot = some q ∧ s.trans
     slot = none ∧ s.holdsM slot tm = true ∧ (s.slot slot).emitCount = 0) ∧
    (∃ (s : Machine.State) (tm : Nat) (slot : Nat) (q : SigReq), s.teamReq SigKind.putS tm slot = some q ∧ s.holdsM
     slot tm = false) ∧
    (∃ (s : Machine.State) (tm : Nat) (slot : Nat), s.sig.putAcks.contains (tm, slot) = true) ∧
    (∃ (s : Machine.State) (slot : Nat) (q : SigReq), slot < 262144 ∧ s.trans slot = none ∧ s.holders slot = [] ∧
     List.find? (fun q => q.kind == SigKind.hWr && q.slot == slot) s.sig.reqs = some q ∧ q.subst = false ∧ q.meta_ =
     none ∧ (s.owner (s.slotOwner slot)).keyValid = true ∧ (s.slot slot).emitCount = 0) ∧
    (∃ (s : Machine.State) (slot : Nat) (r : Requester), slot < 262144 ∧ s.trans slot = none ∧ s.holders slot = [] ∧
     (s.ownerOf r).isSome = true ∧ List.find? (fun q => q.kind == SigKind.hRd && q.slot == slot) s.sig.reqs = none) :=
  ⟨⟨{ live with sig := { reqs := [{ kind := .getS, slot := 0 }] } }, 0, 0, { kind := .getS, slot := 0 },
     by and_intros <;> decide +kernel⟩,
   ⟨{ live with sig := { reqs := [{ kind := .getM, slot := 0 }] } }, 0, 0, { kind := .getM, slot := 0 },
     by and_intros <;> decide +kernel⟩,
   ⟨{ live with sig := { reqs := [{ kind := .putM, slot := 0 }] } }, 0, 0, { kind := .putM, slot := 0 },
     by and_intros <;> decide +kernel⟩,
   ⟨{ live with sig := { reqs := [{ kind := .putM, slot := 0 }], directory := [(0, [(0, true)])] } }, 0, 0,
     { kind := .putM, slot := 0 }, by and_intros <;> decide +kernel⟩,
   ⟨{ live with sig := { reqs := [{ kind := .putS, slot := 0 }] } }, 0, 0, { kind := .putS, slot := 0 },
     by and_intros <;> decide +kernel⟩,
   ⟨{ live with sig := { putAcks := [(0, 0)] } }, 0, 0, by decide +kernel⟩,
   ⟨{ live with sig := { reqs := [{ kind := .hWr, slot := 0 }] } }, 0, { kind := .hWr, slot := 0 },
     by and_intros <;> decide +kernel⟩,
   ⟨live, 262143, .svc, by and_intros <;> decide +kernel⟩⟩

theorem test_witness_snoops :
    (∃ (s : Machine.State) (tm : Nat) (slot : Nat) (l : Line), tm < 16 ∧ s.inEvict tm slot = none ∧ (s.sig.fills.any
     fun f => f.team == tm && f.line.slot == slot) = false ∧ s.line tm slot = some l ∧ s.sig.snoops.contains
     { kind := SnoopKind.fetch, team := tm, slot := slot } = true ∧ l.modified = true) ∧
    (∃ (s : Machine.State) (tm : Nat) (slot : Nat) (l : Line), tm < 16 ∧ s.inEvict tm slot = none ∧ (s.sig.fills.any
     fun f => f.team == tm && f.line.slot == slot) = false ∧ s.line tm slot = some l ∧ s.sig.snoops.contains
     { kind := SnoopKind.fetchInv, team := tm, slot := slot } = true ∧ l.modified = true) ∧
    (∃ (s : Machine.State) (tm : Nat) (slot : Nat) (l : Line), tm < 16 ∧ s.inEvict tm slot = none ∧ (s.sig.fills.any
     fun f => f.team == tm && f.line.slot == slot) = false ∧ s.line tm slot = some l ∧ s.sig.snoops.contains
     { kind := SnoopKind.inv, team := tm, slot := slot } = true ∧ l.modified = false) ∧
    (∃ (s : Machine.State) (tm : Nat) (slot : Nat) (a : SnoopAnswer) (x : SigTrans), a.team = tm ∧ a.slot = slot ∧
     s.trans slot = some x ∧ List.filter (fun x => x != tm) x.waits ≠ [] ∧ (s.answerOf tm slot fun a => a.data.isSome)
     = some (a, x) ∧ x.got.contains tm = true) ∧
    (∃ (s : Machine.State) (tm : Nat) (slot : Nat) (a : SnoopAnswer) (x : SigTrans), a.team = tm ∧ a.slot = slot ∧
     s.trans slot = some x ∧ List.filter (fun x => x != tm) x.waits ≠ [] ∧ (s.answerOf tm slot fun a => a.data.isNone
     && !a.absent) = some (a, x)) ∧
    (∃ (s : Machine.State) (tm : Nat) (slot : Nat) (a : SnoopAnswer) (x : SigTrans), a.team = tm ∧ a.slot = slot ∧
     s.trans slot = some x ∧ List.filter (fun x => x != tm) x.waits ≠ [] ∧ (s.answerOf tm slot fun a => a.absent) =
     some (a, x)) :=
  ⟨⟨{ live with teams := { caches := [(0, [{ slot := 0, owner := 0, value := 0, version := 0, modified := true }])] }, sig := { snoops := [⟨.fetch, 0, 0⟩] } },
     0, 0, { slot := 0, owner := 0, value := 0, version := 0, modified := true }, by and_intros <;> decide +kernel⟩,
   ⟨{ live with teams := { caches := [(0, [{ slot := 0, owner := 0, value := 0, version := 0, modified := true }])] }, sig := { snoops := [⟨.fetchInv, 0, 0⟩] } },
     0, 0, { slot := 0, owner := 0, value := 0, version := 0, modified := true }, by and_intros <;> decide +kernel⟩,
   ⟨{ live with teams := { caches := [(0, [{ slot := 0, owner := 0, value := 0, version := 0, modified := false }])] }, sig := { snoops := [⟨.inv, 0, 0⟩] } },
     0, 0, { slot := 0, owner := 0, value := 0, version := 0, modified := false }, by and_intros <;> decide +kernel⟩,
   ⟨{ live with sig := { trans := [(0, some { req := { kind := .getM, slot := 0, team := 2 }, waits := [0, 1], got := [0] })], answers := [{ team := 0, slot := 0, data := some (5, 1) }] } },
     0, 0, { team := 0, slot := 0, data := some (5, 1) },
     { req := { kind := .getM, slot := 0, team := 2 }, waits := [0, 1], got := [0] },
     by and_intros <;> decide +kernel⟩,
   ⟨{ live with sig := { trans := [(0, some { req := { kind := .getM, slot := 0, team := 2 }, waits := [0, 1], got := [0] })], answers := [{ team := 0, slot := 0 }] } },
     0, 0, { team := 0, slot := 0 }, { req := { kind := .getM, slot := 0, team := 2 }, waits := [0, 1], got := [0] },
     by and_intros <;> decide +kernel⟩,
   ⟨{ live with sig := { trans := [(0, some { req := { kind := .getM, slot := 0, team := 2 }, waits := [0, 1], got := [0] })], answers := [{ team := 0, slot := 0, absent := true }] } },
     0, 0, { team := 0, slot := 0, absent := true },
     { req := { kind := .getM, slot := 0, team := 2 }, waits := [0, 1], got := [0] },
     by and_intros <;> decide +kernel⟩⟩

theorem test_witness_teamArrivalsAndStoreUpkeep :
    (∃ (s : Machine.State) (r : Requester) (tm : Nat) (o : Nat), tm < 16 ∧ teamPresent s.variant tm = true ∧ s.ownerOf
     r = some o ∧ s.teamPowered tm = true ∧ s.teamHas tm o = true ∧ (s.workQ tm).length < 256) ∧
    (∃ (s : Machine.State) (tm : Nat) (c : Nat) (f : Frame) (rest : List Frame), tm < 16 ∧ teamPresent s.variant tm =
     true ∧ c < 8 ∧ s.egressQ (8 * (64 + tm) + c) = f :: rest ∧ f.arrived = false ∧ f.bytes.length ≤ 2048 ∧ s.teamHas
     tm f.owner = true) ∧
    (∃ (s : Machine.State) (r : Requester) (tm : Nat), tm < 16 ∧ teamPresent s.variant tm = true ∧ s.privileged r =
     true) ∧
    (∃ (s : Machine.State) (tm : Nat) (c : Nat), tm < 16 ∧ teamPresent s.variant tm = true ∧ c < 8 ∧ s.crsPowered (8 *
     tm + c) = true ∧ (s.crs (8 * tm + c)).run = CrsRun.waiting ∧ s.causes (8 * tm + c) = 16 ∧ bitOf (s.crs (8 * tm +
     c)).mask 4 = true ∧ s.teamStopped tm = false ∧ look (fun x => false) s.teams.rebuilding tm = false ∧ (s.crs (8 *
     tm + c)).waitRd ≠ 0 ∧ (s.crs (8 * tm + c)).waitRd < 32) ∧
    (∃ (s : Machine.State) (f : Fill), List.find? (fun g => g.team == f.team && g.line.slot == f.line.slot)
     s.sig.fills = some f ∧ f.cause = 0 ∧ (s.crs (8 * f.team + f.courser)).miss = none) ∧
    (∃ (s : Machine.State) (hit : ScrubHit), s.cinched = true ∧ s.fget SIG_SCRUB_period ≠ 0 ∧ (hit = ScrubHit.clean ∨
     hit = ScrubHit.single ∨ hit = ScrubHit.double)) :=
  ⟨⟨crs 0, .svc, 0, 0, by and_intros <;> decide +kernel⟩,
   ⟨{ crs 0 with egress := [(512, [{ bytes := [1] }])] }, 0, 0, { bytes := [1] }, [],
     by and_intros <;> decide +kernel⟩,
   ⟨live, .svc, 0, by and_intros <;> decide +kernel⟩,
   ⟨sets { live with teams := { coursers := [(0, { named := true, run := .waiting, mask := 16, waitRd := 31 })] } }
     [(CRS_DOORBELL_ring 0, 1)], 0, 0, by and_intros <;> decide +kernel⟩,
   ⟨{ live with sig := { fills := [⟨0, 0, { slot := 0, owner := 0, value := 0, version := 0, modified := false }, 0⟩] } },
     ⟨0, 0, { slot := 0, owner := 0, value := 0, version := 0, modified := false }, 0⟩,
     by and_intros <;> decide +kernel⟩,
   ⟨sets live [(SIG_SCRUB_period, 1)], .clean, by decide +kernel, by decide +kernel, .inl rfl⟩⟩

theorem test_witness_loadAndVerdict :
    (∃ (s : Machine.State), s.pwk.downStep = 0 ∧ s.boot = Boot.load) ∧
    (∃ (s : Machine.State), s.pwk.downStep = 0 ∧ s.boot = Boot.cinched) ∧
    (∃ (s : Machine.State), s.pwk.downStep = 0 ∧ s.boot = Boot.lanesOn ∧ s.isSet PWK_STATE_off_latched = false ∧
     s.pwk.laterTarget = none) ∧
    (∃ (s : Machine.State), s.pwk.downStep = 0 ∧ s.boot = Boot.clearing ∧ s.isSet PWK_STATE_off_latched = false ∧
     s.pwk.laterTarget = none) ∧
    (∃ (s : Machine.State), s.cinched = true ∧ s.fget GLB_IMAGE_STATUS_hash = 0 ∧ s.boot ≠ Boot.clearing ∧ s.pwk.held
     = false ∧ Config.sha256 (s.slotImg (s.isSet GLB_IMAGE_STATUS_slot)).digested = (s.slotImg (s.isSet
     GLB_IMAGE_STATUS_slot)).headerDigest ∧ Config.sha256 (s.slotImg (s.isSet GLB_IMAGE_STATUS_slot)).digested =
     (s.slotRec (s.isSet GLB_IMAGE_STATUS_slot)).digest) ∧
    (∃ (s : Machine.State), s.cinched = true ∧ s.fget GLB_IMAGE_STATUS_hash = 0 ∧ s.boot ≠ Boot.clearing ∧ s.pwk.held
     = false ∧ (Config.sha256 (s.slotImg (s.isSet GLB_IMAGE_STATUS_slot)).digested ≠ (s.slotImg (s.isSet
     GLB_IMAGE_STATUS_slot)).headerDigest ∨ Config.sha256 (s.slotImg (s.isSet GLB_IMAGE_STATUS_slot)).digested ≠
     (s.slotRec (s.isSet GLB_IMAGE_STATUS_slot)).digest)) :=
  ⟨⟨{ live with boot := .load }, by and_intros <;> decide +kernel⟩,
   ⟨{ live with boot := .cinched }, by and_intros <;> decide +kernel⟩,
   ⟨{ live with boot := .lanesOn }, by and_intros <;> decide +kernel⟩,
   ⟨{ live with boot := .clearing }, by and_intros <;> decide +kernel⟩,
   ⟨verdict id (Config.sha256 []), by decide +kernel, by decide +kernel, by decide +kernel, by decide +kernel,
     by rfl, by rfl⟩,
   ⟨verdict (· + 1) (Config.sha256 []), by decide +kernel, by decide +kernel, by decide +kernel, by decide +kernel,
     .inl fun h => byte_ne_succ _ (congrArg (fun l => l.getD 0 0) h)⟩⟩

theorem test_witness_powerOnResetKeepsMram :
    ∃ (s : Machine.State), s.nvmRun = none :=
  ⟨live, by decide +kernel⟩

theorem test_witness_powerUp :
    (∃ (s : Machine.State), s.pwk.downStep = 0 ∧ s.boot = Boot.down ∧ s.coldStart = true) ∧
    (∃ (s : Machine.State), s.pwk.downStep = 0 ∧ s.boot = Boot.aonUp) ∧
    (∃ (s : Machine.State) (b : Bool), s.pwk.downStep = 0 ∧ s.boot = Boot.railsUp ∧ s.firstChoice = some b ∧
     s.coldStart = false) ∧
    (∃ (s : Machine.State) (b : Bool), s.pwk.downStep = 0 ∧ s.boot = Boot.railsUp ∧ s.firstChoice = some b ∧
     s.coldStart = true) ∧
    (∃ (s : Machine.State), s.pwk.downStep = 0 ∧ s.boot = Boot.railsUp ∧ s.firstChoice = none ∧ s.isSet
     PWK_STATE_off_latched = false ∧ s.pwk.laterTarget = none) ∧
    (∃ (s : Machine.State) (p : Nat) (fails : Nat), s.pwk.downStep = 0 ∧ s.boot = Boot.bist p ∧ p < 6 ∧ fails < 65536) ∧
    (∃ (s : Machine.State), s.pwk.downStep = 0 ∧ s.coreOn = true ∧ s.bistEnded = true) ∧
    (∃ (s : Machine.State), s.slotA.valid = true ∧ s.slotB.valid = true ∧ s.slotA.gen < s.slotB.gen) ∧
    (∃ (s : Machine.State), s.slotA.valid = true ∧ s.slotB.valid = true ∧ s.slotB.gen < s.slotA.gen) ∧
    (∃ (s : Machine.State), s.slotA.valid = true ∧ s.slotB.valid = true ∧ s.slotA.gen = s.slotB.gen) ∧
    (∃ (s : Machine.State), s.slotA.valid = true ∧ s.slotB.valid = false) ∧
    (∃ (s : Machine.State), s.slotA.valid = false ∧ s.slotB.valid = true) ∧
    (∃ (s : Machine.State), s.slotA.valid = false ∧ s.slotB.valid = false) :=
  ⟨⟨State.reset, by and_intros <;> decide +kernel⟩,
   ⟨{ State.reset with boot := .aonUp }, by and_intros <;> decide +kernel⟩,
   ⟨{ live with boot := .railsUp, coldStart := false, slotB := { valid := true, gen := 2 } }, true,
     by and_intros <;> decide +kernel⟩,
   ⟨{ live with boot := .railsUp, coldStart := true, slotA := { valid := true, gen := 2 } }, false,
     by and_intros <;> decide +kernel⟩,
   ⟨{ live with boot := .railsUp }, by and_intros <;> decide +kernel⟩,
   ⟨{ live with boot := .bist 5 }, 5, 65535, by and_intros <;> decide +kernel⟩,
   ⟨live, by and_intros <;> decide +kernel⟩,
   ⟨{ live with slotA := { valid := true, gen := 1 }, slotB := { valid := true, gen := 2 } },
     by and_intros <;> decide +kernel⟩,
   ⟨{ live with slotA := { valid := true, gen := 2 }, slotB := { valid := true, gen := 1 } },
     by and_intros <;> decide +kernel⟩,
   ⟨{ live with slotA := { valid := true, gen := 2 }, slotB := { valid := true, gen := 2 } },
     by and_intros <;> decide +kernel⟩,
   ⟨{ live with slotA := { valid := true } }, by and_intros <;> decide +kernel⟩,
   ⟨{ live with slotB := { valid := true } }, by and_intros <;> decide +kernel⟩,
   ⟨live, by and_intros <;> decide +kernel⟩⟩

theorem test_witness_nvmCommands :
    (∃ (s : Machine.State) (r : Requester) (b : Bool), s.coreOn = true ∧ (s.ownerOf r).isSome = true ∧ requesterCode r
     ≠ 0 ∧ s.pwk.downStep = 0 ∧ s.nvmRun = none ∧ s.isSet NVM_STATUS_boot_done = true ∧ s.slotInUse ≠ some b) ∧
    (∃ (s : Machine.State) (r : Requester) (row : Nat), s.coreOn = true ∧ (s.ownerOf r).isSome = true ∧ requesterCode
     r ≠ 0 ∧ s.pwk.downStep = 0 ∧ s.nvmRun = none ∧ s.isSet NVM_STATUS_boot_done = true ∧ imageRow row = true ∧
     s.isProgrammed row = false) ∧
    (∃ (s : Machine.State) (r : Requester) (b : Bool), s.coreOn = true ∧ (s.ownerOf r).isSome = true ∧ requesterCode r
     ≠ 0 ∧ s.pwk.downStep = 0 ∧ s.nvmRun = none ∧ s.isSet NVM_STATUS_boot_done = true ∧ (s.slotRec b).retired = true ∧
     s.genLast ≠ 4294967295) ∧
    (∃ (s : Machine.State) (r : Requester) (op : Nat), s.coreOn = true ∧ (s.ownerOf r).isSome = true ∧ requesterCode r
     ≠ 0 ∧ s.pwk.downStep = 0 ∧ s.nvmRun = none ∧ s.isSet NVM_STATUS_boot_done = true ∧ op < 16 ∧ (¬(1 ≤ op ∧ op ≤ 3))) ∧
    (∃ (s : Machine.State) (r : Requester) (q : Nat) (b : Bool), s.coreOn = true ∧ (s.ownerOf r).isSome = true ∧
     requesterCode r ≠ 0 ∧ s.pwk.downStep = 0 ∧ q < 4 ∧ s.nvmRun = some
     { requester := q, opcode := 1, slot := b2n b, row := 0, status := 0 }) ∧
    (∃ (s : Machine.State) (r : Requester) (q : Nat) (b : Bool), s.coreOn = true ∧ (s.ownerOf r).isSome = true ∧
     requesterCode r ≠ 0 ∧ s.pwk.downStep = 0 ∧ q < 4 ∧ s.nvmRun = some
     { requester := q, opcode := 3, slot := b2n b, row := 0, status := 0 } ∧ s.jobOn 4 = none) :=
  ⟨⟨sets live [(NVM_STATUS_boot_done, 1)], .svc, true, by and_intros <;> decide +kernel⟩,
   ⟨sets live [(NVM_STATUS_boot_done, 1)], .svc, 39999, by and_intros <;> decide +kernel⟩,
   ⟨{ sets live [(NVM_STATUS_boot_done, 1)] with slotB := { retired := true }, genLast := 4294967294 }, .svc, true,
     by and_intros <;> decide +kernel⟩,
   ⟨sets live [(NVM_STATUS_boot_done, 1)], .svc, 15, by and_intros <;> decide +kernel⟩,
   ⟨{ live with nvmRun := some { requester := 3, opcode := 1, slot := 1, row := 0, status := 0 } }, .svc, 3, true,
     by and_intros <;> decide +kernel⟩,
   ⟨{ live with nvmRun := some { requester := 3, opcode := 3, slot := 1, row := 0, status := 0 } }, .svc, 3, true,
     by and_intros <;> decide +kernel⟩⟩

theorem test_witness_farrierTests :
    (∃ (s : Machine.State) (tm : Nat) (r : Requester), tm < 16 ∧ s.coreOn = true ∧ (s.ownerOf r).isSome = true ∧
     requesterCode r ≠ 0 ∧ s.farRun = none ∧ teamPresent s.variant tm = true ∧ s.teamPowered tm = true) ∧
    (∃ (s : Machine.State) (tm : Nat) (r : Requester) (op : Nat), tm < 16 ∧ s.coreOn = true ∧ (s.ownerOf r).isSome =
     true ∧ requesterCode r ≠ 0 ∧ s.farRun = none ∧ op < 16 ∧ op ≠ 1) ∧
    (∃ (s : Machine.State) (tm : Nat), tm < 16 ∧ s.farRun = some { team := tm, stage := 0 } ∧ s.teamQuiet tm = true) ∧
    (∃ (s : Machine.State) (tm : Nat), tm < 16 ∧ s.farRun = some { team := tm, stage := 0 } ∧ s.teamQuiet tm = false) ∧
    (∃ (s : Machine.State) (tm : Nat), tm < 16 ∧ s.farRun = some { team := tm, stage := 1 }) :=
  ⟨⟨live, 15, .svc, by and_intros <;> decide +kernel⟩,
   ⟨live, 0, .svc, 15, by and_intros <;> decide +kernel⟩,
   ⟨{ live with farRun := some { team := 15, stage := 0 } }, 15, by and_intros <;> decide +kernel⟩,
   ⟨{ live with farRun := some { team := 15, stage := 0 }, teams := { coursers := [(120, { named := true, run := .running })] } },
     15, by and_intros <;> decide +kernel⟩,
   ⟨{ live with farRun := some { team := 15, stage := 1 } }, 15, by and_intros <;> decide +kernel⟩⟩

theorem test_witness_dieLinksAndHobbleCopies :
    (∃ (s : Machine.State) (k : Nat) (inward : Bool), s.linkPowered k = true ∧ k < 18 ∧ (s.link k).down = false ∧ (if
     inward = true then (s.link k).failsIn else (s.link k).failsOut) < 16) ∧
    (∃ (s : Machine.State) (k : Nat) (inward : Bool), s.linkPowered k = true ∧ k < 18 ∧ (s.link k).down = false ∧ (if
     inward = true then (s.link k).failsIn else (s.link k).failsOut) = 16) ∧
    (∃ (s : Machine.State) (k : Nat), s.linkPowered k = true ∧ k < 18 ∧ (s.link k).down = true) ∧
    (∃ (s : Machine.State) (k : Nat), s.linkPowered k = true ∧ k < 18 ∧ k = 17) ∧
    (∃ (s : Machine.State) (off : Nat) (byte : Byte), s.cinched = true ∧ off < 1744 ∧ byte ≠ memGet s.hobA off) ∧
    (∃ (s : Machine.State), s.isSet HOB_STATUS_restoring = true) :=
  ⟨⟨{ live with links := [(17, { failsOut := 15 })] }, 17, false, by and_intros <;> decide +kernel⟩,
   ⟨{ live with links := [(17, { failsIn := 16 })] }, 17, true, by and_intros <;> decide +kernel⟩,
   ⟨{ live with links := [(17, { down := true })] }, 17, by and_intros <;> decide +kernel⟩,
   ⟨live, 17, by and_intros <;> decide +kernel⟩,
   ⟨live, 1743, 1, by and_intros <;> decide +kernel⟩,
   ⟨sets live [(HOB_STATUS_restoring, 1)], by decide +kernel⟩⟩

theorem test_witness_registerAccess :
    (∃ (s : Machine.State) (r : Requester) (a : Nat) (row : RegRow), s.coreOn = true ∧ (s.ownerOf r).isSome = true ∧ a
     % 4 = 0 ∧ a / 65536 = 16 ∧ a ≠ SWC_SCHED_CTRL ∧ s.rowAt a = some row ∧ s.privileged r = true) ∧
    (∃ (s : Machine.State) (r : Requester) (a : Nat) (row : RegRow), s.coreOn = true ∧ (s.ownerOf r).isSome = true ∧ a
     % 4 = 0 ∧ a / 65536 = 16 ∧ a ≠ SWC_SCHED_CTRL ∧ s.rowAt a = some row ∧ s.privileged r = false) ∧
    (∃ (s : Machine.State) (r : Requester) (a : Nat), s.coreOn = true ∧ (s.ownerOf r).isSome = true ∧ a % 4 = 0 ∧ a <
     4194304 ∧ unitAbsent s.variant a = true) ∧
    (∃ (s : Machine.State) (r : Requester) (a : Nat) (u : Nat) (i : Nat) (base : Nat) (row : RegRow), s.coreOn = true
     ∧ (s.ownerOf r).isSome = true ∧ (base = EMAC_CNT 0 0 ∧ u < 16 ∧ i < 64 ∧ a = EMAC_CNT u i ∨ base = FWD_CNT 0 0 ∧
     u < 2 ∧ i < 32 ∧ a = FWD_CNT u i) ∧ unitAbsent s.variant a = false ∧ s.rowAt a = some row ∧ row.rc = true) ∧
    (∃ (s : Machine.State) (r : Requester) (n : Nat) (off : Nat) (bs : List Byte), s.coreOn = true ∧ n < 48 ∧
     lanePresent s.variant n = true ∧ s.mayUse r (s.portOwnerOf (16 + n)) = true ∧ off % 4 = 0 ∧ 12288 ≤ off ∧ off <
     14336 ∧ bs.length = 4 ∧ s.isSet (LANE_TB_CTRL_pending n ((off - 10240) / 512)) = false) ∧
    (∃ (s : Machine.State) (c : Instr) (f : Nat) (a : Nat) (v : Word) (bs : List Byte), s.coreOn = true ∧ s.ownerOf
     (Requester.func f) = none ∧ c ∈ [Instr.registerWrite (Requester.func f) a v, Instr.counterRead (Requester.func f)
     a, Instr.tableWrite (Requester.func f) a bs]) ∧
    (∃ (s : Machine.State) (c : Instr) (f : Nat) (a : Nat) (v : Word) (bs : List Byte), s.coreOn = true ∧ a % 4 ≠ 0 ∧
     c ∈ [Instr.registerWrite (Requester.func f) a v, Instr.counterRead (Requester.func f) a, Instr.tableWrite
     (Requester.func f) a bs]) ∧
    (∃ (s : Machine.State) (bs : List Byte), s.coreOn = true ∧ bs.length % 4 ≠ 0) :=
  ⟨⟨live, .svc, SWC_STALL_LIMIT, rowOf live SWC_STALL_LIMIT, by and_intros <;> decide +kernel⟩,
   ⟨{ live with owners := [(1, { state := 1, func := some 0 }), (2, { state := 1, func := some 1 })] }, .func 1,
     SWC_STALL_LIMIT, rowOf live SWC_STALL_LIMIT, by and_intros <;> decide +kernel⟩,
   ⟨{ live with variant := .kz4820 }, .svc, 0x18C000, by and_intros <;> decide +kernel⟩,
   ⟨live, .svc, EMAC_CNT 0 63, 0, 63, EMAC_CNT 0 0, rowOf live (EMAC_CNT 0 63), by and_intros <;> decide +kernel⟩,
   ⟨live, .svc, 47, 14332, [1, 2, 3, 4], by and_intros <;> decide +kernel⟩,
   ⟨live, .counterRead (.func 7) 0, 7, 0, 0, [], by decide +kernel, by decide +kernel, by simp⟩,
   ⟨live, .tableWrite (.func 0) 0x10000003 [1, 2, 3, 4], 0, 0x10000003, 0, [1, 2, 3, 4], by decide +kernel,
     by decide +kernel, by simp⟩,
   ⟨live, [1, 2, 3], by and_intros <;> decide +kernel⟩⟩

theorem test_witness_servicePortAndMailbox :
    (∃ (s : Machine.State) (base : Nat), s.coreOn = true ∧ s.host.ready = true ∧ s.host.run = none ∧ (base ≤ 63 ∨ 4096
     ≤ base ∧ base ≤ 5119)) ∧
    (∃ (s : Machine.State) (off : Nat) (row : RegRow), s.coreOn = true ∧ s.host.ready = true ∧ s.host.run = none ∧
     s.host.window = 16 ∧ off < 65536 ∧ off % 4 = 0 ∧ off + 1048576 ≠ SWC_SCHED_CTRL ∧ s.rowAt (1048576 + off) = some
     row) ∧
    (∃ (s : Machine.State) (off : Nat) (row : RegRow), s.coreOn = true ∧ s.host.ready = true ∧ s.host.run = none ∧
     s.host.window = 20 ∧ off < 65536 ∧ off % 4 = 0 ∧ unitAbsent s.variant (1310720 + off) = false ∧ s.rowAt (1310720
     + off) = some row ∧ row.rc = false) ∧
    (∃ (s : Machine.State) (off : Nat) (ws : List Word), s.coreOn = true ∧ s.host.ready = true ∧ s.host.run = none ∧
     svcForm off ws.length = true) ∧
    (∃ (s : Machine.State) (off : Nat) (n : Nat), s.coreOn = true ∧ s.host.ready = true ∧ s.host.run = none ∧ svcForm
     off n = true) ∧
    (∃ (s : Machine.State) (c : Instr), s.coreOn = true ∧ s.host.ready = true ∧ (c = Instr.svcFetch true ∨ c =
     Instr.svcStatus true ∨ (∃ b, c = Instr.svcWindow b true) ∨ (∃ o w, c = Instr.svcWrite o w true) ∨ (∃ o n, c =
     Instr.svcRead o n true) ∨ ∃ w, c = Instr.svcMbox w true)) ∧
    (∃ (s : Machine.State) (ws : List Word), s.coreOn = true ∧ s.host.ready = true ∧ s.host.run = none ∧ ws.length = 9
     ∧ s.ostlerRuns = true) ∧
    (∃ (s : Machine.State) (ws : List Word), s.coreOn = true ∧ s.host.ready = true ∧ s.host.run = none ∧ ws.length = 9
     ∧ s.ostlerRuns = false) ∧
    (∃ (s : Machine.State) (w0 : Word) (ws : List Word), s.host.mbox = w0 :: ws ∧ s.ostlerRuns = true ∧ getField w0 31
     24 = 1 ∧ ws.length = 8 ∧ s.signerDigest (getField w0 1 0) = List.replicate 32 0) ∧
    (∃ (s : Machine.State) (w0 : Word) (ws : List Word), s.host.mbox = w0 :: ws ∧ s.ostlerRuns = true ∧ getField w0 31
     24 ≠ 1) ∧
    (∃ (s : Machine.State), s.host.run = some (7, none)) ∧
    (∃ (s : Machine.State) (op : Nat) (st : Nat), s.host.run = some (op, some st) ∧ s.svcWaits = false) ∧
    (∃ (s : Machine.State) (op : Nat) (st : Nat), s.host.run = some (op, some st) ∧ s.svcWaits = true) :=
  ⟨⟨{ live with host := { ready := true } }, 5119, by and_intros <;> decide +kernel⟩,
   ⟨{ live with host := { ready := true, window := 16 } }, SWC_STALL_LIMIT - 0x100000, rowOf live SWC_STALL_LIMIT,
     by and_intros <;> decide +kernel⟩,
   ⟨{ live with host := { ready := true, window := 20 } }, 0, rowOf live 0x140000, by and_intros <;> decide +kernel⟩,
   ⟨{ live with host := { ready := true } }, 65532, [1], by and_intros <;> decide +kernel⟩,
   ⟨{ live with host := { ready := true } }, 65472, 16, by and_intros <;> decide +kernel⟩,
   ⟨{ live with host := { ready := true } }, .svcMbox [] true, by decide +kernel, by decide +kernel, by simp⟩,
   ⟨sets { live with host := { ready := true } } [(GLB_OSTLER_STATUS_state, 2)], [1, 2, 3, 4, 5, 6, 7, 8, 9],
     by and_intros <;> decide +kernel⟩,
   ⟨{ live with host := { ready := true } }, [1, 2, 3, 4, 5, 6, 7, 8, 9], by and_intros <;> decide +kernel⟩,
   ⟨sets { live with host := { mbox := [0x01000003, 1, 2, 3, 4, 5, 6, 7, 8] } } [(GLB_OSTLER_STATUS_state, 2)],
     0x01000003, [1, 2, 3, 4, 5, 6, 7, 8], by and_intros <;> decide +kernel⟩,
   ⟨sets { live with host := { mbox := [0x02000000] } } [(GLB_OSTLER_STATUS_state, 2)], 0x02000000, [],
     by and_intros <;> decide +kernel⟩,
   ⟨{ live with host := { run := some (7, none) } }, by decide +kernel⟩,
   ⟨{ live with host := { run := some (2, some 0x17) } }, 2, 0x17, by and_intros <;> decide +kernel⟩,
   ⟨{ live with host := { run := some (5, some 0) }, sig := { reqs := [{ kind := .hRd, slot := 0, svcAt := some 0 }] } },
     5, 0, by and_intros <;> decide +kernel⟩⟩

theorem test_witness_hostLink :
    (∃ (s : Machine.State) (width : Nat) (gen : Nat), width < 8 ∧ gen < 4 ∧ s.pcieOn = true ∧ s.linkRuns = false) ∧
    (∃ (s : Machine.State), 2 ≤ s.linkState) ∧
    (∃ (s : Machine.State) (c : Instr), s.perst = false ∧ s.coreOn = true ∧ (c = Instr.perstNLow ∨ c = Instr.vioLow)) ∧
    (∃ (s : Machine.State), ({ s with perstLow := false } : State).pcieOn = true ∧ s.linkState = 0) ∧
    (∃ (s : Machine.State), ({ s with host := { s.host with vioLow := false } } : State).pcieOn = true ∧ s.linkState =
     0) ∧
    (∃ (s : Machine.State), s.linkRuns = true ∧ s.configReady = false) ∧
    (∃ (s : Machine.State) (f : Nat), s.linkRuns = true ∧ s.configReady = true ∧ s.vfsExposed < f) ∧
    (∃ (s : Machine.State) (f : Nat) (v : Option Word) (x : Word), s.linkRuns = true ∧ s.configReady = true ∧ f ≤
     s.vfsExposed ∧ v = some x) ∧
    (∃ (s : Machine.State) (f : Nat) (v : Option Word), s.linkRuns = true ∧ s.configReady = true ∧ f ≤ s.vfsExposed ∧
     v = none) :=
  ⟨⟨{ live with perstLow := false }, 7, 3, by and_intros <;> decide +kernel⟩,
   ⟨sets live [(HST_LINK_STATUS_state, 2)], by decide +kernel⟩,
   ⟨{ live with perstLow := false }, .perstNLow, by decide +kernel, by decide +kernel, .inl rfl⟩,
   ⟨live, by and_intros <;> decide +kernel⟩,
   ⟨{ live with perstLow := false, host := { vioLow := true } }, by and_intros <;> decide +kernel⟩,
   ⟨sets live [(HST_LINK_STATUS_state, 2)], by and_intros <;> decide +kernel⟩,
   ⟨sets { live with host := { configOpen := true } } [(HST_LINK_STATUS_state, 3)], 1,
     by and_intros <;> decide +kernel⟩,
   ⟨sets { live with host := { configOpen := true, numVfs := 31 } } [(HST_LINK_STATUS_state, 2)], 31, some 7, 7,
     by and_intros <;> decide +kernel⟩,
   ⟨sets { live with host := { configOpen := true, numVfs := 31 } } [(HST_LINK_STATUS_state, 2)], 31, none,
     by and_intros <;> decide +kernel⟩⟩

theorem test_witness_queuePairs :
    (∃ (s : Machine.State) (r : Requester) (q : Nat), q < 64 ∧ (s.privileged r = true ∨ (s.ownerOf r).isSome = true ∧
     r = Requester.func (s.fget (HST_QP_CFG_func q)))) ∧
    (∃ (s : Machine.State) (q : Nat) (w2 : Nat) (buffer : List Byte), q < 64 ∧ s.qpRuns q = true ∧ s.isSet
     (HST_QP_STATUS_tx_error q) = false ∧ s.linkRuns = true ∧ s.qpDepth q (HST_QP_TX_TAIL q) (HST_QP_TX_HEAD q) ≠ 0 ∧
     s.txStatus q w2 = 0 ∧ bitOf w2 31 = false ∧ s.epMaySend (s.fget (HST_QP_CFG_ep q)) (slice buffer 0 (bitsOf w2 13
     0)) = true) ∧
    (∃ (s : Machine.State) (e : Nat) (k : Nat) (f : Frame) (rest : List Frame) (qu : Nat) (q : Nat), e < 2 ∧ k < 8 ∧
     s.egressQ (egressKey (80 + e) k) = f :: rest ∧ (∀ (c : Nat), k < c → c < 8 → s.egressQ (egressKey (80 + e) c) =
     []) ∧ s.epQueue e f = some qu ∧ List.find? (fun q => s.qpRuns q && s.fget (HST_QP_CFG_ep q) == e && s.fget
     (HST_QP_CFG_rxq q) == qu && s.qpOwner q == some f.owner) (List.range 64) = some q ∧ s.linkRuns = true ∧ s.isSet
     (HST_QP_STATUS_rx_stalled q) = false ∧ s.qpDepth q (HST_QP_RX_TAIL q) (HST_QP_RX_HEAD q) ≠ 0) ∧
    (∃ (s : Machine.State) (k : Nat) (f : Frame) (rest : List Frame) (qu : Nat), k < 8 ∧ s.egressQ (egressKey 83 k) =
     f :: rest ∧ (∀ (c : Nat), k < c → c < 8 → s.egressQ (egressKey 83 c) = []) ∧ s.ostlerRuns = true ∧ s.epQueue 2 f
     = some qu) ∧
    (∃ (s : Machine.State) (f : Nat), f < 32 ∧ s.linkRuns = true) :=
  ⟨⟨live, .svc, 63, by decide +kernel, .inl (by decide +kernel)⟩,
   ⟨sets live [(GLB_IMAGE_STATUS_state, 2), (HST_QP_CFG_enable 63, 1), (HST_LINK_STATUS_state, 2), (⟨HST_QP_TX_TAIL
     63, 31, 0⟩, 1), (⟨HST_QP_RX_TAIL 63, 31, 0⟩, 1)], 63, 0x0040003C, List.replicate 60 1,
     by and_intros <;> decide +kernel⟩,
   ⟨{ sets live [(GLB_IMAGE_STATUS_state, 2), (HST_QP_CFG_enable 63, 1), (HST_LINK_STATUS_state, 2), (⟨HST_QP_TX_TAIL 63, 31, 0⟩, 1), (⟨HST_QP_RX_TAIL 63, 31, 0⟩, 1)] with egress := [(647, [{ bytes := [0x33, 1, 2, 3, 4, 5], owner := 1 }])] },
     0, 7, { bytes := [0x33, 1, 2, 3, 4, 5], owner := 1 }, [], 0, 63, by decide +kernel, by decide +kernel,
     by decide +kernel, fun c h1 h2 => by omega, by and_intros <;> decide +kernel⟩,
   ⟨{ sets live [(GLB_OSTLER_STATUS_state, 2)] with egress := [(671, [{ bytes := [0x33, 1, 2, 3, 4, 5], owner := 1 }])] },
     7, { bytes := [0x33, 1, 2, 3, 4, 5], owner := 1 }, [], 0, by decide +kernel, by decide +kernel, fun c h1 h2 =>
     by omega, by and_intros <;> decide +kernel⟩,
   ⟨sets live [(GLB_IMAGE_STATUS_state, 2), (HST_QP_CFG_enable 63, 1), (HST_LINK_STATUS_state, 2), (⟨HST_QP_TX_TAIL
     63, 31, 0⟩, 1), (⟨HST_QP_RX_TAIL 63, 31, 0⟩, 1)], 31, by and_intros <;> decide +kernel⟩⟩

theorem test_witness_ownerLifetimes :
    (∃ (s : Machine.State) (o : Nat) (r : Requester), o < 256 ∧ s.privileged r = true ∧ s.sclRun = none ∧
     s.createCheck o = 0) ∧
    (∃ (s : Machine.State) (o : Nat) (r : Requester), o < 256 ∧ s.privileged r = true ∧ s.sclRun = none ∧ 2 ≤ o ∧
     (s.owner o).persistent = false ∧ (s.owner o).state = 1) ∧
    (∃ (s : Machine.State) (o : Nat), o < 256 ∧ s.sclRun = some (2, o, 0)) :=
  ⟨⟨sets live [(SCL_ARG_host_function, 2)], 255, .svc, by and_intros <;> decide +kernel⟩,
   ⟨{ live with owners := [(255, { state := 1 })] }, 255, .svc, by and_intros <;> decide +kernel⟩,
   ⟨{ live with sclRun := some (2, 255, 0) }, 255, by and_intros <;> decide +kernel⟩⟩

theorem test_witness_ostlerLife :
    (∃ (s : Machine.State), s.fget GLB_OSTLER_STATUS_state = 1 ∧ s.jobOn 4 = none) ∧
    (∃ (s : Machine.State), s.ostlerRuns = true) ∧
    (∃ (s : Machine.State), s.fget GLB_OSTLER_STATUS_state = 3 ∧ 2 ≤ s.fget GLB_OSTLER_STATUS_halt_cause ∧
     s.super.stays = false) ∧
    (∃ (s : Machine.State) (r : Requester), s.fget GLB_OSTLER_STATUS_state = 3 ∧ s.coreOn = true ∧ (r = Requester.svc
     ∨ r = Requester.func 0)) :=
  ⟨⟨sets live [(GLB_OSTLER_STATUS_state, 1)], by and_intros <;> decide +kernel⟩,
   ⟨sets live [(GLB_OSTLER_STATUS_state, 2)], by decide +kernel⟩,
   ⟨sets live [(GLB_OSTLER_STATUS_state, 3), (GLB_OSTLER_STATUS_halt_cause, 2)], by and_intros <;> decide +kernel⟩,
   ⟨sets live [(GLB_OSTLER_STATUS_state, 3)], .svc, by decide +kernel, by decide +kernel, .inl rfl⟩⟩

theorem test_witness_eventsAndArbiters :
    (∃ (s : Machine.State) (r : Requester) (n : Nat), s.coreOn = true ∧ n < 48 ∧ s.privileged r = true) ∧
    (∃ (s : Machine.State) (r : Requester), s.coreOn = true ∧ s.privileged r = true ∧ s.isSet EVC_JRNL_CTRL_host_en =
     false) ∧
    (∃ (s : Machine.State) (r : Requester) (rd : Nat), s.coreOn = true ∧ s.privileged r = true ∧ rd < 8192 ∧ (rd +
     8192 - s.fget EVC_JRNL_RD_HOST_rd) % 8192 ≤ (s.fget EVC_JRNL_WR_wr + 8192 - s.fget EVC_JRNL_RD_HOST_rd) % 8192) ∧
    (∃ (s : Machine.State) (r : Requester) (rd : Nat), s.coreOn = true ∧ s.privileged r = true ∧ rd < 8192 ∧ (s.fget
     EVC_JRNL_WR_wr + 8192 - s.fget EVC_JRNL_RD_HOST_rd) % 8192 < (rd + 8192 - s.fget EVC_JRNL_RD_HOST_rd) % 8192) ∧
    (∃ (s : Machine.State) (src : Nat), s.coreOn = true ∧ src < 1536 ∧ (s.window src).isOpen = true ∧ (s.window
     src).hidden = 0) ∧
    (∃ (s : Machine.State) (src : Nat), s.coreOn = true ∧ src < 1536 ∧ (s.window src).isOpen = true ∧ s.isSet
     (EVC_SRC_jrnl src) = false ∧ s.isSet (EVC_SRC_bb src) = false) ∧
    (∃ (s : Machine.State) (src : Nat), s.coreOn = true ∧ src < 1536 ∧ (s.window src).isOpen = true ∧ (s.window
     src).hidden ≠ 0 ∧ (s.isSet (EVC_SRC_jrnl src) = true ∨ s.isSet (EVC_SRC_bb src) = true) ∧ src ≠ 1482 ∧ src ≠ 1483) ∧
    (∃ (s : Machine.State) (x : Record) (rest : List Record), s.coreOn = true ∧ s.bbStaged = x :: rest ∧ s.isSet
     EVC_BB_STATUS_ready = true) ∧
    (∃ (s : Machine.State), s.coreOn = true ∧ s.cinched = true ∧ s.isSet EVC_BB_STATUS_ready = false) ∧
    (∃ (s : Machine.State) (a : Nat) (waiting : Nat) (r : Nat) (pre : Bool), s.coreOn = true ∧ a < 21 ∧ s.arbiterPick
     a waiting = some (r, pre)) :=
  ⟨⟨live, .svc, 47, by and_intros <;> decide +kernel⟩,
   ⟨live, .svc, by and_intros <;> decide +kernel⟩,
   ⟨sets live [(EVC_JRNL_WR_wr, 8191)], .svc, 8191, by and_intros <;> decide +kernel⟩,
   ⟨sets live [(EVC_JRNL_WR_wr, 8190)], .svc, 8191, by and_intros <;> decide +kernel⟩,
   ⟨{ live with windows := [(1535, { isOpen := true })] }, 1535, by and_intros <;> decide +kernel⟩,
   ⟨sets { live with windows := [(1535, { isOpen := true, hidden := 3 })] } [(EVC_SRC_jrnl 1535, 0)], 1535,
     by and_intros <;> decide +kernel⟩,
   ⟨{ live with windows := [(1535, { isOpen := true, hidden := 3 })] }, 1535, by and_intros <;> decide +kernel⟩,
   ⟨sets { live with bbStaged := [{ event := 5 }] } [(EVC_BB_STATUS_ready, 1)], { event := 5 }, [],
     by and_intros <;> decide +kernel⟩,
   ⟨live, by and_intros <;> decide +kernel⟩,
   ⟨live, 20, 1, 0, false, by and_intros <;> decide +kernel⟩⟩

theorem test_witness_keyCommands :
    (∃ (s : Machine.State) (r : Requester) (slot : Nat), s.keyFree r slot ∧ s.keySlot slot = none ∧ s.keyArg r
     KEY_ARG_persist = 0 ∧ (∀ (f : Nat), r ≠ Requester.func f) ∧ s.keyArg r KEY_ARG_src_root = 1 ∧ ((List.drop 48
     (s.keyData r)).all fun x => x == 0) = true) ∧
    (∃ (s : Machine.State) (r : Requester) (slot : Nat) (kek : List Byte), s.keyFree r slot ∧ s.keySlot slot = none ∧
     s.keyArg r KEY_ARG_persist = 0 ∧ s.keyFree r (s.keyArg r KEY_ARG_src) ∧ s.keyOf (s.keyArg r KEY_ARG_src) 2 =
     Except.ok kek) ∧
    (∃ (s : Machine.State) (r : Requester) (slot : Nat) (kek : List Byte) (v : KeySlot), s.keyFree r slot ∧ s.keyFree
     r (s.keyArg r KEY_ARG_src) ∧ s.keyOf (s.keyArg r KEY_ARG_src) 2 = Except.ok kek ∧ s.keySlot slot = some v ∧
     v.exportable = true ∧ (v.key.length = 16 ∨ v.key.length = 32)) ∧
    (∃ (s : Machine.State) (r : Requester) (slot : Nat) (key : List Byte), s.keyFree r slot ∧ s.keyOf slot 3 =
     Except.ok key ∧ s.fget GLB_IMAGE_STATUS_hash = 1) ∧
    (∃ (s : Machine.State) (r : Requester) (slot : Nat) (o : Nat), s.ownerOf r = some o ∧ s.keyInRange o slot = true ∧
     s.tack.run = none ∧ s.tack.loading = false) ∧
    (∃ (s : Machine.State) (r : Requester) (slot : Nat) (op : Nat), op < 16 ∧ (op = 0 ∨ 8 ≤ op) ∧ s.keyFree r slot) ∧
    (∃ (s : Machine.State) (c : KeyRun), s.tack.run = some c ∧ c.status < 65536) :=
  ⟨⟨live.setTackReg .svc 0 0x1000, .svc, 4095, ⟨0, by decide +kernel⟩, by decide +kernel, by decide +kernel, (fun f
     h => by cases h), by and_intros <;> decide +kernel⟩,
   ⟨({ live with keySlots := [(5, some { key := List.replicate 16 7, usage := 2, len256 := false, exportable := true })] }).setTackReg
     .svc 0 5, .svc, 4095, List.replicate 16 7, ⟨0, by decide +kernel⟩, by decide +kernel, by decide +kernel, ⟨0,
     by decide +kernel⟩, by rfl⟩,
   ⟨({ live with keySlots := [(5, some { key := List.replicate 16 7, usage := 2, len256 := false, exportable := true }), (4095, some { key := List.replicate 16 7, usage := 0, len256 := false, exportable := true })] }).setTackReg
     .svc 0 5, .svc, 4095, List.replicate 16 7,
     { key := List.replicate 16 7, usage := 0, len256 := false, exportable := true }, ⟨0, by decide +kernel⟩, ⟨0,
     by decide +kernel⟩, by rfl, by decide +kernel, by decide +kernel, .inl (by decide +kernel)⟩,
   ⟨sets
     { live with keySlots := [(4095, some { key := List.replicate 16 7, usage := 3, len256 := false, exportable := true })] }
     [(GLB_IMAGE_STATUS_hash, 1)], .svc, 4095, List.replicate 16 7, ⟨0, by decide +kernel⟩, by rfl, by decide +kernel⟩,
   ⟨live, .svc, 4095, 0, by and_intros <;> decide +kernel⟩,
   ⟨live, .svc, 4095, 15, by decide +kernel, .inr (by decide), ⟨0, by decide +kernel⟩⟩,
   ⟨{ live with tack := { run := some { requester := .svc, opcode := 7, slot := 4095, status := 0x37 } } },
     { requester := .svc, opcode := 7, slot := 4095, status := 0x37 }, by and_intros <;> decide +kernel⟩⟩

theorem test_witness_tackRoomGuards :
    (∃ (s : Machine.State), s.tack.loading = true) ∧
    (∃ (s : Machine.State) (n : Nat), n < 4 ∧ s.coreOn = true ∧ s.tamperCode n ≠ 0) ∧
    (∃ (s : Machine.State) (r : Requester), s.coreOn = true ∧ (r = Requester.svc ∨ r = Requester.ostler)) ∧
    (∃ (s : Machine.State), s.tack.erasing = true) ∧
    (∃ (s : Machine.State), s.isSet KEY_STATUS_debug = true) :=
  ⟨⟨{ live with tack := { loading := true } }, by decide +kernel⟩,
   ⟨{ live with hobA := [(0x693, 1)] }, 3, by and_intros <;> decide +kernel⟩,
   ⟨live, .svc, by decide +kernel, .inl rfl⟩,
   ⟨{ live with tack := { erasing := true } }, by decide +kernel⟩,
   ⟨sets live [(KEY_STATUS_debug, 1)], by decide +kernel⟩⟩

theorem test_witness_cipherJobs :
    (∃ (s : Machine.State) (f : Nat) (o : Nat), f < 32 ∧ s.ownerOf (Requester.func f) = some o ∧ s.jobsOf f < 16) ∧
    (∃ (s : Machine.State) (n : Nat) (j : Job), s.bulkOn = true ∧ (n = 4 ∧ s.ecdsaClaimed = false ∨ n < 4 ∧
     enginePresent s.variant n = true) ∧ s.jobOn n = none ∧ List.find? (fun j => jobAllows s.variant j.desc n)
     s.jobsWaiting = some j ∧ j.run = JobRun.waiting ∧ jobRefusal s.variant j = none ∧ jobKeyed j.desc = false ∧
     j.requester < 33 ∧ j.frame = none) ∧
    (∃ (s : Machine.State) (j : Job) (done : Nat), s.fget CIP_STATUS_ctx_free ≠ 0 ∧ List.findSome? s.jobVictim
     s.jobsWaiting = some j ∧ j.rekeyed = false ∧ done % 64 = 0 ∧ j.progress ≤ done ∧ done ≤ jobLen j.desc) ∧
    (∃ (s : Machine.State) (n : Nat) (j : Job), s.jobOn n = some j ∧ j.frame = none ∧ j.requester < 32 ∧ j.rekeyed =
     false ∧ j.progress = 0 ∧ jobIrq j.desc = false ∧ (jobResult j.key j.iv j.source j.desc).snd = true ∧ (jobResult
     j.key j.iv j.source j.desc).fst ≠ []) ∧
    (∃ (s : Machine.State) (c : Nat) (f : Frame) (rest : List Frame) (i : Nat), c < 8 ∧ s.egressQ (8 * 82 + c) = f ::
     rest ∧ (∀ (d : Nat), c < d → d < 8 → s.egressQ (8 * 82 + d) = []) ∧ s.fjobMatch f = some i ∧ f.lane = false ∧
     f.bytes.length ≤ 2048 ∧ fjobHead f.bytes + 28 ≤ f.bytes.length) ∧
    (∃ (s : Machine.State) (n : Nat) (j : Job) (f : Frame) (i : Nat), s.jobOn n = some j ∧ j.frame = some (f, i) ∧
     j.rekeyed = false ∧ fjobHead f.bytes ≤ f.bytes.length ∧ (jobResult j.key j.iv j.source j.desc).snd = true) :=
  ⟨⟨live, 0, 1, by and_intros <;> decide +kernel⟩,
   ⟨{ live with cip := { jobs := [job 0x80000000 64 .waiting] } }, 3, job 0x80000000 64 .waiting,
     by and_intros <;> decide +kernel⟩,
   ⟨sets (sets (withJobs [{ job 0x80000000 64 .running with engine := 0 },
     { job 0x80000000 64 .running with engine := 1 }, { job 0x80000000 64 .running with engine := 2 },
     { job 0x80000000 64 .running with engine := 3 }, job 0x81000000 64 .waiting]) [(CIP_STATUS_ctx_free, 1)]) [],
     { job 0x80000000 64 .running with engine := 0 }, 64, by and_intros <;> decide +kernel⟩,
   ⟨withJobs [job 0x20000000 64 .running], 0, job 0x20000000 64 .running, by and_intros <;> decide +kernel⟩,
   ⟨sets { live with egress := [(663, [{ bytes := List.replicate 42 0, stream := some 0, owner := 1 }])] }
     [(CIP_FJOB_valid 15, 1), (CIP_FJOB_owner 15, 1)], 7,
     { bytes := List.replicate 42 0, stream := some 0, owner := 1 }, [], 15, by decide +kernel, by decide +kernel, fun
     c h1 h2 => by omega, by and_intros <;> decide +kernel⟩,
   ⟨withJobs [{ job 0x20000000 64 .running with frame := some ({ bytes := List.replicate 42 0 }, 15) }], 0,
     { job 0x20000000 64 .running with frame := some ({ bytes := List.replicate 42 0 }, 15) },
     { bytes := List.replicate 42 0 }, 15, by and_intros <;> decide +kernel⟩⟩

theorem test_witness_powerStates :
    (∃ (s : Machine.State) (r : Requester) (target : Nat), s.coreOn = true ∧ s.privileged r = true ∧ 1 ≤ target ∧
     target < 4 ∧ ((target = 1 ∧ ∀ (f : Nat), r ≠ Requester.func f) ∨ 2 ≤ target) ∧ s.pwk.downStep = 0 ∧ (s.fget
     PWK_STATE_phase = 0 ∨ s.fget PWK_STATE_phase = 3) ∧ s.fget PWK_STATE_state ≠ target) ∧
    (∃ (s : Machine.State), s.fget PWK_STATE_phase = 2 ∧ s.pwk.offLater = false ∧ s.pwk.laterTarget = none ∧ s.fget
     PWK_STATE_target ≠ 1 ∧ s.fget PWK_STATE_state ≠ 1) ∧
    (∃ (s : Machine.State) (c : Instr), s.fget PWK_STATE_phase = 2 ∧ s.pwk.offLater = false ∧ s.pwk.laterTarget = none
     ∧ s.fget PWK_STATE_target = 1 ∧ (c = Instr.paddockDrainTimeout ∨ c = Instr.stateMoveDone ∧ s.paddockTeams.all
     s.teamQuiet = true)) ∧
    (∃ (s : Machine.State), s.pwk.downStep = 0 ∧ s.powered = true) ∧
    (∃ (s : Machine.State), s.pwk.downStep = 0 ∧ s.isSet PWK_STATE_off_latched = true ∧ s.fget PWK_STATE_phase = 1) ∧
    (∃ (s : Machine.State), s.pwk.downStep = 0 ∧ s.pwk.dismount.isSome = true ∧ s.fget PWK_STATE_phase = 3) ∧
    (∃ (s : Machine.State), s.pwk.downStep = 1) ∧
    (∃ (s : Machine.State), s.pwk.downStep = 2) ∧
    (∃ (s : Machine.State), s.pwk.downStep = 3) ∧
    (∃ (s : Machine.State), s.pwk.downStep = 4 ∧ s.nvmRun = none) ∧
    (∃ (s : Machine.State), s.pwk.downStep = 5 ∧ s.coreOn = false ∧ s.coldStart = false) ∧
    (∃ (s : Machine.State), s.powered = true ∧ s.pwk.downStep ≤ 4) :=
  ⟨⟨live, .svc, 3, by decide +kernel, by decide +kernel, by decide +kernel, by decide +kernel, .inr (by decide),
     by decide +kernel, .inl (by decide +kernel), by decide +kernel⟩,
   ⟨sets live [(PWK_STATE_phase, 2), (PWK_STATE_target, 2), (PWK_STATE_state, 3)], by and_intros <;> decide +kernel⟩,
   ⟨sets live [(PWK_STATE_phase, 2), (PWK_STATE_target, 1), (PWK_STATE_state, 3)], .stateMoveDone,
     by decide +kernel, by decide +kernel, by decide +kernel, by decide +kernel, .inr ⟨rfl, by decide +kernel⟩⟩,
   ⟨live, by and_intros <;> decide +kernel⟩,
   ⟨sets live [(PWK_STATE_phase, 1), (PWK_STATE_off_latched, 1)], by and_intros <;> decide +kernel⟩,
   ⟨sets { live with pwk := { dismount := some 0 } } [(PWK_STATE_phase, 3)], by and_intros <;> decide +kernel⟩,
   ⟨{ live with pwk := { downStep := 1 } }, by decide +kernel⟩,
   ⟨{ live with pwk := { downStep := 2 } }, by decide +kernel⟩,
   ⟨{ live with pwk := { downStep := 3 } }, by decide +kernel⟩,
   ⟨{ live with pwk := { downStep := 4 } }, by and_intros <;> decide +kernel⟩,
   ⟨{ State.reset with coldStart := false, pwk := { downStep := 5 } }, by and_intros <;> decide +kernel⟩,
   ⟨{ live with pwk := { downStep := 4 } }, by and_intros <;> decide +kernel⟩⟩

theorem test_witness_wakingAndWakeLine :
    (∃ (s : Machine.State) (us : Nat), s.inStable = true ∧ 50 ≤ us ∧ s.wakeLineEn = true ∧ s.pwk.stuck = false ∧
     (s.pwk.wakeReqs.any fun e => e.fst.code == 4) = false) ∧
    (∃ (s : Machine.State), s.inStable = true ∧ s.plan 16 4 ≠ 0 ∧ (s.pwk.wakeReqs.any fun e => e.fst.code == 6) =
     false) ∧
    (∃ (s : Machine.State), s.inStable = true ∧ (s.pwk.wakeReqs.any fun e => e.fst.code == 7) = false) ∧
    (∃ (s : Machine.State), s.inStable = true ∧ s.pwk.undervolt = false ∧ s.pwk.wakeReqs ≠ []) ∧
    (∃ (s : Machine.State) (r : Requester), s.coreOn = true ∧ s.privileged r = true ∧ s.fget GLB_IMAGE_STATUS_hash = 1
     ∧ s.isSet PWK_WAKE_STATUS_driving = false ∧ s.wakeRateOk = true) ∧
    (∃ (s : Machine.State), s.coreOn = true ∧ s.isSet PWK_WAKE_STATUS_driving = true ∧ s.pwk.held = false) ∧
    (∃ (s : Machine.State), s.coreOn = true ∧ s.pwk.held = true ∧ s.fget GLB_IMAGE_STATUS_hash = 1 ∧ s.isSet
     PWK_WAKE_STATUS_driving = false ∧ s.wakeRateOk = true) :=
  ⟨⟨stable, 50, by and_intros <;> decide +kernel⟩,
   ⟨{ stable with wakePlan := List.replicate 16 1 ++ [1, 0, 0, 0] }, by and_intros <;> decide +kernel⟩,
   ⟨stable, by and_intros <;> decide +kernel⟩,
   ⟨{ stable with pwk := { wakeReqs := [({ code := 7 }, 0)] } }, by and_intros <;> decide +kernel⟩,
   ⟨sets live [(GLB_IMAGE_STATUS_hash, 1)], .svc, by and_intros <;> decide +kernel⟩,
   ⟨sets live [(PWK_WAKE_STATUS_driving, 1)], by and_intros <;> decide +kernel⟩,
   ⟨sets { live with pwk := { held := true } } [(GLB_IMAGE_STATUS_hash, 1)], by and_intros <;> decide +kernel⟩⟩

theorem test_witness_readinessAndConsent :
    (∃ (s : Machine.State), s.coreOn = true) ∧
    (∃ (s : Machine.State) (bytes : List Byte), s.ringOn = true ∧ s.ringDiscards bytes = false ∧ (ringParse
     bytes).state = 0 ∧ s.pwk.downStep = 0) ∧
    (∃ (s : Machine.State) (bytes : List Byte) (m : RingMsg), s.ringOn = true ∧ m = ringParse bytes ∧ s.ringDiscards
     bytes = false ∧ m.state = 1 ∧ m.next = s.selfIndex ∧ m.initiator ≠ s.selfIndex ∧ s.pwk.answered = none ∧ s.isSet
     PWK_READY_ready = true ∧ nextMember m.present s.selfIndex ≠ s.selfIndex) ∧
    (∃ (s : Machine.State) (bytes : List Byte) (m : RingMsg), s.ringOn = true ∧ m = ringParse bytes ∧ s.ringDiscards
     bytes = false ∧ m.state = 2 ∧ m.next = m.initiator ∧ s.pwk.dismount = none ∧ s.isSet PWK_READY_ready = true) ∧
    (∃ (s : Machine.State), s.ringOn = true ∧ s.isSet PWK_READY_ready = false) ∧
    (∃ (s : Machine.State), s.ringOn = true ∧ s.isSet PWK_READY_ready = true ∧ s.pwk.guardWait = false ∧
     s.pwk.dismount = none) ∧
    (∃ (s : Machine.State) (m : RingMsg), s.ringOn = true ∧ s.pwk.waiting = some (m, false)) ∧
    (∃ (s : Machine.State) (m : RingMsg), s.ringOn = true ∧ s.pwk.waiting = some (m, true)) ∧
    (∃ (s : Machine.State) (ms : Nat), s.ringOn = true ∧ s.pwk.forwarded = some ms ∧ s.pwk.dismount = none) :=
  ⟨⟨live, by decide +kernel⟩,
   ⟨ring, ringBytes 0 1 1, by and_intros <;> decide +kernel⟩,
   ⟨ring, ringBytes 1 1 0, ringParse (ringBytes 1 1 0), by decide +kernel, rfl, by and_intros <;> decide +kernel⟩,
   ⟨ring, ringBytes 2 0 0, ringParse (ringBytes 2 0 0), by decide +kernel, rfl, by and_intros <;> decide +kernel⟩,
   ⟨sets ring [(PWK_READY_ready, 0)], by and_intros <;> decide +kernel⟩,
   ⟨ring, by and_intros <;> decide +kernel⟩,
   ⟨{ ring with pwk := { waiting := some ({}, false) } }, {}, by and_intros <;> decide +kernel⟩,
   ⟨{ ring with pwk := { waiting := some ({}, true) } }, {}, by and_intros <;> decide +kernel⟩,
   ⟨{ ring with pwk := { forwarded := some 10 } }, 10, by and_intros <;> decide +kernel⟩⟩

theorem test_witness_outputCommands :
    (∃ (s : Machine.State) (j : Nat) (r : Requester), j < 20 ∧ outputPresent s.variant j = true ∧ s.mayUse r (s.fget
     (PWR_OUT_CFG_owner j)) = true ∧ s.fget (PWR_OUT_CFG_mode j) = 1 ∧ s.fget (PWR_OUT_CFG_source j) = 0 ∧ s.outFree j) ∧
    (∃ (s : Machine.State) (j : Nat) (d : Nat), j < 20 ∧ outputPresent s.variant j = true ∧ s.fget (PWR_OUT_CFG_mode
     j) = 2 ∧ s.fget (PWR_OUT_CFG_source j) = 0 ∧ s.isSet (PWR_OUT_CFG_trig_en j) = true ∧ s.outFree j ∧ (s.outp j).on
     = true ∧ (s.outp j).cmdDuty < 65536 ∧ d = slewed (s.fget (PWR_OUT_CMD_duty j)) (s.outp j).cmdDuty (s.hobLow (1040
     + 32 * j + 12) 2 65535) ∧ d ≠ 0) ∧
    (∃ (s : Machine.State) (j : Nat), j < 20 ∧ (s.outp j).minOff = true ∧ (s.outp j).on = false) ∧
    (∃ (s : Machine.State) (j : Nat), j < 20 ∧ (s.outp j).tripped = true ∧ (s.outp j).minOff = false ∧ 2 * (s.outp
     j).energy ≤ (s.outLimit j).fst) ∧
    (∃ (s : Machine.State) (j : Nat), j < 20 ∧ (s.link 17).down = false) :=
  ⟨⟨sets live [(PWR_OUT_CFG_mode 19, 1), (GLB_IMAGE_STATUS_hash, 1)], 19, .svc, by decide +kernel,
     by decide +kernel, by decide +kernel, by decide +kernel, by decide +kernel,
     by unfold State.outFree; decide +kernel⟩,
   ⟨sets { live with outs := [(19, { on := true })] } [(GLB_IMAGE_STATUS_hash, 1), (PWR_OUT_CMD_duty 19, 65535),
     (PWR_OUT_CFG_mode 19, 2), (PWR_OUT_CFG_trig_en 19, 1)], 19, 65535, by decide +kernel, by decide +kernel,
     by decide +kernel, by decide +kernel, by decide +kernel, by unfold State.outFree; decide +kernel,
     by decide +kernel, by decide +kernel, by unfold slewed; decide +kernel, by decide +kernel⟩,
   ⟨{ live with outs := [(19, { minOff := true })] }, 19, by and_intros <;> decide +kernel⟩,
   ⟨{ live with outs := [(19, { tripped := true })] }, 19, by and_intros <;> decide +kernel⟩,
   ⟨live, 19, by and_intros <;> decide +kernel⟩⟩

theorem test_witness_outputProtection :
    (∃ (s : Machine.State) (j : Nat) (c : Instr) (cause : Fld), j < 20 ∧ outputPresent s.variant j = true ∧ (s.outp
     j).on = true ∧ (c = Instr.shortCircuit j ∧ cause = PWR_OUT_FAULT_short_circuit j ∨ c = Instr.inrush j ∧ cause =
     PWR_OUT_FAULT_inrush j ∨ c = Instr.outputThermal j ∧ cause = PWR_OUT_FAULT_thermal j)) ∧
    (∃ (s : Machine.State), s.pdieOn = true) ∧
    (∃ (s : Machine.State) (g : Nat) (j : Nat), g < 5 ∧ s.isSet (groupFld g) = true ∧ j ∈ scopeOuts g ∧ (s.outp j).on
     = true ∧ s.fget (PWR_OUT_MEAS_current j) ≠ 0 ∧ (∀ (k : Nat), k ∈ scopeOuts g → k ≠ j → (s.outp k).on = true →
     s.fget (PWR_OUT_MEAS_current k) < s.fget (PWR_OUT_MEAS_current j))) ∧
    (∃ (s : Machine.State) (r : Requester) (j : Nat), j < 20 ∧ outputPresent s.variant j = true ∧ s.mayUse r (s.fget
     (PWR_OUT_CFG_owner j)) = true) :=
  ⟨⟨{ live with outs := [(19, { on := true })] }, 19, .inrush 19, PWR_OUT_FAULT_inrush 19, by decide +kernel,
     by decide +kernel, by decide +kernel, .inr (.inl ⟨rfl, rfl⟩)⟩,
   ⟨live, by decide +kernel⟩,
   ⟨sets { live with outs := [(19, { on := true })] } [(PWR_STATUS_pkg_shed, 1), (PWR_OUT_MEAS_current 19, 1)], 4,
     19, by and_intros <;> decide +kernel⟩,
   ⟨live, .svc, 19, by and_intros <;> decide +kernel⟩⟩

theorem test_witness_diagnosticsAndProfiles :
    (∃ (s : Machine.State) (j : Nat), j < 20 ∧ outputPresent s.variant j = true ∧ (s.outp j).on = true) ∧
    (∃ (s : Machine.State) (j : Nat), j < 20 ∧ outputPresent s.variant j = true ∧ s.pdieOn = true ∧ (s.outp j).on =
     false) ∧
    (∃ (s : Machine.State) (j : Nat), j < 20 ∧ outputPresent s.variant j = true ∧ (s.outp j).pullup = true) ∧
    (∃ (s : Machine.State) (j : Nat) (r : Requester), j < 20 ∧ outputPresent s.variant j = true ∧ s.mayUse r (s.fget
     (PWR_OUT_CFG_owner j)) = true ∧ s.isSet (PWR_PROF_STATUS_running j) = false) ∧
    (∃ (s : Machine.State) (j : Nat), j < 20 ∧ outputPresent s.variant j = true ∧ (s.outp j).due ≠ 0 ∧ s.isSet
     (PWR_PROF_STATUS_running j) = true ∧ (s.outp j).starting = false ∧ s.fget (PWR_PROF_STATUS_sample j) + 1 < s.fget
     (PWR_PROF_SEG_samples j (s.fget (PWR_PROF_STATUS_segment j))) ∧ s.fget (PWR_OUT_CFG_mode j) ≠ 1) :=
  ⟨⟨{ live with outs := [(19, { on := true })] }, 19, by and_intros <;> decide +kernel⟩,
   ⟨live, 19, by and_intros <;> decide +kernel⟩,
   ⟨{ live with outs := [(19, { pullup := true })] }, 19, by and_intros <;> decide +kernel⟩,
   ⟨live, 19, .svc, by and_intros <;> decide +kernel⟩,
   ⟨sets { live with outs := [(19, { due := 1 })] } [(PWR_PROF_STATUS_running 19, 1), (PWR_PROF_SEG_samples 19 0,
     2)], 19, by and_intros <;> decide +kernel⟩⟩

theorem test_witness_converterAndBattery :
    (∃ (s : Machine.State) (q : Nat) (c : Instr), q < 8 ∧ s.convOn = true ∧ s.fget (BAT_SEQ_CTRL_count q) ≠ 0 ∧
     s.conv.run = none ∧ s.conv.pend = [] ∧ ((∃ r, s.privileged r = true ∧ s.fget (BAT_SEQ_CTRL_mode q) = 0 ∧ c =
     Instr.sarSequenceGo r q) ∨ s.fget (BAT_SEQ_CTRL_mode q) = 2 ∧ c = Instr.sarPeriod q)) ∧
    (∃ (s : Machine.State) (q : Nat), q < 8 ∧ s.conv.run = some q ∧ s.isSet (BAT_SEQ_CTRL_slot_en q) = false ∧ s.fget
     (BAT_SEQ_CTRL_count q) ≤ 16) ∧
    (∃ (s : Machine.State) (c : Instr), s.batOn = true ∧ s.conv.measuring = false ∧ s.conv.test = none ∧ ((∃ r,
     s.privileged r = true ∧ c = Instr.batMeasStart r) ∨ c = Instr.batPeriod)) ∧
    (∃ (s : Machine.State), s.conv.measuring = true ∧ s.fget BAT_CFG_cell_count ≤ 16) ∧
    (∃ (s : Machine.State) (r : Requester), s.privileged r = true ∧ s.batOn = true ∧ s.conv.test = none) ∧
    (∃ (s : Machine.State) (k : Nat), s.conv.test = some (k, 0)) ∧
    (∃ (s : Machine.State) (k : Nat), s.conv.test = some (k, 1)) ∧
    (∃ (s : Machine.State) (k : Nat), s.conv.test = some (k, 2)) ∧
    (∃ (s : Machine.State) (k : Nat), s.conv.test = some (k, 3) ∧ k < s.fget BAT_CFG_cell_count) ∧
    (∃ (s : Machine.State) (k : Nat), s.conv.test = some (k, 3) ∧ s.fget BAT_CFG_cell_count ≤ k) :=
  ⟨⟨sets live [(BAT_SEQ_CTRL_count 7, 16)], 7, .sarSequenceGo .svc 7, by decide +kernel, by decide +kernel,
     by decide +kernel, by decide +kernel, by decide +kernel, .inl ⟨.svc, by decide +kernel⟩⟩,
   ⟨sets { live with conv := { run := some 7 } } [(BAT_SEQ_CTRL_count 7, 16)], 7, by and_intros <;> decide +kernel⟩,
   ⟨sets live [(BAT_CFG_cell_count, 16)], .batPeriod, by decide +kernel, by decide +kernel, by decide +kernel, .inr
     rfl⟩,
   ⟨sets { live with conv := { measuring := true } } [(BAT_CFG_cell_count, 16)], by and_intros <;> decide +kernel⟩,
   ⟨sets live [(BAT_CFG_cell_count, 16)], .svc, by and_intros <;> decide +kernel⟩,
   ⟨{ live with conv := { test := some (16, 0) } }, 16, by decide +kernel⟩,
   ⟨{ live with conv := { test := some (16, 1) } }, 16, by decide +kernel⟩,
   ⟨{ live with conv := { test := some (16, 2) } }, 16, by decide +kernel⟩,
   ⟨sets { live with conv := { test := some (15, 3) } } [(BAT_CFG_cell_count, 16)], 15,
     by and_intros <;> decide +kernel⟩,
   ⟨sets { live with conv := { test := some (16, 3) } } [(BAT_CFG_cell_count, 16)], 16,
     by and_intros <;> decide +kernel⟩⟩

theorem test_witness_timeBases :
    (∃ (s : Machine.State) (r : Requester) (d : Nat) (v : Nat), d < 4 ∧ s.privileged r = true ∧ (s.isSet TMB_MODE_mode
     = true ∨ d = 0) ∧ incMin ≤ v % 256 * 2 ^ 32 + BitVec.toNat (s.reg (TMB_INC_FRAC d)) ∧ v % 256 * 2 ^ 32 +
     BitVec.toNat (s.reg (TMB_INC_FRAC d)) ≤ incMax) ∧
    (∃ (s : Machine.State) (r : Requester) (d : Nat) (v : Nat), d < 4 ∧ s.privileged r = true ∧ (s.isSet TMB_MODE_mode
     = true ∨ d = 0) ∧ (v % 256 * 2 ^ 32 + BitVec.toNat (s.reg (TMB_INC_FRAC d)) < incMin ∨ incMax < v % 256 * 2 ^ 32
     + BitVec.toNat (s.reg (TMB_INC_FRAC d)))) ∧
    (∃ (s : Machine.State) (r : Requester) (d : Nat), d < 4 ∧ s.privileged r = true ∧ ((s.stepOf d).natAbs ≤
     BitVec.toNat (s.reg (TMB_THRESH d)) ∨ s.isSet (TMB_DOM_STATUS_synced_once d) = false) ∧ s.cinched = true ∧ 0 ≤
     ↑(s.tick.timeNs d) + s.stepOf d ∧ ↑(s.tick.timeNs d) + s.stepOf d < 2 ^ 64) ∧
    (∃ (s : Machine.State) (r : Requester) (d : Nat), d < 4 ∧ s.privileged r = true ∧ BitVec.toNat (s.reg (TMB_THRESH
     d)) < (s.stepOf d).natAbs ∧ s.isSet (TMB_DOM_STATUS_synced_once d) = true) ∧
    (∃ (s : Machine.State) (d : Nat) (r : Requester) (offset : Word), d < 4 ∧ s.isSet (TMB_DOM_CFG_role d) = false ∧
     s.privileged r = true ∧ (16 ≤ s.fget (TMB_DOM_CFG_sync_port d) ∨ s.isSet (TMB_PTP_PORT_as_capable (s.fget
     (TMB_DOM_CFG_sync_port d))) = true) ∧ (BitVec.toInt offset).natAbs ≤ BitVec.toNat (s.reg (TMB_GUARD d)) ∧ look
     zero s.lastReport d ≠ 0 ∧ s.ticks + 1 - look zero s.lastReport d ≤ s.reportWindow d ∧ s.fget
     (TMB_DOM_STATUS_good_run d) = 3) ∧
    (∃ (s : Machine.State) (d : Nat) (r : Requester) (offset : Word), d < 4 ∧ s.isSet (TMB_DOM_CFG_role d) = false ∧
     s.privileged r = true ∧ (16 ≤ s.fget (TMB_DOM_CFG_sync_port d) ∨ s.isSet (TMB_PTP_PORT_as_capable (s.fget
     (TMB_DOM_CFG_sync_port d))) = true) ∧ BitVec.toNat (s.reg (TMB_GUARD d)) < (BitVec.toInt offset).natAbs) ∧
    (∃ (s : Machine.State) (d : Nat), d < 4 ∧ s.isSet (TMB_DOM_CFG_role d) = false ∧ s.inside d = true) ∧
    (∃ (s : Machine.State) (d : Nat), d < 4 ∧ s.isSet (TMB_DOM_CFG_role d) = false ∧ s.pwk.guardWait = true) :=
  ⟨⟨sets live [(TMB_MODE_mode, 1), (⟨TMB_INC_FRAC 3, 31, 0⟩, 0x010624DD)], .svc, 3, 4, by decide +kernel,
     by decide +kernel, .inl (by decide +kernel), by and_intros <;> decide +kernel⟩,
   ⟨sets live [(TMB_MODE_mode, 1), (⟨TMB_INC_FRAC 3, 31, 0⟩, 0x010624DE)], .svc, 3, 4, by decide +kernel,
     by decide +kernel, .inl (by decide +kernel), .inr (by decide +kernel)⟩,
   ⟨sets live [(⟨TMB_STEP_LO 3, 31, 0⟩, 5), (⟨TMB_THRESH 3, 31, 0⟩, 5)], .svc, 3, by decide +kernel,
     by decide +kernel, .inl (by decide +kernel), by and_intros <;> decide +kernel⟩,
   ⟨sets live [(⟨TMB_STEP_LO 3, 31, 0⟩, 6), (⟨TMB_THRESH 3, 31, 0⟩, 5), (TMB_DOM_STATUS_synced_once 3, 1)], .svc, 3,
     by and_intros <;> decide +kernel⟩,
   ⟨sets { live with lastReport := [(3, 1)], ticks := 93750 } [(TMB_DOM_CFG_sync_port 3, 16), (TMB_DOM_CFG_sync_ivl
     3, 1), (⟨TMB_GUARD 3, 31, 0⟩, 5), (TMB_DOM_STATUS_good_run 3, 3)], 3, .svc, -5, by decide +kernel,
     by decide +kernel, by decide +kernel, .inl (by decide +kernel), by and_intros <;> decide +kernel⟩,
   ⟨sets live [(TMB_DOM_CFG_sync_port 3, 16), (⟨TMB_GUARD 3, 31, 0⟩, 5)], 3, .svc, -6, by decide +kernel,
     by decide +kernel, by decide +kernel, .inl (by decide +kernel), by decide +kernel⟩,
   ⟨sets live [(TMB_DOM_STATUS_inside 3, 1)], 3, by and_intros <;> decide +kernel⟩,
   ⟨{ live with pwk := { guardWait := true } }, 3, by and_intros <;> decide +kernel⟩⟩

theorem test_witness_triggersAndCaptures :
    (∃ (s : Machine.State) (n : Nat) (r : Requester), n < 32 ∧ s.privileged r = true) ∧
    (∃ (s : Machine.State) (n : Nat), n < 32 ∧ s.isSet (TMB_TRIG_CTRL_enable n) = true ∧ look zero s.trigTarget n ≤
     s.timeNs (s.fget (TMB_TRIG_CTRL_domain n)) ∧ (s.isSet (TMB_TRIG_CTRL_need_guard n) = false ∨ s.inside (s.fget
     (TMB_TRIG_CTRL_domain n)) = true)) ∧
    (∃ (s : Machine.State) (n : Nat), n < 32 ∧ s.isSet (TMB_TRIG_CTRL_enable n) = true ∧ look zero s.trigTarget n ≤
     s.timeNs (s.fget (TMB_TRIG_CTRL_domain n)) ∧ s.isSet (TMB_TRIG_CTRL_need_guard n) = true ∧ s.inside (s.fget
     (TMB_TRIG_CTRL_domain n)) = false) ∧
    (∃ (s : Machine.State) (n : Nat), n < 32 ∧ s.pulsing n = true) ∧
    (∃ (s : Machine.State) (k : Nat) (rising : Bool), k < 16 ∧ s.isSet (TMB_CAP_CTRL_enable k) = true ∧ bitOf (s.fget
     (TMB_CAP_CTRL_edge k)) (if rising = true then 0 else 1) = true ∧ (s.captureFifo k).length < 4) ∧
    (∃ (s : Machine.State) (r : Requester) (k : Nat), k < 16 ∧ (s.ownerOf r).isSome = true) ∧
    (∃ (s : Machine.State) (r : Requester) (n : Nat), portPresent s.variant n = true ∧ (s.ownerOf r).isSome = true) ∧
    (∃ (s : Machine.State) (r : Requester) (d : Nat), d < 4 ∧ (s.ownerOf r).isSome = true) :=
  ⟨⟨live, 31, .svc, by and_intros <;> decide +kernel⟩,
   ⟨sets live [(TMB_TRIG_CTRL_enable 31, 1)], 31, by decide +kernel, by decide +kernel, by decide +kernel, .inl
     (by decide +kernel)⟩,
   ⟨sets live [(TMB_TRIG_CTRL_enable 31, 1), (TMB_TRIG_CTRL_need_guard 31, 1)], 31,
     by and_intros <;> decide +kernel⟩,
   ⟨{ live with pulses := [(31, true)] }, 31, by and_intros <;> decide +kernel⟩,
   ⟨sets { live with captures := [(15, [1, 2, 3])] } [(TMB_CAP_CTRL_enable 15, 1), (TMB_CAP_CTRL_edge 15, 2)], 15,
     false, by and_intros <;> decide +kernel⟩,
   ⟨live, .svc, 15, by and_intros <;> decide +kernel⟩,
   ⟨live, .svc, 15, by and_intros <;> decide +kernel⟩,
   ⟨live, .svc, 3, by and_intros <;> decide +kernel⟩⟩

theorem test_witness_switchScheduling :
    (∃ (s : Machine.State) (p : Nat) (o : Nat) (c : Nat) (q : Nat) (id : Nat) (rest : List Nat) (st : Stored), s.memOk
     = true ∧ s.coreOn = true ∧ s.isSet SWC_SCHED_STATUS_mode = false ∧ s.anyCause = false ∧ s.fget
     SWC_SCHED_STATUS_parity_left = 0 ∧ s.pairs = [] ∧ s.newPairs = [(p, o, c)] ∧ p < 32 ∧ o < 32 ∧ o ≠ 26 ∧ c < 8 ∧
     16 ≤ q ∧ (st.frame.lane = true → q < 64) ∧ s.voq (voqKey p o c) = id :: rest ∧ s.storedAt id = some st ∧ st.outs
     = [(o, [q])] ∧ st.cells = 1 ∧ st.arriving = false ∧ (s.owner st.frame.owner).keyValid = true ∧ (s.owner
     st.frame.owner).keyDraw = st.epoch) ∧
    (∃ (s : Machine.State), s.isSet SWC_SCHED_STATUS_sweep_busy = true) ∧
    (∃ (s : Machine.State), s.isSet SWC_SCHED_STATUS_cause_parity = true ∧ s.fget SWC_SCHED_STATUS_parity_left ≤ 1) ∧
    (∃ (s : Machine.State) (p : Nat) (o : Nat) (c : Nat) (id : Nat) (rest : List Nat) (st : Stored), s.fget
     SWC_STALL_LIMIT_limit ≠ 0 ∧ p < 32 ∧ o < 32 ∧ c < 8 ∧ s.voq (voqKey p o c) = id :: rest ∧ s.storedAt id = some st
     ∧ st.stalled = false) :=
  ⟨⟨queued, 31, 22, 7, 80, 5, [], { frame := { owner := 1 }, outs := [(22, [80])], cells := 1, cls := 7 },
     by and_intros <;> decide +kernel⟩,
   ⟨sets live [(SWC_SCHED_STATUS_sweep_busy, 1)], by decide +kernel⟩,
   ⟨sets live [(SWC_SCHED_STATUS_cause_parity, 1), (SWC_SCHED_STATUS_parity_left, 1)],
     by and_intros <;> decide +kernel⟩,
   ⟨sets queued [(SWC_STALL_LIMIT_limit, 1)], 31, 22, 7, 5, [],
     { frame := { owner := 1 }, outs := [(22, [80])], cells := 1, cls := 7 }, by and_intros <;> decide +kernel⟩⟩

theorem test_witness_trafficControl :
    (∃ (s : Machine.State) (g : Nat), 1 ≤ g ∧ g < 32 ∧ s.isSet (STM_SGATE_CTRL_enable g) = true) ∧
    (∃ (s : Machine.State) (r : Requester), s.privileged r = true) ∧
    (∃ (s : Machine.State), s.coreOn = true ∧ s.isSet STM_SCHOOL_CTRL_learning = true ∧ s.schoolWindows < 99) ∧
    (∃ (s : Machine.State), s.coreOn = true ∧ s.isSet STM_SCHOOL_CTRL_learning = true ∧ s.schoolWindows = 99 ∧ s.fget
     STM_SCHOOL_PERIOD_seconds ≤ s.fget STM_SCHOOL_ELAPSED_seconds + 1) ∧
    (∃ (s : Machine.State), s.cinched = true ∧ getField (s.reg STM_SCRUB) 15 0 ≠ 0) ∧
    (∃ (s : Machine.State) (i : Nat), i < 8192 ∧ Tab.policer.at i ∈ s.repairs) :=
  ⟨⟨sets live [(STM_SGATE_CTRL_enable 31, 1)], 31, by and_intros <;> decide +kernel⟩,
   ⟨live, .svc, by decide +kernel⟩,
   ⟨sets { live with schoolWindows := 98 } [(STM_SCHOOL_CTRL_learning, 1)], by and_intros <;> decide +kernel⟩,
   ⟨sets { live with schoolWindows := 99 } [(STM_SCHOOL_CTRL_learning, 1), (STM_SCHOOL_PERIOD_seconds, 3),
     (STM_SCHOOL_ELAPSED_seconds, 2)], by and_intros <;> decide +kernel⟩,
   ⟨sets live [(⟨STM_SCRUB, 15, 0⟩, 1)], by and_intros <;> decide +kernel⟩,
   ⟨{ live with repairs := [Tab.policer.at 8191] }, 8191, by and_intros <;> decide +kernel⟩⟩

theorem test_witness_fdbMaintenance :
    (∃ (s : Machine.State) (p : Nat) (q : LearnReq) (rest : List LearnReq) (n : Nat), p < 2 ∧ (s.pipe p).learn = q ::
     rest ∧ s.fdbSame p q.key = [n] ∧ s.fdbOpen (fdbAddr p n) ∧ q.dest < 128 ∧ q.owner < 256) ∧
    (∃ (s : Machine.State) (p : Nat) (q : LearnReq) (rest : List LearnReq) (n : Nat), p < 2 ∧ (s.pipe p).learn = q ::
     rest ∧ s.fdbFind p q.key = none ∧ s.fdbFree p q.key = some n ∧ n < 65536 ∧ s.isSet (FWD_CTRL_auto_stream p) =
     false ∧ q.key.fits ∧ q.dest < 128 ∧ q.owner < 256) ∧
    (∃ (s : Machine.State) (p : Nat) (k : FdbKey) (rest : List FdbKey), p < 2 ∧ (s.pipe p).queries = k :: rest ∧
     s.fdbFind p k = none) ∧
    (∃ (s : Machine.State) (p : Nat) (k : FdbKey) (rest : List FdbKey) (n : Nat), p < 2 ∧ (s.pipe p).queries = k ::
     rest ∧ s.fdbSame p k = [n] ∧ s.fdbOpen (fdbAddr p n) ∧ s.eIs (fdbAddr p n) FDB_peer = false ∧ s.eIs (fdbAddr p n)
     FDB_drop = false ∧ s.eIs (fdbAddr p n) FDB_group = false) ∧
    (∃ (s : Machine.State) (p : Nat) (k : FdbKey) (rest : List PeerAnswer), p < 2 ∧ (s.pipe p).answers = { key := k }
     :: rest) ∧
    (∃ (s : Machine.State) (p : Nat) (k : FdbKey) (dest : Nat) (owner : Nat) (rest : List PeerAnswer) (n : Nat), p < 2
     ∧ (s.pipe p).answers = { key := k, hit := some (dest, false, owner) } :: rest ∧ k.fits ∧ dest < 128 ∧ owner < 256
     ∧ s.fdbFind p k = none ∧ s.fdbFree p k = some n ∧ n < 65536 ∧ s.isSet (FWD_CTRL_auto_stream p) = false) ∧
    (∃ (s : Machine.State) (p : Nat) (k : FdbKey) (dest : Nat) (rest : List (FdbKey × Nat)) (n : Nat), p < 2 ∧ (s.pipe
     p).moves = (k, dest) :: rest ∧ s.fdbFind p k = some n ∧ s.fdbOpen (fdbAddr p n) ∧ s.eIs (fdbAddr p n) FDB_peer =
     false) ∧
    (∃ (s : Machine.State) (p : Nat), p < 2 ∧ s.fget (FWD_AGE_period p) ≠ 0) ∧
    (∃ (s : Machine.State) (p : Nat) (id : Nat), p < 2 ∧ look (fun x => 0) s.autoIds id = 2) ∧
    (∃ (s : Machine.State) (p : Nat) (i : Nat), p < 2 ∧ i < 1024 ∧ s.eIs (frerAt p i) FRER_valid = true ∧ s.eget
     (frerAt p i) FRER_func = 2 ∧ s.eget (frerAt p i) FRER_reset_ms ≠ 0) :=
  ⟨⟨learned { learn := [⟨⟨1, 1⟩, 127, 255⟩] }, 1, ⟨⟨1, 1⟩, 127, 255⟩, [], 4 * fdbBucket ⟨1, 1⟩, by decide +kernel,
     by decide +kernel, by decide +kernel, by unfold State.fdbOpen; decide +kernel, by and_intros <;> decide +kernel⟩,
   ⟨learned { learn := [⟨⟨2 ^ 48 - 1, 4095⟩, 127, 255⟩] }, 1, ⟨⟨2 ^ 48 - 1, 4095⟩, 127, 255⟩, [], 4 * fdbBucket ⟨2 ^
     48 - 1, 4095⟩, by decide +kernel, by decide +kernel, by decide +kernel, by decide +kernel, by decide +kernel,
     by decide +kernel, by unfold FdbKey.fits; decide +kernel, by and_intros <;> decide +kernel⟩,
   ⟨learned { queries := [⟨1, 2⟩] }, 1, ⟨1, 2⟩, [], by and_intros <;> decide +kernel⟩,
   ⟨learned { queries := [⟨1, 1⟩] }, 1, ⟨1, 1⟩, [], 4 * fdbBucket ⟨1, 1⟩, by decide +kernel, by decide +kernel,
     by decide +kernel, by unfold State.fdbOpen; decide +kernel, by and_intros <;> decide +kernel⟩,
   ⟨learned { answers := [{ key := ⟨1, 1⟩ }] }, 1, ⟨1, 1⟩, [], by and_intros <;> decide +kernel⟩,
   ⟨learned { answers := [{ key := ⟨2 ^ 48 - 1, 4095⟩, hit := some (127, false, 255) }] }, 1, ⟨2 ^ 48 - 1, 4095⟩,
     127, 255, [], 4 * fdbBucket ⟨2 ^ 48 - 1, 4095⟩, by decide +kernel, by decide +kernel,
     by unfold FdbKey.fits; decide +kernel, by and_intros <;> decide +kernel⟩,
   ⟨learned { moves := [(⟨1, 1⟩, 127)] }, 1, ⟨1, 1⟩, 127, [], 4 * fdbBucket ⟨1, 1⟩, by decide +kernel,
     by decide +kernel, by decide +kernel, by unfold State.fdbOpen; decide +kernel, by decide +kernel⟩,
   ⟨sets live [(FWD_AGE_period 1, 1)], 1, by and_intros <;> decide +kernel⟩,
   ⟨{ live with autoIds := [(7, 2)] }, 1, 7, by and_intros <;> decide +kernel⟩,
   ⟨entry live (frerAt 1 1023) [(FRER_valid, 1), (FRER_func, 2), (FRER_reset_ms, 1)], 1, 1023,
     by and_intros <;> decide +kernel⟩⟩

theorem test_witness_pipelineFrames :
    (∃ (s : Machine.State) (q : Nat) (f : Frame) (o : Nat), s.routingReady = true ∧ s.coreOn = true ∧ q < 85 ∧
     s.offeredTo (fabricOf q) = [f] ∧ f.src = q ∧ f.resolved = some [o] ∧ f.stream = none ∧ f.cut = false ∧ f.hops = 0
     ∧ s.usedEntries Tab.mirror = [] ∧ (s.owner f.owner).keyValid = true ∧ s.mayReach f.owner o = true ∧
     logicalPresent s.variant o = true ∧ s.fportOn (fabricOf o) = true ∧ s.fget (SWC_GUAR_USED_used (fabricOf q)) +
     s.cellsOf f ≤ 4096) ∧
    (∃ (s : Machine.State) (c : MirrorCopy) (rest : List MirrorCopy), s.mirrorSink = c :: rest) ∧
    (∃ (s : Machine.State) (p : Nat), p < 2 ∧ s.cinched = true ∧ s.fget (FWD_SCRUB_period p) ≠ 0) ∧
    (∃ (s : Machine.State) (p : Nat) (i : Nat), p < 2 ∧ i < 512 ∧ ruleAt p i ∈ s.repairs) :=
  ⟨⟨{ live with offered := [(26, [{ owner := 1, src := 84, resolved := some [85] }])] }, 84,
     { owner := 1, src := 84, resolved := some [85] }, 85, by and_intros <;> decide +kernel⟩,
   ⟨{ live with mirrorSink := [⟨3, 20, 0, [1]⟩] }, ⟨3, 20, 0, [1]⟩, [], by decide +kernel⟩,
   ⟨sets live [(FWD_SCRUB_period 1, 1)], 1, by and_intros <;> decide +kernel⟩,
   ⟨{ live with repairs := [ruleAt 1 511] }, 1, 511, by and_intros <;> decide +kernel⟩⟩

theorem test_witness_tableCommands :
    (∃ (s : Machine.State) (p : Nat) (r : Requester) (v : Word) (tb : Tab), p < 2 ∧ s.tblMay r = true ∧ s.isSet
     (FWD_TBL_STATUS_busy p) = false ∧ cmdTable p (getField v 27 25) = some tb ∧ getField v 19 4 < tb.count) ∧
    (∃ (s : Machine.State) (p : Nat) (r : Requester) (v : Word) (i : Nat), p < 2 ∧ s.tblMay r = true ∧ s.isSet
     (FWD_TBL_STATUS_busy p) = false ∧ getField v 27 25 = 2 ∧ getField v 19 4 = i ∧ i < 512 ∧ s.entryBreach r
     (Tab.rules p) i 0 (s.tblData p 64) = false) ∧
    (∃ (s : Machine.State) (p : Nat) (r : Requester) (v : Word) (n : Nat), p < 2 ∧ s.tblMay r = true ∧ s.isSet
     (FWD_TBL_STATUS_busy p) = false ∧ getField v 27 25 < 2 ∧ s.fdbFind p (s.tblKey p) = none ∧ s.fdbFree p (s.tblKey
     p) = some n ∧ n < 65536 ∧ s.entryBreach r (Tab.fdb p) n 0 (overlay (s.tblData p 16) 11 [byteAt (s.tblData p 16)
     11 ||| 128]) = false) ∧
    (∃ (s : Machine.State) (p : Nat) (r : Requester) (v : Word) (n : Nat), p < 2 ∧ s.tblMay r = true ∧ s.isSet
     (FWD_TBL_STATUS_busy p) = false ∧ getField v 27 25 < 2 ∧ s.fdbFind p (s.tblKey p) = some n ∧ s.isSealed (fdbAddr
     p n) = false ∧ s.mayUse r (s.tagOf (fdbPos p n).fst (fdbPos p n).snd) = true) ∧
    (∃ (s : Machine.State) (p : Nat) (r : Requester) (v : Word) (n : Nat), p < 2 ∧ s.tblMay r = true ∧ s.isSet
     (FWD_TBL_STATUS_busy p) = false ∧ getField v 27 25 < 2 ∧ s.fdbFind p (s.tblKey p) = some n ∧ n < 65536) ∧
    (∃ (s : Machine.State) (p : Nat) (r : Requester) (v : Word) (c : Instr), p < 2 ∧ s.tblMay r = true ∧ s.isSet
     (FWD_TBL_STATUS_busy p) = false ∧ getField v 27 25 < 2 ∧ s.fdbFind p (s.tblKey p) = none ∧ (c = Instr.tblDelete r
     p v ∨ c = Instr.tblSearch r p v)) ∧
    (∃ (s : Machine.State) (p : Nat) (r : Requester) (v : Word) (c : Instr), p < 2 ∧ s.tblMay r = false ∧ c ∈
     [Instr.tblRead r p v, Instr.tblWrite r p v, Instr.tblInsert r p v, Instr.tblDelete r p v, Instr.tblSearch r p v]) ∧
    (∃ (s : Machine.State) (p : Nat) (st : Nat), p < 2 ∧ (s.pipe p).command = some st ∧ st < 65536) :=
  ⟨⟨live, 1, .svc, word (3 * 2 ^ 25 + 1023 * 16), Tab.frer 1, by and_intros <;> decide +kernel⟩,
   ⟨live, 1, .svc, word (2 * 2 ^ 25 + 511 * 16), 511, by and_intros <;> decide +kernel⟩,
   ⟨sets live [(⟨FWD_TBL_DATA 1 0, 31, 0⟩, 1), (⟨FWD_TBL_DATA 1 1, 31, 0⟩, 0x00010000)], 1, .svc, 0, 4 * fdbBucket
     ⟨1, 1⟩, by and_intros <;> decide +kernel⟩,
   ⟨sets (learned {}) [(⟨FWD_TBL_DATA 1 0, 31, 0⟩, 1), (⟨FWD_TBL_DATA 1 1, 31, 0⟩, 0x00010000)], 1, .svc, 0, 4 *
     fdbBucket ⟨1, 1⟩, by and_intros <;> decide +kernel⟩,
   ⟨sets (learned {}) [(⟨FWD_TBL_DATA 1 0, 31, 0⟩, 1), (⟨FWD_TBL_DATA 1 1, 31, 0⟩, 0x00010000)], 1, .svc, 0, 4 *
     fdbBucket ⟨1, 1⟩, by and_intros <;> decide +kernel⟩,
   ⟨live, 1, .svc, 0, .tblSearch .svc 1 0, by decide +kernel, by decide +kernel, by decide +kernel,
     by decide +kernel, by decide +kernel, .inr rfl⟩,
   ⟨live, 1, .func 1, 0, .tblSearch (.func 1) 1 0, by decide +kernel, by decide +kernel, by simp⟩,
   ⟨learned { command := some 0x2D }, 1, 0x2D, by and_intros <;> decide +kernel⟩⟩

theorem test_witness_ethernetReceive :
    (∃ (s : Machine.State) (n : Nat) (bs : List Byte) (info : RxInfo) (k : Nat), s.portUp n = true ∧ (s.eth
     n).cutPrefix = none ∧ s.rxFault n bs info = some k) ∧
    (∃ (s : Machine.State) (n : Nat) (bs : List Byte) (info : RxInfo) (q : Nat), s.portUp n = true ∧ (s.eth
     n).cutPrefix = none ∧ s.rxFault n bs info = none ∧ s.ownerActive (s.portOwnerOf n) = true ∧ isSecured bs = false
     ∧ s.isSet (EMAC_CFG_macsec_required n) = false ∧ q = (s.ethSteer n bs).snd ∧ rxUse (s.rxQ n q) false + bs.length
     + 4 ≤ 2048) ∧
    (∃ (s : Machine.State) (n : Nat) (bs : List Byte) (plain : List Byte) (sa : Option RxSec), n < 4 ∧ s.portUp n =
     true ∧ s.isSet (EMAC_CFG_cut_through n) = true ∧ (s.eth n).cutPrefix = none ∧ s.ownerActive (s.portOwnerOf n) =
     true ∧ s.cutPlain n bs = some (plain, sa) ∧ rxUse (s.rxQ n (s.ethSteer n plain).snd) false + plain.length + 4 ≤
     2048) ∧
    (∃ (s : Machine.State) (n : Nat) (x : RxSec) (k : Nat), (s.eth n).late = some x ∧ (s.eth n).cutPrefix = some k ∧
     (s.eth n).lateBytes ≠ []) ∧
    (∃ (s : Machine.State) (n : Nat) (r : Requester) (i : Nat), n < 16 ∧ i < 64 ∧ portPresent s.variant n = true ∧
     s.mayUse r (s.portOwnerOf n) = true) :=
  ⟨⟨port, 15, ether 0x0800, { fcsOk := false }, 5, by and_intros <;> decide +kernel⟩,
   ⟨sets port [(EMAC_CFG_max_len 15, 1522)], 15, ether 0x0800, {}, 0, by and_intros <;> decide +kernel⟩,
   ⟨sets { live with portOwner := [(3, 1)] } [(EMAC_STATUS_link_up 3, 1), (EMAC_CFG_cut_through 3, 1)], 3, ether
     0x0800, ether 0x0800, none, by and_intros <;> decide +kernel⟩,
   ⟨port { late := some { sa := 63, pn := 1, key := [1], iv := [2] }, cutPrefix := some 9, lateBytes := [1] }, 15,
     { sa := 63, pn := 1, key := [1], iv := [2] }, 9, by and_intros <;> decide +kernel⟩,
   ⟨port, 15, .svc, 63, by and_intros <;> decide +kernel⟩⟩

theorem test_witness_unprotectedFrames :
    (∃ (s : Machine.State) (n : Nat) (bs : List Byte) (info : RxInfo), s.portUp n = true ∧ (s.eth n).cutPrefix = none
     ∧ s.rxFault n bs info = none ∧ s.ownerActive (s.portOwnerOf n) = true ∧ beAt bs 12 2 ≠ 35045 ∧ s.isSet
     (EMAC_CFG_macsec_required n) = true ∧ beAt bs 12 2 ≠ 34958) ∧
    (∃ (s : Machine.State) (n : Nat) (bs : List Byte) (info : RxInfo), s.portUp n = true ∧ (s.eth n).cutPrefix = none
     ∧ s.rxFault n bs info = none ∧ s.ownerActive (s.portOwnerOf n) = true ∧ beAt bs 12 2 ≠ 35045 ∧ (s.isSet
     (EMAC_CFG_macsec_required n) = false ∨ beAt bs 12 2 = 34958) ∧ rxUse (s.rxQ n (s.ethSteer n bs).snd) false +
     bs.length + 4 ≤ 2048) :=
  ⟨⟨sets port [(EMAC_CFG_macsec_required 15, 1), (EMAC_CFG_max_len 15, 1522)], 15, ether 0x0800, {},
     by and_intros <;> decide +kernel⟩,
   ⟨sets port [(EMAC_CFG_macsec_required 15, 1), (EMAC_CFG_max_len 15, 1522)], 15, ether 0x888E, {},
     by decide +kernel, by decide +kernel, by decide +kernel, by decide +kernel, by decide +kernel, .inr
     (by decide +kernel), by decide +kernel⟩⟩

theorem test_witness_defaultSteering :
    ∃ (s : Machine.State) (n : Nat) (bs : List Byte) (info : RxInfo) (pcp : Nat) (q : Nat), s.portUp n = true ∧ (s.eth
    n).cutPrefix = none ∧ s.rxFault n bs info = none ∧ s.ownerActive (s.portOwnerOf n) = true ∧ beAt bs 12 2 ≠ 35045 ∧
    s.isSet (EMAC_CFG_macsec_required n) = false ∧ (∀ (i : Nat), i < 64 → s.steerMatches n i bs = false) ∧ (pcp = if
    beAt bs 12 2 = 33024 then beAt bs 14 2 / 8192 else if beAt bs 12 2 = 34984 ∧ beAt bs 16 2 = 33024 then beAt bs 18
    2 / 8192 else s.fget (EMAC_CTRL_default_pcp n)) ∧ (q = look (fun x => 0) s.defaultClass ((8 * if n < 8 then 0 else
    1) + pcp)) ∧ rxUse (s.rxQ n q) false + bs.length + 4 ≤ 2048 :=
  ⟨sets port [(EMAC_CFG_max_len 15, 1522)], 15, ether 0x0800, {}, 0, 0, by and_intros <;> decide +kernel⟩

theorem test_witness_ethernetEgress :
    (∃ (s : Machine.State) (n : Nat), s.portUp n = true ∧ (s.eth n).verifying = true) ∧
    (∃ (s : Machine.State) (n : Nat), s.portUp n = true ∧ s.isSet (EMAC_STATUS_preempt_active n) = true ∧ s.isSet
     (STM_GCL_CTRL_enable n) = true) ∧
    (∃ (s : Machine.State) (n : Nat) (c : Nat) (f : Frame) (rest : List Frame), s.portUp n = true ∧ (s.eth n).tx =
     none ∧ (s.eth n).pre = none ∧ s.isSet (STM_GCL_CTRL_enable n) = false ∧ (∀ (k : Nat), k < 8 → s.isSet
     (STM_CBS_SLOPE_en n k) = false) ∧ (s.gate n).longest = [] ∧ s.picked n = some c ∧ s.egressQ (8 * n + c) = f ::
     rest ∧ s.express n c = true ∧ s.usedEntries Tab.sa = [] ∧ s.isSet (EMAC_CFG_macsec_required n) = false ∧
     isPtpEvent f.bytes = false ∧ f.cut = false ∧ s.budgetOut n = false) ∧
    (∃ (s : Machine.State) (n : Nat) (c : Nat) (f : Frame) (rest : List Frame), s.portUp n = true ∧ (s.eth n).tx =
     none ∧ (s.eth n).pre = none ∧ s.isSet (STM_GCL_CTRL_enable n) = false ∧ (∀ (k : Nat), k < 8 → s.isSet
     (STM_CBS_SLOPE_en n k) = false) ∧ (s.gate n).longest = [] ∧ s.picked n = some c ∧ s.egressQ (8 * n + c) = f ::
     rest ∧ s.express n c = true ∧ s.usedEntries Tab.sa = [] ∧ s.isSet (EMAC_CFG_macsec_required n) = false ∧
     isPtpEvent f.bytes = false ∧ f.cut = false ∧ s.budgetOut n = true ∧ (s.eth n).budgetCls = []) ∧
    (∃ (s : Machine.State) (n : Nat) (f : Frame) (c : Nat), (s.eth n).tx = some (f, c) ∧ f.cut = false) :=
  ⟨⟨port { verifying := true }, 15, by and_intros <;> decide +kernel⟩,
   ⟨sets port [(EMAC_STATUS_preempt_active 15, 1), (STM_GCL_CTRL_enable 15, 1)], 15,
     by and_intros <;> decide +kernel⟩,
   ⟨{ port with egress := [(127, [{ bytes := ether 0x0800, owner := 1 }])], credit := [(15, (5, 0))] }, 15, 7,
     { bytes := ether 0x0800, owner := 1 }, [], by and_intros <;> decide +kernel⟩,
   ⟨{ port with egress := [(127, [{ bytes := ether 0x0800, owner := 1 }])], credit := [(15, (-5000000, 0))] }, 15,
     7, { bytes := ether 0x0800, owner := 1 }, [], by and_intros <;> decide +kernel⟩,
   ⟨port { tx := some ({ bytes := ether 0x0800, owner := 1 }, 7) }, 15, { bytes := ether 0x0800, owner := 1 }, 7,
     by and_intros <;> decide +kernel⟩⟩

theorem test_witness_ethernetLinks :
    (∃ (s : Machine.State) (n : Nat), s.portUp n = true) ∧
    (∃ (s : Machine.State) (n : Nat), portPresent s.variant n = true ∧ s.portPowered n = true ∧ s.isSet
     (EMAC_CTRL_enable n) = true ∧ (s.link n).down = false ∧ s.isSet (EMAC_STATUS_link_up n) = false ∧ (s.eth n).hot =
     false ∧ s.cinched = true) ∧
    (∃ (s : Machine.State) (n : Nat), portPresent s.variant n = true ∧ s.portPowered n = true ∧ s.isSet
     (EMAC_PHY_STATUS_training n) = true) ∧
    (∃ (s : Machine.State) (n : Nat) (sqi : Nat), portPresent s.variant n = true ∧ s.portPowered n = true ∧ sqi < 8) ∧
    (∃ (s : Machine.State) (n : Nat), portPresent s.variant n = true ∧ s.portPowered n = true ∧ (s.eth n).hot = true) ∧
    (∃ (s : Machine.State) (n : Nat) (r : Requester), n < 16 ∧ portPresent s.variant n = true ∧ s.mayUse r
     (s.portOwnerOf n) = true ∧ s.isSet (EMAC_CTRL_enable n) = true) ∧
    (∃ (s : Machine.State) (n : Nat) (r : Requester), n < 16 ∧ portPresent s.variant n = true ∧ s.mayUse r
     (s.portOwnerOf n) = true ∧ s.isSet (EMAC_CTRL_enable n) = false ∧ s.portPowered n = true ∧ (s.eth n).hot = false
     ∧ s.cinched = true) :=
  ⟨⟨port, 15, by decide +kernel⟩,
   ⟨sets live [(EMAC_CTRL_enable 15, 1)], 15, by and_intros <;> decide +kernel⟩,
   ⟨sets live [(EMAC_PHY_STATUS_training 15, 1)], 15, by and_intros <;> decide +kernel⟩,
   ⟨live, 15, 7, by and_intros <;> decide +kernel⟩,
   ⟨port { hot := true }, 15, by and_intros <;> decide +kernel⟩,
   ⟨port, 15, .svc, by and_intros <;> decide +kernel⟩,
   ⟨live, 15, .svc, by and_intros <;> decide +kernel⟩⟩

theorem test_witness_gateLists :
    (∃ (s : Machine.State) (n : Nat) (j : Nat) (a : Nat), portPresent s.variant n = true ∧ s.isSet
     (STM_GCL_CTRL_enable n) = true ∧ s.gateEntryNow n = some (j, a)) ∧
    (∃ (s : Machine.State) (n : Nat) (r : Requester) (v : Word), portPresent s.variant n = true ∧ n < 16 ∧
     s.privileged r = true ∧ s.isSet (STM_GCL_CTRL_enable n) = true ∧ getField v 31 31 = 1) ∧
    (∃ (s : Machine.State) (n : Nat), portPresent s.variant n = true ∧ s.isSet (STM_GCL_STATUS_pending n) = true ∧
     s.onFallback n = false) ∧
    (∃ (s : Machine.State) (n : Nat), portPresent s.variant n = true ∧ s.onFallback n = true ∧ s.inside (s.gclDomain
     n) = true) :=
  ⟨⟨sets (entry live (fallbackAt 15 0) [(GATE_interval, 1000)]) [(STM_GCL_CTRL_enable 15, 1),
     (STM_GCL_STATUS_fallback 15, 1), (STM_GCL_FB_len 15, 1), (⟨STM_GCL_FB_CYCLE 15, 31, 0⟩, 1000)], 15, 0, fallbackAt
     15 0, by and_intros <;> decide +kernel⟩,
   ⟨sets live [(STM_GCL_CTRL_enable 15, 1)], 15, .svc, 0x80000000, by and_intros <;> decide +kernel⟩,
   ⟨sets live [(STM_GCL_STATUS_pending 15, 1)], 15, by and_intros <;> decide +kernel⟩,
   ⟨sets live [(STM_GCL_STATUS_fallback 15, 1), (TMB_DOM_STATUS_inside 0, 1)], 15, by and_intros <;> decide +kernel⟩⟩

theorem test_witness_laneFaults :
    (∃ (s : Machine.State) (n : Nat), s.laneLive n = true ∧ s.isSet (LANE_PHY_STATUS_integrated n) = false) ∧
    (∃ (s : Machine.State) (n : Nat), lanePresent s.variant n = true ∧ s.lanePowered n = true ∧ s.windowKind n ≠ 0) ∧
    (∃ (s : Machine.State) (n : Nat), lanePresent s.variant n = true ∧ s.lanePowered n = false ∧ (s.lane n).aonKind ≠
     0) ∧
    (∃ (s : Machine.State) (n : Nat) (c : Instr) (bit : Nat), s.laneOn n ∧ (c = Instr.cmRange n ∧ bit = 2 ∧
     (s.laneKind n = 1 ∨ s.laneKind n = 4) ∨ c = Instr.stuckDominant n ∧ bit = 5 ∨ c = Instr.linPullupShort n ∧ bit =
     6 ∧ s.pullupNow n = true ∨ c = Instr.laneThermal n ∧ bit = 4 ∨ c = Instr.domTimeout n ∧ bit = 3 ∧ s.laneLive n =
     true ∧ s.laneHeld n = false)) ∧
    (∃ (s : Machine.State) (n : Nat) (bit : Nat), 2 ≤ bit ∧ bit ≤ 6 ∧ s.laneOn n) ∧
    (∃ (s : Machine.State) (n : Nat) (r : Requester), s.laneOpen r n ∧ s.laneEnabled n = true) ∧
    (∃ (s : Machine.State) (n : Nat) (r : Requester), s.laneOpen r n ∧ s.laneEnabled n = false ∧ s.laneKind n ≠ 0 ∧
     s.laneKind n ≠ 4) :=
  ⟨⟨lane 1 {} [(LANE_PHY_STATUS_integrated 47, 0)], 47, by and_intros <;> decide +kernel⟩,
   ⟨lane 1, 47, by and_intros <;> decide +kernel⟩,
   ⟨{ live with lanesOff := 2 ^ 47, lanes := [(47, { aonKind := 1 })] }, 47, by and_intros <;> decide +kernel⟩,
   ⟨lane 4, 47, .cmRange 47, 2, by unfold State.laneOn; decide +kernel, .inl ⟨rfl, rfl, .inr (by decide +kernel)⟩⟩,
   ⟨lane 1, 47, 6, by decide +kernel, by decide +kernel, by unfold State.laneOn; decide +kernel⟩,
   ⟨lane 1, 47, .svc, by unfold State.laneOpen; decide +kernel, by decide +kernel⟩,
   ⟨lane 2 {} [(LANE_PHY_CTRL_enable 47, 0)], 47, .svc, by unfold State.laneOpen; decide +kernel,
     by and_intros <;> decide +kernel⟩⟩

theorem test_witness_wakeDetectors :
    (∃ (s : Machine.State) (n : Nat) (ns : Nat), lanePresent s.variant n = true ∧ s.inStable = true ∧ (∀ (e : OnReq ×
     Nat), e ∈ s.pwk.wakeReqs → e.fst.lane ≠ n) ∧ (s.lane n).watching = 1 ∧ (edgeWidths (s.lane n).aonKind).snd ≤ ns) ∧
    (∃ (s : Machine.State) (n : Nat) (f : LaneFrame), lanePresent s.variant n = true ∧ s.inStable = true ∧ (∀ (e :
     OnReq × Nat), e ∈ s.pwk.wakeReqs → e.fst.lane ≠ n) ∧ (s.lane n).watching = 2 ∧ pnMatch ((s.lane n).aonPn.getD 0
     0) ((s.lane n).aonPn.getD 1 0) ((s.lane n).aonPn.getD 2 0) ((s.lane n).aonPn.getD 3 0) ((s.lane n).aonPn.getD 4
     0) f = true) ∧
    (∃ (s : Machine.State) (n : Nat), lanePresent s.variant n = true ∧ s.inStable = true ∧ (∀ (e : OnReq × Nat), e ∈
     s.pwk.wakeReqs → e.fst.lane ≠ n) ∧ (s.lane n).watching = 2 ∧ (s.lane n).pnErrors = 31) ∧
    (∃ (s : Machine.State) (n : Nat) (ns : Nat), lanePresent s.variant n = true ∧ (s.lane n).watching = 1 ∧ ns <
     (edgeWidths (s.lane n).aonKind).fst) ∧
    (∃ (s : Machine.State) (n : Nat) (f : LaneFrame), lanePresent s.variant n = true ∧ (s.lane n).watching = 2 ∧
     f.format = 0 ∧ pnMatch ((s.lane n).aonPn.getD 0 0) ((s.lane n).aonPn.getD 1 0) ((s.lane n).aonPn.getD 2 0)
     ((s.lane n).aonPn.getD 3 0) ((s.lane n).aonPn.getD 4 0) f = false) ∧
    (∃ (s : Machine.State) (n : Nat), lanePresent s.variant n = true ∧ (s.lane n).watching = 2 ∧ (s.lane n).pnErrors <
     31) ∧
    (∃ (s : Machine.State) (n : Nat), lanePresent s.variant n = true ∧ (s.lane n).watching ≠ 0 ∧ (s.lane n).aonKind =
     1) :=
  ⟨⟨asleep { watching := 1, aonKind := 2 }, 47, 150000, by and_intros <;> decide +kernel⟩,
   ⟨asleep { watching := 2, aonPn := [0x20000005, 0x1FFFFFFF, 0, 0, 0] }, 47, { ide := true, id := 5 },
     by and_intros <;> decide +kernel⟩,
   ⟨asleep { watching := 2, pnErrors := 31 }, 47, by and_intros <;> decide +kernel⟩,
   ⟨asleep { watching := 1, aonKind := 2 }, 47, 29999, by and_intros <;> decide +kernel⟩,
   ⟨asleep { watching := 2, aonPn := [0x20000005, 0x1FFFFFFF, 0, 0, 0] }, 47, { ide := true, id := 4 },
     by and_intros <;> decide +kernel⟩,
   ⟨asleep { watching := 2, pnErrors := 30 }, 47, by and_intros <;> decide +kernel⟩,
   ⟨asleep { watching := 2, aonKind := 1 }, 47, by and_intros <;> decide +kernel⟩⟩

theorem test_witness_canReceptionAndErrors :
    (∃ (s : Machine.State) (n : Nat) (f : LaneFrame) (i : Nat) (off : Nat), s.canListens n = true ∧ s.laneKind n = 1 ∧
     canFrameOk f = true ∧ s.formatOn n f.format = true ∧ s.isRingFrame n f = false ∧ bitOf (s.plan 24 8) n = false ∧
     s.pwk.downStep = 0 ∧ s.isSet PWK_STATE_off_latched = false ∧ List.find? (fun i => s.filterHit n i f) (List.range
     32) = some i ∧ s.isSet (LANE_FLT_hp n i) = false ∧ s.isSet (LANE_FLT_agg n i) = false ∧ s.isSet (LANE_FLT_rxq1 n
     i) = false ∧ s.isSet (LANE_FLT_rxq0 n i) = true ∧ s.rxOwned n 0 < 64 ∧ placePayload (s.lane n).owned0 (s.lane
     n).next0 (up16 f.data.length) = some off) ∧
    (∃ (s : Machine.State) (n : Nat) (f : LaneFrame) (i : Nat), s.canListens n = true ∧ s.laneKind n = 1 ∧ canFrameOk
     f = true ∧ s.formatOn n f.format = true ∧ s.isRingFrame n f = false ∧ bitOf (s.plan 24 8) n = false ∧
     s.pwk.downStep = 0 ∧ s.isSet PWK_STATE_off_latched = false ∧ List.find? (fun i => s.filterHit n i f) (List.range
     32) = some i ∧ s.isSet (LANE_FLT_hp n i) = true ∧ s.isSet (LANE_HP_CTRL_full n) = false) ∧
    (∃ (s : Machine.State) (n : Nat) (f : LaneFrame) (i : Nat), s.canListens n = true ∧ s.laneKind n = 1 ∧ canFrameOk
     f = true ∧ s.formatOn n f.format = true ∧ s.isRingFrame n f = false ∧ bitOf (s.plan 24 8) n = false ∧
     s.pwk.downStep = 0 ∧ s.isSet PWK_STATE_off_latched = false ∧ List.find? (fun i => s.filterHit n i f) (List.range
     32) = some i ∧ s.isSet (LANE_FLT_hp n i) = false ∧ s.isSet (LANE_FLT_agg n i) = true ∧ s.isSet (LANE_FLT_rxq1 n
     i) = false ∧ s.isSet (LANE_FLT_rxq0 n i) = false ∧ stagingUse (s.lane n).staging + 16 + up16 f.data.length ≤ 2048) ∧
    (∃ (s : Machine.State) (n : Nat) (r : Requester) (q : Nat), q < 2 ∧ s.laneOpen r n ∧ s.laneKind n ≠ 0) ∧
    (∃ (s : Machine.State) (n : Nat) (fmt : Nat), s.laneLive n = true ∧ s.laneKind n = 1 ∧ s.canListens n = true ∧ fmt
     ≤ 2 ∧ s.formatOn n fmt = false) ∧
    (∃ (s : Machine.State) (n : Nat), s.laneLive n = true ∧ s.laneKind n = 1 ∧ s.fget (LANE_ERR_state n) ≠ 3) ∧
    (∃ (s : Machine.State) (n : Nat), s.laneLive n = true ∧ s.laneKind n = 1 ∧ s.fget (LANE_ERR_state n) = 3 ∧ s.fget
     (LANE_ERR_busoff_seq n) < 127) ∧
    (∃ (s : Machine.State) (n : Nat), s.laneLive n = true ∧ s.laneKind n = 1 ∧ s.fget (LANE_ERR_state n) = 3 ∧ s.fget
     (LANE_ERR_busoff_seq n) = 127) ∧
    (∃ (s : Machine.State) (n : Nat) (kind : BusErrKind) (x : Nat), s.laneLive n = true ∧ s.laneKind n = 1 ∧
     s.canListens n = true ∧ (s.lane n).onBus = none ∧ s.isSet (LANE_CTRL_listen_only n) = false ∧ (kind =
     BusErrKind.receiver ∧ x = min (s.fget (LANE_ERR_rec n) + 1) 255 ∨ kind = BusErrKind.receiverPrimary ∧ x = min
     (s.fget (LANE_ERR_rec n) + 8) 255)) ∧
    (∃ (s : Machine.State) (n : Nat), s.laneLive n = true ∧ s.laneKind n = 1 ∧ s.canListens n = true ∧ (s.lane
     n).onBus = none ∧ s.isSet (LANE_CTRL_listen_only n) = false ∧ s.fget (LANE_ERR_tec n) < 248) ∧
    (∃ (s : Machine.State) (n : Nat), s.laneLive n = true ∧ s.laneKind n = 1 ∧ s.canListens n = true ∧ (s.lane
     n).onBus = none ∧ s.isSet (LANE_CTRL_listen_only n) = false ∧ 248 ≤ s.fget (LANE_ERR_tec n)) :=
  ⟨⟨lane 1 {} [(LANE_FLT_en 47 31, 1), (LANE_FLT_classical 47 31, 1), (LANE_FLT_rxq0 47 31, 1)], 47,
     { id := 2047, data := [1, 2, 3, 4, 5, 6, 7, 8] }, 31, 0, by and_intros <;> decide +kernel⟩,
   ⟨lane 1 {} [(LANE_FLT_en 47 31, 1), (LANE_FLT_classical 47 31, 1), (LANE_FLT_hp 47 31, 1)], 47,
     { id := 2047, data := [1, 2, 3, 4, 5, 6, 7, 8] }, 31, by and_intros <;> decide +kernel⟩,
   ⟨lane 1 {} [(LANE_FLT_en 47 31, 1), (LANE_FLT_classical 47 31, 1), (LANE_FLT_agg 47 31, 1)], 47,
     { id := 2047, data := [1, 2, 3, 4, 5, 6, 7, 8] }, 31, by and_intros <;> decide +kernel⟩,
   ⟨lane 2, 47, .svc, 1, by decide +kernel, by unfold State.laneOpen; decide +kernel, by decide +kernel⟩,
   ⟨lane 1, 47, 2, by and_intros <;> decide +kernel⟩,
   ⟨lane 1, 47, by and_intros <;> decide +kernel⟩,
   ⟨lane 1 {} [(LANE_ERR_state 47, 3), (LANE_ERR_busoff_seq 47, 126)], 47, by and_intros <;> decide +kernel⟩,
   ⟨lane 1 {} [(LANE_ERR_state 47, 3), (LANE_ERR_busoff_seq 47, 127)], 47, by and_intros <;> decide +kernel⟩,
   ⟨lane 1 {} [(LANE_ERR_rec 47, 255)], 47, .receiver, 255, by decide +kernel, by decide +kernel, by decide +kernel,
     by decide +kernel, by decide +kernel, .inl (by decide +kernel)⟩,
   ⟨lane 1 {} [(LANE_ERR_tec 47, 247)], 47, by and_intros <;> decide +kernel⟩,
   ⟨lane 1 {} [(LANE_ERR_tec 47, 248)], 47, by and_intros <;> decide +kernel⟩⟩

theorem test_witness_laneTransmission :
    (∃ (s : Machine.State) (n : Nat) (k : Nat) (r : Requester), k < 8 ∧ s.laneOpen r n ∧ s.laneKind n = 1 ∧ 4 ≤ k ∧
     (s.tx n k).cont = false ∧ s.isSet (LANE_TB_CTRL_pending n k) = false ∧ s.formatOn n (bitsOf (s.tbDesc n k 1) 13
     12) = true ∧ tbLengthOk (bitsOf (s.tbDesc n k 1) 13 12) (s.tbLength n k) = true ∧ s.tbLength n k ≤ 512) ∧
    (∃ (s : Machine.State) (n : Nat) (k : Nat) (r : Requester), k < 8 ∧ s.laneOpen r n ∧ s.laneKind n = 1 ∧ 4 ≤ k ∧
     (s.tx n k).cont = false ∧ s.isSet (LANE_TB_CTRL_pending n k) = false ∧ s.formatOn n (bitsOf (s.tbDesc n k 1) 13
     12) = false) ∧
    (∃ (s : Machine.State) (n : Nat) (k : Nat) (r : Requester), k < 8 ∧ s.laneOpen r n ∧ s.laneKind n = 1 ∧ 4 ≤ k ∧
     (s.tx n k).cont = false ∧ 1 ≤ (s.tx n k).span ∧ s.isSet (LANE_TB_CTRL_pending n k) = true ∧ (s.lane n).onBus =
     some k) ∧
    (∃ (s : Machine.State) (n : Nat) (k : Nat) (r : Requester), k < 8 ∧ s.laneOpen r n ∧ s.laneKind n = 1 ∧ 4 ≤ k ∧
     (s.tx n k).cont = false ∧ 1 ≤ (s.tx n k).span ∧ s.isSet (LANE_TB_CTRL_pending n k) = true ∧ (s.lane n).onBus ≠
     some k) ∧
    (∃ (s : Machine.State) (n : Nat) (k : Nat), k < 8 ∧ s.laneMayTx n = true ∧ s.laneKind n = 1 ∧ s.tbChoice n = some
     k ∧ s.budgetOut (16 + n) = false) ∧
    (∃ (s : Machine.State) (n : Nat) (k : Nat), k < 8 ∧ s.laneMayTx n = true ∧ s.laneKind n = 1 ∧ s.tbChoice n = some
     k ∧ s.budgetOut (16 + n) = true ∧ (s.lane n).budgetHold = none) ∧
    (∃ (s : Machine.State) (n : Nat) (k : Nat), k < 8 ∧ (s.lane n).onBus = some k ∧ k < 4) ∧
    (∃ (s : Machine.State) (n : Nat) (k : Nat), k < 8 ∧ (s.lane n).onBus = some k ∧ 4 ≤ k ∧ 1 ≤ (s.tx n k).span ∧ k +
     (s.tx n k).span ≤ 8 ∧ (s.tbFrame n k).format ≠ 3 ∧ s.laneHeld n = false ∧ s.isSet (LANE_PHY_CTRL_int_loopback n)
     = false) ∧
    (∃ (s : Machine.State) (n : Nat) (k : Nat) (fr : Frame) (rest : List Frame), k < 8 ∧ lanePresent s.variant n =
     true ∧ s.egressQ (8 * (16 + n)) = fr :: rest ∧ s.laneKind n = 0) ∧
    (∃ (s : Machine.State) (n : Nat) (k : Nat) (fr : Frame) (rest : List Frame), k < 8 ∧ lanePresent s.variant n =
     true ∧ s.egressQ (8 * (16 + n)) = fr :: rest ∧ s.laneKind n ≠ 0 ∧ (s.laneEnabled n = false ∨ (s.link 16).down =
     true)) ∧
    (∃ (s : Machine.State) (n : Nat) (k : Nat) (fr : Frame) (rest : List Frame), k < 8 ∧ lanePresent s.variant n =
     true ∧ s.egressQ (8 * (16 + n)) = fr :: rest ∧ s.laneEnabled n = true ∧ (s.link 16).down = false ∧ fr.lane = true
     ∧ s.laneKind n = 1 ∧ s.formatOn n (laneOfBytes fr.bytes).format = true ∧ tbLengthOk (laneOfBytes fr.bytes).format
     (laneOfBytes fr.bytes).data.length = true ∧ s.fabricSlot n (tbSpan (laneOfBytes fr.bytes).data.length) = some k) :=
  ⟨⟨lane 1 {} [(⟨LANE_TB_DESC 47 7 + 4, 31, 0⟩, 8)], 47, 7, .svc, by decide +kernel,
     by unfold State.laneOpen; decide +kernel, by and_intros <;> decide +kernel⟩,
   ⟨lane 1 {} [(⟨LANE_TB_DESC 47 7 + 4, 31, 0⟩, 0x1008)], 47, 7, .svc, by decide +kernel,
     by unfold State.laneOpen; decide +kernel, by and_intros <;> decide +kernel⟩,
   ⟨lane 1 { onBus := some 7 } [(LANE_TB_CTRL_pending 47 7, 1)], 47, 7, .svc, by decide +kernel,
     by unfold State.laneOpen; decide +kernel, by and_intros <;> decide +kernel⟩,
   ⟨lane 1 {} [(LANE_TB_CTRL_pending 47 7, 1)], 47, 7, .svc, by decide +kernel,
     by unfold State.laneOpen; decide +kernel, by and_intros <;> decide +kernel⟩,
   ⟨{ lane 1 {} [(LANE_TB_CTRL_pending 47 7, 1)] with credit := [(63, (1, 0))] }, 47, 7,
     by and_intros <;> decide +kernel⟩,
   ⟨{ lane 1 {} [(LANE_TB_CTRL_pending 47 7, 1)] with credit := [(63, (-256000000, 0))] }, 47, 7,
     by and_intros <;> decide +kernel⟩,
   ⟨lane 1 { onBus := some 3 }, 47, 3, by and_intros <;> decide +kernel⟩,
   ⟨lane 1 { onBus := some 7 }, 47, 7, by and_intros <;> decide +kernel⟩,
   ⟨{ live with egress := [(504, [{ bytes := [1] }])] }, 47, 7, { bytes := [1] }, [],
     by and_intros <;> decide +kernel⟩,
   ⟨{ lane 1 {} [(LANE_PHY_CTRL_enable 47, 0)] with egress := [(504, [{ bytes := [1] }])] }, 47, 7,
     { bytes := [1] }, [], by decide +kernel, by decide +kernel, by decide +kernel, by decide +kernel, .inl
     (by decide +kernel)⟩,
   ⟨{ lane 1 with egress := [(504, [{ bytes := List.replicate 16 0, lane := true }])] }, 47, 0,
     { bytes := List.replicate 16 0, lane := true }, [], by and_intros <;> decide +kernel⟩⟩

theorem test_witness_linAndT1s :
    (∃ (s : Machine.State) (n : Nat) (brk : Nat), s.laneKind n = 3 ∧ brk < 11) ∧
    (∃ (s : Machine.State) (n : Nat) (id : Nat) (brk : Nat) (rate : Nat), s.isLin n = true ∧ s.isSet
     (LANE_PHY_STATUS_integrated n) = true ∧ id < 64 ∧ s.headerAccepted n { id := id, breakBits := brk, rate := rate }
     = true ∧ 1 ≤ s.fget (LANE_LIN_ID_length n id) ∧ s.fget (LANE_LIN_ID_length n id) ≤ 8 ∧ s.fget (LANE_LIN_ID_dir n
     id) = 1) ∧
    (∃ (s : Machine.State) (n : Nat) (id : Nat) (brk : Nat) (rate : Nat), s.isLin n = true ∧ s.isSet
     (LANE_PHY_STATUS_integrated n) = true ∧ id < 64 ∧ s.headerAccepted n { id := id, breakBits := brk, rate := rate }
     = true ∧ 1 ≤ s.fget (LANE_LIN_ID_length n id) ∧ s.fget (LANE_LIN_ID_length n id) ≤ 8 ∧ s.fget (LANE_LIN_ID_dir n
     id) = 2 ∧ s.pwk.downStep = 0 ∧ s.budgetOut (16 + n) = false) ∧
    (∃ (s : Machine.State) (n : Nat) (id : Nat), s.isLin n = true ∧ (s.lane n).linId = some id ∧ (s.lane n).linDir = 2
     ∧ s.laneHeld n = false ∧ s.isSet (LANE_PHY_CTRL_int_loopback n) = false) ∧
    (∃ (s : Machine.State) (n : Nat) (id : Nat) (data : List Byte) (sum : Nat), s.isLin n = true ∧ (s.lane n).linId =
     some id ∧ (s.lane n).linDir = 1 ∧ sum ≠ linChecksum id (bitOf (s.lane n).linEntry 3) data) ∧
    (∃ (s : Machine.State) (n : Nat) (id : Nat) (data : List Byte) (sum : Nat), s.isLin n = true ∧ (s.lane n).linId =
     some id ∧ (s.lane n).linDir = 1 ∧ data.length = bitsOf (s.lane n).linEntry 11 8 ∧ sum = linChecksum id (bitOf
     (s.lane n).linEntry 3) data ∧ bitOf (s.plan 24 8) n = false ∧ s.pwk.downStep = 0 ∧ s.isSet PWK_STATE_off_latched
     = false) ∧
    (∃ (s : Machine.State) (n : Nat), s.laneLive n = true ∧ s.laneKind n = 2 ∧ s.isSet (LANE_LIN_SCHED_run n) = true ∧
     s.laneHeld n = false ∧ s.pwk.downStep = 0 ∧ s.slotValid n (s.lane n).linNext = true ∧ s.budgetOut (16 + n) =
     false ∧ s.isSet (LANE_PHY_CTRL_int_loopback n) = false) ∧
    (∃ (s : Machine.State) (n : Nat) (bytes : List Byte), s.laneLive n = true ∧ s.laneKind n = 4 ∧ s.isSet
     (LANE_PHY_STATUS_integrated n) = true ∧ bitOf (s.lane n).cond 2 = false ∧ s.isSet (LANE_PHY_CTRL_int_loopback n)
     = false ∧ bitOf (s.plan 24 8) n = false ∧ s.pwk.downStep = 0 ∧ s.isSet PWK_STATE_off_latched = false ∧ 14 ≤
     bytes.length ∧ bytes.length ≤ 1518 ∧ beAt bytes 0 6 = s.t1sMac n ∧ s.t1sMac n ≠ 0) ∧
    (∃ (s : Machine.State) (n : Nat) (bytes : List Byte), s.laneLive n = true ∧ s.laneKind n = 4 ∧ s.isSet
     (LANE_PHY_STATUS_integrated n) = true ∧ bitOf (s.lane n).cond 2 = false ∧ s.isSet (LANE_PHY_CTRL_int_loopback n)
     = false ∧ bitOf (s.plan 24 8) n = false ∧ s.pwk.downStep = 0 ∧ s.isSet PWK_STATE_off_latched = false ∧ 14 ≤
     bytes.length ∧ bytes.length ≤ 1518 ∧ beAt bytes 0 6 ≠ s.t1sMac n ∧ bitOf (beAt bytes 0 1) 0 = false ∧ s.isSet
     (LANE_T1S_CTRL_promisc n) = false) ∧
    (∃ (s : Machine.State) (n : Nat), s.laneLive n = true ∧ s.laneKind n = 4 ∧ s.isSet (LANE_T1S_PLCA_plca_ok n) =
     true) :=
  ⟨⟨lane 3, 47, 10, by and_intros <;> decide +kernel⟩,
   ⟨lane 3 { rate := 19200 } [(LANE_LIN_ID_length 47 63, 8), (LANE_LIN_ID_dir 47 63, 1)], 47, 63, 11, 22080,
     by and_intros <;> decide +kernel⟩,
   ⟨{ lane 3 { rate := 19200 } [(LANE_LIN_ID_length 47 63, 8), (LANE_LIN_ID_dir 47 63, 2)] with credit := [(63, (1, 0))] },
     47, 63, 11, 16320, by and_intros <;> decide +kernel⟩,
   ⟨lane 3 { linId := some 63, linDir := 2 }, 47, 63, by and_intros <;> decide +kernel⟩,
   ⟨lane 3 { linId := some 63, linDir := 1 }, 47, 63, [1], 256, by and_intros <;> decide +kernel⟩,
   ⟨lane 3 { linId := some 63, linDir := 1, linEntry := 0x100 }, 47, 63, [1], linChecksum 63 false [1],
     by and_intros <;> decide +kernel⟩,
   ⟨{ lane 2 {} [(LANE_LIN_SCHED_run 47, 1), (LANE_LIN_SLOT_valid 47 0, 1), (LANE_LIN_SLOT_slot_time 47 0, 1)] with credit := [(63, (1, 0))] },
     47, by and_intros <;> decide +kernel⟩,
   ⟨lane 4 {} [(LANE_T1S_MAC_HI_mac_hi 47, 0x0201), (LANE_T1S_MAC_LO_mac_lo 47, 5)], 47, [2, 1, 0, 0, 0, 5] ++
     List.replicate 1512 0, by and_intros <;> decide +kernel⟩,
   ⟨lane 4, 47, [2, 1, 0, 0, 0, 5] ++ List.replicate 8 0, by and_intros <;> decide +kernel⟩,
   ⟨lane 4 {} [(LANE_T1S_PLCA_plca_ok 47, 1)], 47, by and_intros <;> decide +kernel⟩⟩

theorem test_witness_gatewayReception :
    (∃ (s : Machine.State) (n : Nat) (f : LaneFrame) (ts : Nat) (rest : List (LaneFrame × Nat)), s.routingReady = true
     ∧ lanePresent s.variant n = true ∧ s.laneKind n ≠ 4 ∧ (s.lane n).staging = (f, ts) :: rest ∧ bitOf (BitVec.toNat
     (s.reg STM_SCHOOL_LANES_LO) + BitVec.toNat (s.reg STM_SCHOOL_LANES_HI) % 65536 * 2 ^ 32) n = false ∧ (∀ (w :
     Nat), w < 4 → s.isBad (routeAt (routeBucket n f.ide f.id + w)) = false) ∧ s.ownerActive (s.portOwnerOf (16 + n))
     = true ∧ (∀ (w : Nat), w < 4 → s.routeIs (routeBucket n f.ide f.id + w) n f.ide f.id = false)) ∧
    (∃ (s : Machine.State) (n : Nat) (f : LaneFrame) (ts : Nat) (rest : List (LaneFrame × Nat)) (i : Nat),
     s.routingReady = true ∧ lanePresent s.variant n = true ∧ s.laneKind n ≠ 4 ∧ (s.lane n).staging = (f, ts) :: rest
     ∧ bitOf (BitVec.toNat (s.reg STM_SCHOOL_LANES_LO) + BitVec.toNat (s.reg STM_SCHOOL_LANES_HI) % 65536 * 2 ^ 32) n
     = false ∧ (∀ (w : Nat), w < 4 → s.isBad (routeAt (routeBucket n f.ide f.id + w)) = false) ∧ s.ownerActive
     (s.portOwnerOf (16 + n)) = true ∧ (s.routeLookup n f).snd = some i ∧ s.eget (routeAt i) RXR_owner = s.portOwnerOf
     (16 + n) ∧ s.eget (routeAt i) RXR_action = 1 ∧ s.eget (routeAt i) RXR_sig_count = 0) ∧
    (∃ (s : Machine.State) (n : Nat) (f : LaneFrame) (ts : Nat) (rest : List (LaneFrame × Nat)) (i : Nat) (r : Nat)
     (bits : List Int), s.routingReady = true ∧ lanePresent s.variant n = true ∧ s.laneKind n ≠ 4 ∧ (s.lane n).staging
     = (f, ts) :: rest ∧ bitOf (BitVec.toNat (s.reg STM_SCHOOL_LANES_LO) + BitVec.toNat (s.reg STM_SCHOOL_LANES_HI) %
     65536 * 2 ^ 32) n = false ∧ (∀ (w : Nat), w < 4 → s.isBad (routeAt (routeBucket n f.ide f.id + w)) = false) ∧
     s.ownerActive (s.portOwnerOf (16 + n)) = true ∧ (s.routeLookup n f).snd = some i ∧ s.eget (routeAt i) RXR_owner =
     s.portOwnerOf (16 + n) ∧ s.eget (routeAt i) RXR_action = 0 ∧ s.eget (routeAt i) RXR_sig_count = 1 ∧ r = s.eget
     (routeAt i) RXR_sig_first ∧ s.isBad (sigrAt r) = false ∧ s.eIs (sigrAt r) SIGR_valid = true ∧ s.eIs (sigrAt r)
     SIGR_dir = false ∧ s.eIs (sigrAt r) SIGR_prog = false ∧ s.eIs (sigrAt r) SIGR_bit27 = false ∧ s.eget (sigrAt r)
     SIGR_owner = s.eget (routeAt i) RXR_owner ∧ s.slotOwner (s.eget (sigrAt r) SIGR_slot) = s.eget (sigrAt r)
     SIGR_owner ∧ bits = bitWalk (s.eIs (sigrAt r) SIGR_be) (s.eget (sigrAt r) SIGR_len_m1 + 1) ↑(s.eget (sigrAt r)
     SIGR_pos) ∧ walkIn f.data.length bits = true) ∧
    (∃ (s : Machine.State) (u : Nat) (team : Nat) (e : WqEntry), List.find? (fun x => decide ((s.workQ x.fst).length <
     256)) (s.deferBuf u) = some (team, e) ∧ teamPresent s.variant team = true ∧ s.teamPowered team = true ∧ s.teamHas
     team e.owner = true) ∧
    (∃ (s : Machine.State) (i : Nat), i < 262144 ∧ s.cinched = true ∧ (s.slot i).timeout ≠ 0 ∧ (s.slot i).stale =
     false ∧ 10 * (s.slot i).timeout ≤ s.slotAge i) :=
  ⟨⟨lane 1 { staging := [({ id := 7, data := [1, 2] }, 9)] }, 47, { id := 7, data := [1, 2] }, 9, [],
     by and_intros <;> decide +kernel⟩,
   ⟨entry (lane 1 { staging := [({ id := 7, data := [1, 2] }, 9)] }) (routeAt (routeBucket 47 false 7 + 3))
     [(ROUTE_valid, 1), (ROUTE_kind, 1), (RXR_lane, 47), (RXR_id, 7), (RXR_action, 1)], 47,
     { id := 7, data := [1, 2] }, 9, [], routeBucket 47 false 7 + 3, by and_intros <;> decide +kernel⟩,
   ⟨entry (entry (lane 1 { staging := [({ id := 7, data := [1, 2] }, 9)] }) (routeAt (routeBucket 47 false 7 + 3))
     [(ROUTE_valid, 1), (ROUTE_kind, 1), (RXR_lane, 47), (RXR_id, 7), (RXR_sig_count, 1), (RXR_sig_first, 262143)])
     (sigrAt 262143) [(SIGR_valid, 1), (SIGR_len_m1, 15), (SIGR_slot, 262143)], 47, { id := 7, data := [1, 2] }, 9,
     [], routeBucket 47 false 7 + 3, 262143, bitWalk false 16 0, by and_intros <;> decide +kernel⟩,
   ⟨{ live with gw := { deferred := [(0, [(0, ⟨1, 2, 3, 4, 0⟩)])] }, teams := { coursers := [(0, { named := true })] } },
     0, 0, ⟨1, 2, 3, 4, 0⟩, by and_intros <;> decide +kernel⟩,
   ⟨{ sets live [] with uptime := 5000000, aper := [(slotAt 262143 + 9, 0x80), (slotAt 262143 + 10, 0x00)] },
     262143, by and_intros <;> decide +kernel⟩⟩

theorem test_witness_gatewaySending :
    (∃ (s : Machine.State) (d : Nat) (c : Instr) (w : Machine.State), w = s.defView d ∧ d < 65536 ∧ s.routingReady =
     true ∧ s.isBad (routeAt d) = false ∧ w.isDef d 2 = true ∧ s.eIs (routeAt d) ROUTE_lock = false ∧ lanePresent
     s.variant (w.eget (routeAt d) PDU_lane) = true ∧ s.laneKind (w.eget (routeAt d) PDU_lane) = 1 ∧ (c =
     Instr.eventSend d ∧ s.defPending d = true ∧ s.batchOpen (s.defn d).batch = false ∨ c = Instr.cyclicSend d ∧
     w.eget (routeAt d) PDU_period ≠ 0)) ∧
    (∃ (s : Machine.State) (d : Nat) (w : Machine.State), w = s.defView d ∧ d < 65536 ∧ s.routingReady = true ∧
     s.isBad (routeAt d) = false ∧ w.isDef d 3 = true ∧ w.eIs (routeAt d) ETHD_tunnel = true ∧ s.eIs (routeAt d)
     ROUTE_lock = false ∧ w.eget (routeAt d) ETHD_agg = 0 ∧ (s.defn d).msgs ≠ []) ∧
    (∃ (s : Machine.State) (n : Nat) (fr : Frame) (rest : List Frame), lanePresent s.variant n = true ∧ s.laneKind n =
     1 ∧ s.egressQ (8 * (16 + n)) = fr :: rest ∧ fr.lane = false ∧ isAcf fr.bytes = true ∧ beAt (acfData fr.bytes) 0 2
     / 512 = 1 ∧ (acfData fr.bytes).length = 4 * (beAt (acfData fr.bytes) 0 2 % 512) ∧ 16 ≤ (acfData fr.bytes).length
     ∧ s.formatOn n (canOfAcf (acfData fr.bytes)).format = true) ∧
    (∃ (s : Machine.State), s.cinched = true ∧ s.fget SIG_RT_SCRUB_period ≠ 0) ∧
    (∃ (s : Machine.State) (i : Nat), i < 65536 ∧ routeAt i ∈ s.repairs) :=
  ⟨⟨entry (lane 1) (routeAt 65535) [(ROUTE_valid, 1), (ROUTE_kind, 2), (PDU_lane, 47), (PDU_period, 1)], 65535,
     .cyclicSend 65535, State.defView (entry (lane 1) (routeAt 65535) [(ROUTE_valid, 1), (ROUTE_kind, 2), (PDU_lane,
     47), (PDU_period, 1)]) 65535, rfl, by decide +kernel, by decide +kernel, by decide +kernel, by decide +kernel,
     by decide +kernel, by decide +kernel, by decide +kernel, .inr (by decide +kernel)⟩,
   ⟨entry { live with gw := { defs := [(65535, { msgs := [[1]] })] } } (routeAt 65535) [(ROUTE_valid, 1),
     (ROUTE_kind, 3), (ETHD_tunnel, 1)], 65535, State.defView (entry
     { live with gw := { defs := [(65535, { msgs := [[1]] })] } } (routeAt 65535) [(ROUTE_valid, 1), (ROUTE_kind, 3),
     (ETHD_tunnel, 1)]) 65535, rfl, by and_intros <;> decide +kernel⟩,
   ⟨{ lane 1 with egress := [(504, [{ bytes := List.replicate 12 0 ++ [0x22, 0xF0, 0x82, 0, 16] ++ List.replicate 9 0 ++ [2, 4] ++ List.replicate 14 0 }])] },
     47,
     { bytes := List.replicate 12 0 ++ [0x22, 0xF0, 0x82, 0, 16] ++ List.replicate 9 0 ++ [2, 4] ++ List.replicate 14 0 },
     [], by and_intros <;> decide +kernel⟩,
   ⟨sets live [(SIG_RT_SCRUB_period, 1)], by and_intros <;> decide +kernel⟩,
   ⟨{ live with repairs := [routeAt 65535] }, 65535, by and_intros <;> decide +kernel⟩⟩

theorem test_witness_stepRunsFront :
    ∃ (c : Instr) (rest : List Instr) (s : Machine.State), s.pending = c :: rest :=
  ⟨.testReset, [], { live with pending := [.testReset] }, by decide +kernel⟩

theorem test_witness_emptyQueueTicks :
    ∃ (s : Machine.State), s.pending = [] :=
  ⟨live, by decide +kernel⟩

theorem test_witness_resetState :
    ∃ (a : Nat), a ≠ PWK_WREC_IDX ∧ a ≠ PWK_WREC 0 :=
  ⟨0, by and_intros <;> decide +kernel⟩

theorem test_witness_stepKeepsMemory :
    ∃ (s : Machine.State) (t : Machine.State), s.memOk = true ∧ step s = Host.Outcome.next t :=
  ⟨live, live.tick, by decide +kernel, by rfl⟩

theorem test_witness_protectedStateFrames :
    (∃ (c : Instr) (s : Machine.State) (t : Machine.State), exec c s = Host.Outcome.next t ∧ (¬c ∈
     [Instr.aonPowerOnReset, Instr.buckDropout, Instr.railsInRegulation, Instr.imageLoad, Instr.digestVerdict,
     Instr.nvmCmdComplete, Instr.persistLoadDone, Instr.persistEraseDone, Instr.mboxAnswer]) ∧ (∀ (r : Requester) (b :
     Bool), c ≠ Instr.retire r b) ∧ (∀ (r : Requester) (row : Nat), c ≠ Instr.program r row) ∧ (∀ (r : Requester) (a :
     Nat) (v : Word), c ≠ Instr.registerWrite r a v) ∧ (∀ (off : Nat) (ws : List Word) (bad : Bool), c ≠
     Instr.svcWrite off ws bad) ∧ (∀ (r : Requester) (k : Nat), c ≠ Instr.keyWrite r k ∧ c ≠ Instr.keyClear r k ∧ c ≠
     Instr.keyDerive r k ∧ c ≠ Instr.keyUnwrap r k) ∧ (∀ (r : Requester) (o : Nat), c ≠ Instr.ownerDestroy r o)) ∧
    (∃ (c : Instr) (s : Machine.State) (t : Machine.State), exec c s = Host.Outcome.next t ∧ (¬c ∈
     [Instr.aonPowerOnReset, Instr.coreLineOff, Instr.pdieOff, Instr.buckDropout, Instr.sramClearDone,
     Instr.imageLoad, Instr.digestVerdict, Instr.pllLock]) ∧ (∀ (r : Requester) (b : Bool), c ≠ Instr.commit r b) ∧ (∀
     (r : Requester) (a : Nat) (v : Word), c ≠ Instr.registerWrite r a v) ∧ (∀ (off : Nat) (ws : List Word) (bad :
     Bool), c ≠ Instr.svcWrite off ws bad) ∧ c ≠ Instr.hobbleRestoreDone ∧ (∀ (off : Nat) (b : Bool) (x : Byte), c ≠
     Instr.hobbleCopyMismatch off b x)) ∧
    (∃ (c : Instr) (s : Machine.State) (t : Machine.State), exec c s = Host.Outcome.next t ∧ (¬c ∈
     [Instr.aonPowerOnReset, Instr.coreLineOff, Instr.pdieOff, Instr.buckDropout, Instr.sramClearDone,
     Instr.imageLoad, Instr.digestVerdict, Instr.pllLock]) ∧ (∀ (r : Requester) (b : Bool), c ≠ Instr.commit r b) ∧ (∀
     (r : Requester) (a : Nat) (v : Word), c ≠ Instr.registerWrite r a v) ∧ (∀ (off : Nat) (ws : List Word) (bad :
     Bool), c ≠ Instr.svcWrite off ws bad) ∧ c ≠ Instr.persistLoadDone ∧ c ≠ Instr.scanEnable ∧ (∀ (tok : List Byte),
     c ≠ Instr.debugUnlock tok) ∧ (∀ (n : Nat), c ≠ Instr.tamperAssert n) ∧ (∀ (r : Requester) (k : Nat), c ≠
     Instr.keyWrite r k ∧ c ≠ Instr.keyClear r k ∧ c ≠ Instr.keyDerive r k ∧ c ≠ Instr.keyUnwrap r k ∧ c ≠
     Instr.ownerDestroy r k)) ∧
    (∃ (c : Instr) (s : Machine.State) (t : Machine.State), exec c s = Host.Outcome.next t ∧ (¬c ∈
     [Instr.aonPowerOnReset, Instr.coreLineOff, Instr.pdieOff, Instr.buckDropout, Instr.sramClearDone,
     Instr.imageLoad, Instr.digestVerdict, Instr.pllLock]) ∧ (∀ (r : Requester) (b : Bool), c ≠ Instr.commit r b) ∧ (∀
     (r : Requester) (a : Nat) (v : Word), c ≠ Instr.registerWrite r a v) ∧ (∀ (off : Nat) (ws : List Word) (bad :
     Bool), c ≠ Instr.svcWrite off ws bad) ∧ c ≠ Instr.scanEnable ∧ c ≠ Instr.sclCmdComplete ∧ (∀ (r : Requester) (o :
     Nat), c ≠ Instr.ownerCreate r o ∧ c ≠ Instr.ownerDestroy r o)) :=
  ⟨⟨.testReset, live, live, rfl, by simp, by simp, by simp, by simp, by simp, by simp, by simp⟩,
   ⟨.testReset, live, live, rfl, by simp, by simp, by simp, by simp, by decide +kernel, by simp⟩,
   ⟨.testReset, live, live, rfl, by simp, by simp, by simp, by simp, by decide +kernel, by decide +kernel, by simp,
     by simp, by simp⟩,
   ⟨.testReset, live, live, rfl, by simp, by simp, by simp, by simp, by decide +kernel, by decide +kernel, by simp⟩⟩

theorem test_witness_unitFrames :
    (∃ (c : Instr) (s : Machine.State) (t : Machine.State) (n : Nat) (m : Nat) (a : Nat), exec c s = Host.Outcome.next
     t ∧ ((∃ r v fmt q ack w bit pinB, c ∈ [Instr.protocolException n fmt, Instr.canReintegrate n,
     Instr.busOffRecovery n, Instr.hpRelease r n, Instr.ackIdxWrite r n q ack, Instr.watermarkWrite r n q w,
     Instr.overVoltage n pinB, Instr.terminationReclose n, Instr.cmRange n, Instr.stuckDominant n,
     Instr.linPullupShort n, Instr.laneThermal n, Instr.domTimeout n, Instr.laneFaultRecovery n bit, Instr.laneDisable
     r n, Instr.laneReenable r n, Instr.laneLoopback r n, Instr.lanePhyFaultClear r n v, Instr.laneIntegrated n]) ∨ ∃
     h late busNs, c ∈ [Instr.linHeader n h, Instr.linNoResp n, Instr.linSlotStart n late busNs, Instr.laneTxStart n,
     Instr.plcaBeacon n, Instr.plcaFallback n]) ∧ m < 48 ∧ m ≠ n ∧ 1572864 + 2048 * m ≤ a ∧ a < 1574912 + 2048 * m) ∧
    (∃ (c : Instr) (s : Machine.State) (t : Machine.State) (n : Nat) (m : Nat) (a : Nat), exec c s = Host.Outcome.next
     t ∧ (∃ r v sent sqi i, c ∈ [Instr.preemptVerifyDone n, Instr.preemptVerifyTimeout n, Instr.gateHoldApply n sent,
     Instr.trainingFail n, Instr.sqiLow n sqi, Instr.portEnable r n, Instr.steeringRuleCommit r n i v,
     Instr.gclChangeRequest r n v, Instr.gclChangeApply n, Instr.gateResume n]) ∧ m < 16 ∧ m ≠ n ∧ 1310720 + 4096 * m
     ≤ a ∧ a < 1314816 + 4096 * m) :=
  ⟨⟨.plcaFallback 47, live, live, 47, 46, 1572864 + 2048 * 46, rfl, .inr ⟨⟨0, 0, 0⟩, false, 0, by simp⟩,
     by and_intros <;> decide +kernel⟩,
   ⟨.trainingFail 15, live, live, 15, 14, 1310720 + 4096 * 14, rfl, ⟨.svc, 0, 0, 0, 0, by simp⟩,
     by and_intros <;> decide +kernel⟩⟩

end Sys2Proof.Tests
end

section
/-!
Register, absent-unit, counter, payload and unsupported accesses (R15, R178, R215, R408, R409, R511, R512): what the
requester checks admit, what a write of a switch-core register leaves, what a rejected write counts, what a read of a
counter clears, and what a word written to a transmit payload changes.
-/

namespace Sys2Proof.Machine

/-! ### Requests that the host port turns away (R511, R512) -/

/-- Whole aligned words of a requester that has an owner are never answered with Unsupported Request. -/
theorem State.supported_of_owned {s : State} {r : Requester} {a len : Nat} (t : State) (ho : (s.ownerOf r).isSome = true)
    (ha : a % 4 = 0) (hl : len % 4 = 0) (h0 : len ≠ 0) : s.supported r a len t = t := by
  have hn : s.unsupported r a len = none := by
    cases r with
    | func f => simp [State.unsupported, Option.isNone_eq_false_iff.mpr ho, ha, hl, h0]
    | svc => rfl
    | ostler => rfl
  rw [State.supported, hn]

/-- A function's request that is unbound, unaligned or no whole number of words has no effect but its answer. -/
theorem State.supported_refused {s : State} {f a len : Nat} (t : State) (hc : s.coreOn = true)
    (h : s.ownerOf (.func f) = none ∨ a % 4 ≠ 0 ∨ len % 4 ≠ 0) :
    s.supported (.func f) a len t = s.emit (.pcieCompletion f 1 none) := by
  have hn : s.unsupported (.func f) a len = some f := by
    rcases h with h | h | h <;> simp [State.unsupported, hc, h]
  rw [State.supported, hn]

/-- Every access of a function that R511 or R512 turns away completes with Unsupported Request alone. -/
theorem completes_unsupported {s : State} {c : Instr} {f a : Nat} {v : Word} {bs : List Byte} (hc : s.coreOn = true)
    (h : s.ownerOf (.func f) = none ∨ a % 4 ≠ 0)
    (hi : c ∈ [Instr.registerWrite (.func f) a v, .counterRead (.func f) a, .tableWrite (.func f) a bs]) :
    Completes c s fun t => t = s.emit (.pcieCompletion f 1 none) := by
  have h' : ∀ len, s.ownerOf (.func f) = none ∨ a % 4 ≠ 0 ∨ len % 4 ≠ 0 := fun _ => h.imp_right .inl
  simp only [List.mem_cons, List.not_mem_nil, or_false] at hi
  rcases hi with rfl | rfl | rfl
  · exact ⟨_, rfl, State.supported_refused _ hc (h' 4)⟩
  · exact ⟨_, rfl, State.supported_refused _ hc (h' 4)⟩
  · exact ⟨_, rfl, State.supported_refused _ hc (h' bs.length)⟩

/-! ### Writes of switch-core registers (R15, R408) -/

/-- A bus write leaves of each bit what its access code says (R15): W1C and W1S act only where a 1 is written. -/
theorem getLsbD_rowAfter_bus (row : RegRow) (old v : Word) {i : Nat} (hi : i < 32) :
    (rowAfter row false old v).getLsbD i = bitAfter row old v i := by
  simp only [rowAfter, bitAfter, word, BitVec.getLsbD_or, BitVec.getLsbD_and, BitVec.getLsbD_not, BitVec.getLsbD_ofNat,
    hi, decide_true, Bool.true_and, Bool.false_eq_true, if_false, Nat.or_zero]
  cases v.getLsbD i with
  | false => cases row.rw.testBit i <;> simp
  | true => cases row.w1s.testBit i <;> cases row.w1c.testBit i <;> cases row.rw.testBit i <;> simp

theorem State.plainWrite_of_row {s : State} {a : Nat} {row : RegRow} (img : Bool) (v : Word) (h : s.rowAt a = some row) :
    s.plainWrite img a v = s.setReg a (rowAfter row img (s.reg a) v) := by rw [State.plainWrite, h]

/-- No window of R9's absent units lies in the switch core's block. -/
theorem unitAbsent_switchCore (w : Variant) {a : Nat} (h : a / 0x10000 = 0x10) : unitAbsent w a = false := by
  unfold unitAbsent
  repeat rw [if_neg (by omega)]

/-- A write of a switch-core register is a plain write of a privileged requester, but for the scheduler's control. -/
theorem State.busWrite_switchCore {s : State} {r : Requester} {a : Nat} {row : RegRow} (v : Word) (hc : s.coreOn = true)
    (ho : (s.ownerOf r).isSome = true) (ha : a % 4 = 0) (hb : a / 0x10000 = 0x10) (hne : a ≠ SWC_SCHED_CTRL)
    (hr : s.rowAt a = some row) : s.busWrite r a v = s.privWrite r a fun s => s.plainWrite false a v := by
  simp [State.busWrite, State.blockWrite, State.swcWrite, unitAbsent_switchCore s.variant hb, hc,
    Option.isNone_eq_false_iff.mpr ho, ha, hb, hne, hr]

/-- REGISTER_WRITE by a requester that has an owner is the bus write of an aligned address of the map. -/
theorem exec_registerWrite {s : State} {r : Requester} {a : Nat} (v : Word) (ho : (s.ownerOf r).isSome = true)
    (ha : a % 4 = 0) (hm : a < 0x400000) : exec (.registerWrite r a v) s = .next (s.busWrite r a v) := by
  show execRegisterWrite r a v s = _
  rw [execRegisterWrite, State.supported_of_owned _ ho ha rfl (by decide), if_pos hm]

/-! ### Rejected writes (R409) -/

/-- A rejected write counts; where no rejection is logged yet, it is logged, and WRITE_REJECTED is raised. -/
theorem State.rejectWrite_eq {s : State} {r : Requester} {o : Nat} (space index : Nat) (ho : s.ownerOf r = some o) :
    s.rejectWrite r space index =
      if s.isSet SCL_REJECT_LOG_valid then s.countSat SCL_REJECT_COUNT
      else ((s.countSat SCL_REJECT_COUNT).fsets [(SCL_REJECT_LOG_valid, 1), (SCL_REJECT_LOG_owner, o),
        (SCL_REJECT_LOG_space, space), (SCL_REJECT_LOG_index, index)]).raise 1447 := by
  have hv : (s.countSat SCL_REJECT_COUNT).isSet SCL_REJECT_LOG_valid = s.isSet SCL_REJECT_LOG_valid := by
    rw [State.isSet, State.isSet, State.countSat, State.addSat, State.fget_setReg_other _ _ (by decide)]
  rw [State.rejectWrite, ho]
  simp only [hv]

/-- The log entry written leaves every register but SCL_REJECT_LOG. -/
theorem State.reg_rejectLog_other (s : State) {a : Nat} (o space index : Nat) (h : a ≠ SCL_REJECT_LOG) :
    (s.fsets [(SCL_REJECT_LOG_valid, 1), (SCL_REJECT_LOG_owner, o), (SCL_REJECT_LOG_space, space),
      (SCL_REJECT_LOG_index, index)]).reg a = s.reg a := by
  simp only [State.fsets, List.foldl_cons, List.foldl_nil]
  rw [State.reg_fset_other _ _ h, State.reg_fset_other _ _ h, State.reg_fset_other _ _ h, State.reg_fset_other _ _ h]

/-- The log entry written is valid. -/
theorem State.fget_rejectLog_valid (s : State) (o space index : Nat) :
    (s.fsets [(SCL_REJECT_LOG_valid, 1), (SCL_REJECT_LOG_owner, o), (SCL_REJECT_LOG_space, space),
      (SCL_REJECT_LOG_index, index)]).fget SCL_REJECT_LOG_valid = 1 := by
  simp only [State.fsets, List.foldl_cons, List.foldl_nil]
  rw [State.fget_fset_other _ _ (by decide) (by decide), State.fget_fset_other _ _ (by decide) (by decide),
    State.fget_fset_other _ _ (by decide) (by decide), State.fget_fset_same _ _ (by decide)]
  rfl

/-- A rejected write leaves every register but the rejection log, as it counts, and those that an event changes. -/
theorem State.reg_rejectWrite {s : State} {r : Requester} {a : Nat} (space index : Nat) (ho : (s.ownerOf r).isSome = true)
    (hl : a ≠ SCL_REJECT_LOG) (h1 : ¬(0x20000 ≤ a ∧ a < 0x30000)) (h2 : ¬(0x40000 ≤ a ∧ a < 0x50000)) :
    (s.rejectWrite r space index).reg a = (s.countSat SCL_REJECT_COUNT).reg a := by
  obtain ⟨o, ho⟩ := Option.isSome_iff_exists.mp ho
  rw [State.rejectWrite_eq space index ho]
  split
  · rfl
  · rw [(State.raise_only _ (by decide)).reg h1 h2, State.reg_rejectLog_other _ _ _ _ hl]

/-- After a rejected write, a rejection is logged. -/
theorem State.rejectWrite_logged {s : State} {r : Requester} (space index : Nat) (ho : (s.ownerOf r).isSome = true) :
    (s.rejectWrite r space index).fget SCL_REJECT_LOG_valid = 1 := by
  obtain ⟨o, ho⟩ := Option.isSome_iff_exists.mp ho
  rw [State.rejectWrite_eq space index ho]
  split
  · next hv =>
    rw [State.countSat, State.addSat, State.fget_setReg_other _ _ (by decide)]
    exact eq_of_beq hv
  · rw [State.fget, (State.raise_only _ (by decide)).reg (by decide) (by decide)]
    exact State.fget_rejectLog_valid _ _ _ _

/-! ### Absent units (R9) -/

/-- A field that counts reads one more, up to the most that it holds. -/
theorem State.fget_fcount_same (s : State) {f : Fld} (hf : f.hi < 32) :
    (s.fcount f).fget f = min (s.fget f + 1) (2 ^ (f.hi + 1 - f.lo) - 1) := by
  have hp : 0 < 2 ^ (f.hi + 1 - f.lo) := Nat.two_pow_pos _
  rw [State.fcount, State.fget_fset_same _ _ hf, Nat.mod_eq_of_lt (by omega)]

/-- ABSENT_WRITE to a register in an absent unit's window counts and does nothing else. -/
theorem exec_absentWrite_register {s : State} {r : Requester} {a : Nat} (hc : s.coreOn = true)
    (ho : (s.ownerOf r).isSome = true) (hm : a < 0x400000) (hu : unitAbsent s.variant a = true) :
    exec (.absentWrite r a) s = .next s.absentWrite := by
  show execAbsentWrite r a s = _
  simp [execAbsentWrite, hc, ho, hm, hu]

/-! ### Counters that a read clears (R178) -/

/-- A read of a counter of the ports or pipelines clears it and does nothing else. -/
theorem State.regRead_counter {s : State} {a : Nat} {row : RegRow} (r : Requester) (h1 : 0x110000 ≤ a) (h2 : a < 0x180000)
    (hr : s.rowAt a = some row) (hrc : row.rc = true) : s.regRead r a = s.counterClear a := by
  simp only [State.regRead, hr, hrc, if_true, PWK_WREC_IDX, SWC_LANE_PEAK, SIG_DEFER_PEAK, TMB_CAP_CTRL, TMB_PTP_PORT]
  repeat rw [if_neg (by omega)]

theorem halfOf_emacCnt {u i : Nat} (hu : u < 16) (hi : i < 64) : halfOf (EMAC_CNT u i) = some (halfField (EMAC_CNT 0 0) u i) := by
  have e1 : (EMAC_CNT u i - EMAC_CNT 0 0) / 0x1000 = u := by simp only [EMAC_CNT]; omega
  have e2 : (EMAC_CNT u i - EMAC_CNT 0 0) % 0x1000 = 4 * i := by simp only [EMAC_CNT]; omega
  have e3 : EMAC_CNT 0 0 ≤ EMAC_CNT u i := by simp only [EMAC_CNT]; omega
  rw [halfOf, halfArrays, List.find?_cons_of_pos (by simp [e1, e2, e3, hu]; omega)]
  simp [e1, e2]

theorem halfOf_fwdCnt {u i : Nat} (hu : u < 2) (hi : i < 32) : halfOf (FWD_CNT u i) = some (halfField (FWD_CNT 0 0) u i) := by
  have e1 : (FWD_CNT u i - FWD_CNT 0 0) / 0x10000 = u := by simp only [FWD_CNT]; omega
  have e2 : (FWD_CNT u i - FWD_CNT 0 0) % 0x10000 = 4 * i := by simp only [FWD_CNT]; omega
  have e3 : FWD_CNT 0 0 ≤ FWD_CNT u i := by simp only [FWD_CNT]; omega
  have e4 : ¬ EMAC_CNT 0 0 ≤ FWD_CNT u i := by simp only [FWD_CNT, EMAC_CNT]; omega
  rw [halfOf, halfArrays, List.find?_cons_of_neg (by simp [e4]), List.find?_cons_of_pos (by simp [e1, e2, e3, hu]; omega)]
  simp [e1, e2]

theorem State.regShown_emacCnt (s : State) (r : Requester) {u i : Nat} (hu : u < 16) (hi : i < 64) :
    s.regShown r (EMAC_CNT u i) = s.reg (EMAC_CNT u i) := by
  have hb : EMAC_CNT u i / 0x10000 = 0x14 := by simp only [EMAC_CNT]; omega
  have hn : (EMAC_CNT u i - EMAC_CFG 0) / 0x1000 = u := by simp only [EMAC_CNT, EMAC_CFG]; omega
  have h1 : ¬ EMAC_CNT u i < EMAC_STEER u 64 := by simp only [EMAC_CNT, EMAC_STEER]; omega
  have h2 : ¬ EMAC_CNT u i < 0x4E300 := by simp only [EMAC_CNT]; omega
  have hh : heldAddr (EMAC_CNT u i) = false := by simp [heldAddr, hn, h1, h2]
  simp [State.regShown, hb, State.regLast, hh]

theorem State.regShown_fwdCnt (s : State) (r : Requester) {u i : Nat} (hu : u < 2) (hi : i < 32) :
    s.regShown r (FWD_CNT u i) = s.reg (FWD_CNT u i) := by
  have hb : FWD_CNT u i / 0x10000 = 0x11 ∨ FWD_CNT u i / 0x10000 = 0x12 := by simp only [FWD_CNT]; omega
  have ho : FWD_CNT u i % 0x10000 = 0x100 + 4 * i := by simp only [FWD_CNT]; omega
  have hw : bitmapWord (FWD_CNT u i % 0x10000) = none := by
    rw [bitmapWord, ho, if_neg (by omega), if_neg (by omega), if_neg (by omega)]
  rcases hb with hb | hb <;> simp [State.regShown, hb, hw]

/-- A cleared counter and its half bit read 0, and every other register as before. -/
theorem State.counterClear_spec {s : State} {a : Nat} {f : Fld} (hh : halfOf a = some f) (hne : f.addr ≠ a) (hf : f.hi < 32) :
    (s.counterClear a).out = s.out ∧ (s.counterClear a).reg a = 0 ∧ (s.counterClear a).fget f = 0 ∧
      ∀ b, b ≠ a → b ≠ f.addr → (s.counterClear a).reg b = s.reg b := by
  have hc : s.counterClear a = (s.setReg a 0).fset f 0 := by simp only [State.counterClear, hh]
  rw [hc]
  refine ⟨rfl, ?_, ?_, fun b h1 h2 => ?_⟩
  · rw [State.reg_fset_other _ _ hne.symm, State.reg_setReg_same]
  · rw [State.fget_fset_same _ _ hf, Nat.zero_mod]
  · rw [State.reg_fset_other _ _ h2, State.reg_setReg_other _ _ h1]

/-- COUNTER_READ of an aligned counter of a present port or pipeline drives its word out and clears it. -/
theorem exec_counterRead {s : State} {r : Requester} {a : Nat} {row : RegRow} (hc : s.coreOn = true)
    (ho : (s.ownerOf r).isSome = true) (ha : a % 4 = 0) (hu : unitAbsent s.variant a = false) (h1 : 0x110000 ≤ a)
    (h2 : a < 0x180000) (hr : s.rowAt a = some row) (hrc : row.rc = true) :
    exec (.counterRead r a) s = .next ((s.counterClear a).emit (.read r (s.regShown r a))) := by
  have hq : s.busRead r a = (s.counterClear a, s.regShown r a) := by
    simp [State.busRead, hc, Option.isNone_eq_false_iff.mpr ho, ha, hu, hr, State.regRead_counter r h1 h2 hr hrc]
  show execCounterRead r a s = _
  rw [execCounterRead, State.supported_of_owned _ ho ha rfl (by decide)]
  simp [hq, hc, ho]

/-- The counters of the ports (R178, R179) and of the pipelines (R178, R220), with the first address of their array. -/
def PortOrFwdCounter (base u i a : Nat) : Prop :=
  base = EMAC_CNT 0 0 ∧ u < 16 ∧ i < 64 ∧ a = EMAC_CNT u i ∨ base = FWD_CNT 0 0 ∧ u < 2 ∧ i < 32 ∧ a = FWD_CNT u i

theorem PortOrFwdCounter.range {base u i a : Nat} (h : PortOrFwdCounter base u i a) :
    a % 4 = 0 ∧ 0x110000 ≤ a ∧ a < 0x180000 := by
  rcases h with ⟨-, hu, hi, rfl⟩ | ⟨-, hu, hi, rfl⟩
  · simp only [EMAC_CNT]; omega
  · simp only [FWD_CNT]; omega

theorem PortOrFwdCounter.halfOf_eq {base u i a : Nat} (h : PortOrFwdCounter base u i a) :
    halfOf a = some (halfField base u i) := by
  rcases h with ⟨rfl, hu, hi, rfl⟩ | ⟨rfl, hu, hi, rfl⟩
  · exact halfOf_emacCnt hu hi
  · exact halfOf_fwdCnt hu hi

theorem PortOrFwdCounter.regShown_eq {base u i a : Nat} (h : PortOrFwdCounter base u i a) (s : State) (r : Requester) :
    s.regShown r a = s.reg a := by
  rcases h with ⟨-, hu, hi, rfl⟩ | ⟨-, hu, hi, rfl⟩
  · exact s.regShown_emacCnt r hu hi
  · exact s.regShown_fwdCnt r hu hi

/-- A counter's half bit is a bit of another register. -/
theorem PortOrFwdCounter.half {base u i a : Nat} (h : PortOrFwdCounter base u i a) :
    (halfField base u i).addr ≠ a ∧ (halfField base u i).hi < 32 := by
  rcases h with ⟨rfl, hu, hi, rfl⟩ | ⟨rfl, hu, hi, rfl⟩
  · rw [halfField, if_pos rfl, emacHalf]
    split <;> simp only [EMAC_CNT, EMAC_CNT_HALF_LO, EMAC_CNT_HALF_HI] <;> omega
  · rw [halfField, if_neg (by decide), if_pos rfl]
    simp only [FWD_CNT, FWD_CNT_HALF]; omega

/-! ### Transmit payloads (R137, R215, R540) -/

/-- Every table ends before the lanes' buffers begin, or begins after they end (R539, R540). -/
theorem tabs_outside_laneBuf : ∀ t ∈ tabs, t.base + t.size * t.count ≤ laneBuf 0 ∨ laneBuf 48 ≤ t.base := by decide

/-- No table stands in the lanes' buffers. -/
theorem tabAt_laneBuf {a : Nat} (h1 : laneBuf 0 ≤ a) (h2 : a < laneBuf 48) : tabAt a = none := by
  rw [tabAt, Option.map_eq_none_iff, List.find?_eq_none]
  intro t ht h
  rw [Bool.and_eq_true, decide_eq_true_eq, decide_eq_true_eq] at h
  have := tabs_outside_laneBuf t ht
  omega

/-- An aligned word in the payload of a buffer that is not pending is written to the aperture. -/
theorem State.laneBufWrite_payload {s : State} {r : Requester} {n off : Nat} {bs : List Byte}
    (hp : lanePresent s.variant n = true) (hu : s.mayUse r (s.portOwnerOf (16 + n)) = true) (ha : off % 4 = 0)
    (h1 : 0x3000 ≤ off) (h2 : off < 0x3800) (hl : bs.length = 4)
    (hb : s.isSet (LANE_TB_CTRL_pending n ((off - 0x2800) / 0x200)) = false) :
    s.laneBufWrite r (laneBuf n + off) bs = s.setAper (laneBuf n + off) bs := by
  have e1 : (laneBuf n + off - laneBuf 0) / 0x4000 = n := by simp only [laneBuf]; omega
  have e2 : (laneBuf n + off - laneBuf 0) % 0x4000 = off := by simp only [laneBuf]; omega
  have e3 : (laneBuf n + off) % 4 = 0 := by simp only [laneBuf]; omega
  simp only [State.laneBufWrite, e1, e2, hp, hu, hb, Bool.not_true, Bool.false_eq_true, if_false, or_false]
  rw [if_neg (by omega), if_pos (.inl ⟨hl, e3⟩)]

/-- A requester that an owner check admits has an owner. -/
theorem State.isSome_ownerOf_of_mayUse {s : State} {r : Requester} {o : Nat} (h : s.mayUse r o = true) :
    (s.ownerOf r).isSome = true := by
  simp only [State.mayUse, Bool.or_eq_true, beq_iff_eq] at h
  rcases h with h | h <;> simp [h]

/-- A write in the lanes' buffers by a requester that has an owner is a write of the lane's window. -/
theorem State.aperWrite_laneBuf {s : State} {r : Requester} {a : Nat} (bs : List Byte) (hc : s.coreOn = true)
    (ho : (s.ownerOf r).isSome = true) (h1 : laneBuf 0 ≤ a) (h2 : a < laneBuf 48) :
    s.aperWrite r a bs = s.laneBufWrite r a bs := by
  have haddr : aperAddr r a = some a := if_pos (by simp only [laneBuf] at h1 h2; omega)
  simp [State.aperWrite, hc, Option.isNone_eq_false_iff.mpr ho, haddr, tabAt_laneBuf h1 h2, h1, h2]

/-- TABLE_WRITE of a word in the payload of a buffer that is not pending writes it to the aperture. -/
theorem exec_tableWrite_payload {s : State} {r : Requester} {n off : Nat} {bs : List Byte} (hc : s.coreOn = true)
    (hn : n < 48) (hp : lanePresent s.variant n = true) (hu : s.mayUse r (s.portOwnerOf (16 + n)) = true)
    (ha : off % 4 = 0) (h1 : 0x3000 ≤ off) (h2 : off < 0x3800) (hl : bs.length = 4)
    (hb : s.isSet (LANE_TB_CTRL_pending n ((off - 0x2800) / 0x200)) = false) :
    exec (.tableWrite r (laneBuf n + off) bs) s = .next (s.setAper (laneBuf n + off) bs) := by
  have ho := State.isSome_ownerOf_of_mayUse hu
  have hal : (laneBuf n + off) % 4 = 0 := by simp only [laneBuf]; omega
  show execTableWrite r _ bs s = _
  rw [execTableWrite, State.supported_of_owned _ ho hal (by omega) (by omega),
    State.aperWrite_laneBuf bs hc ho (by simp only [laneBuf]; omega) (by simp only [laneBuf]; omega),
    State.laneBufWrite_payload hp hu ha h1 h2 hl hb]

/-! ### The obligation -/

/-- A privileged requester's write of a switch-core register changes the bits that its access codes give it (R15). -/
theorem completes_registerWrite_privileged {s : State} {r : Requester} {a : Nat} {row : RegRow} (v : Word)
    (hc : s.coreOn = true) (ho : (s.ownerOf r).isSome = true) (ha : a % 4 = 0) (hb : a / 0x10000 = 0x10)
    (hne : a ≠ SWC_SCHED_CTRL) (hr : s.rowAt a = some row) (hp : s.privileged r = true) :
    Completes (.registerWrite r a v) s fun t =>
      (∀ i, i < 32 → (t.reg a).getLsbD i = bitAfter row (s.reg a) v i) ∧ (∀ b, b ≠ a → t.reg b = s.reg b) ∧
        t.aper = s.aper := by
  refine ⟨s.setReg a (rowAfter row false (s.reg a) v), ?_, fun i hi => ?_, fun b h => State.reg_setReg_other _ _ h, rfl⟩
  · rw [exec_registerWrite v ho ha (by omega), State.busWrite_switchCore v hc ho ha hb hne hr, State.privWrite, if_pos hp,
      State.plainWrite_of_row _ _ hr]
  · rw [State.reg_setReg_same, getLsbD_rowAfter_bus _ _ _ hi]

/-- Another requester's write of a switch-core register is ignored, counted and logged (R408, R409). -/
theorem completes_registerWrite_rejected {s : State} {r : Requester} {a : Nat} {row : RegRow} (v : Word)
    (hc : s.coreOn = true) (ho : (s.ownerOf r).isSome = true) (ha : a % 4 = 0) (hb : a / 0x10000 = 0x10)
    (hne : a ≠ SWC_SCHED_CTRL) (hr : s.rowAt a = some row) (hp : s.privileged r = false) :
    Completes (.registerWrite r a v) s fun t =>
      t.reg a = s.reg a ∧ t.reg SCL_REJECT_COUNT = word (min ((s.reg SCL_REJECT_COUNT).toNat + 1) 0xFFFFFFFF) ∧
        t.fget SCL_REJECT_LOG_valid = 1 := by
  refine ⟨s.rejectWrite r 0 (a / 4), ?_, ?_, ?_, State.rejectWrite_logged _ _ ho⟩
  · rw [exec_registerWrite v ho ha (by omega), State.busWrite_switchCore v hc ho ha hb hne hr, State.privWrite,
      if_neg (by simp [hp])]
  · rw [State.reg_rejectWrite _ _ ho (by simp only [SCL_REJECT_LOG]; omega) (by omega) (by omega)]
    exact State.reg_setReg_other _ _ (by simp only [SCL_REJECT_COUNT]; omega)
  · rw [State.reg_rejectWrite _ _ ho (by decide) (by decide) (by decide)]
    exact State.reg_setReg_same _ _ _

/-- A write to a register of an absent unit counts, saturating, and changes nothing else (R9). -/
theorem completes_absentWrite {s : State} {r : Requester} {a : Nat} (hc : s.coreOn = true)
    (ho : (s.ownerOf r).isSome = true) (hm : a < 0x400000) (hu : unitAbsent s.variant a = true) :
    Completes (.absentWrite r a) s fun t =>
      t.fget ⟨GLB_ABSENT_WRITES, 15, 0⟩ = min (s.fget ⟨GLB_ABSENT_WRITES, 15, 0⟩ + 1) 0xFFFF ∧
        (∀ b, b ≠ GLB_ABSENT_WRITES → t.reg b = s.reg b) ∧ t.aper = s.aper :=
  ⟨s.absentWrite, exec_absentWrite_register hc ho hm hu, State.fget_fcount_same s (by decide),
    fun _ h => State.reg_fset_other _ _ h, rfl⟩

/-- A read of a port or forwarding counter returns the count and clears the counter and its half bit (R178). -/
theorem completes_counterRead {s : State} {r : Requester} {a u i base : Nat} {row : RegRow} (hc : s.coreOn = true)
    (ho : (s.ownerOf r).isSome = true) (hk : PortOrFwdCounter base u i a) (hu : unitAbsent s.variant a = false)
    (hr : s.rowAt a = some row) (hrc : row.rc = true) :
    Completes (.counterRead r a) s fun t =>
      t.out = .read r (s.reg a) :: s.out ∧ t.reg a = 0 ∧ t.fget (halfField base u i) = 0 ∧
        ∀ b, b ≠ a → b ≠ (halfField base u i).addr → t.reg b = s.reg b := by
  obtain ⟨ha, h1, h2⟩ := hk.range
  obtain ⟨hout, hcnt, hhalf, hrest⟩ := State.counterClear_spec (s := s) hk.halfOf_eq hk.half.1 hk.half.2
  refine ⟨_, exec_counterRead hc ho ha hu h1 h2 hr hrc, ?_, hcnt, hhalf, hrest⟩
  show _ :: (s.counterClear a).out = _
  rw [hout, hk.regShown_eq]

/-- A word written to a payload stands there, and no other byte of the aperture and no register changes (R137, R215). -/
theorem completes_tableWrite_payload {s : State} {r : Requester} {n off : Nat} {bs : List Byte} (hc : s.coreOn = true)
    (hn : n < 48) (hp : lanePresent s.variant n = true) (hu : s.mayUse r (s.portOwnerOf (16 + n)) = true)
    (ha : off % 4 = 0) (h1 : 0x3000 ≤ off) (h2 : off < 0x3800) (hl : bs.length = 4)
    (hb : s.isSet (LANE_TB_CTRL_pending n ((off - 0x2800) / 0x200)) = false) :
    Completes (.tableWrite r (laneBuf n + off) bs) s fun t =>
      (∀ i, i < 4 → memGet t.aper (laneBuf n + off + i) = bs[i]?.getD 0) ∧
        (∀ x, x < laneBuf n + off ∨ laneBuf n + off + 4 ≤ x → memGet t.aper x = memGet s.aper x) ∧ t.regs = s.regs := by
  refine ⟨_, exec_tableWrite_payload hc hn hp hu ha h1 h2 hl hb, fun i hi => ?_, fun x hx => ?_, rfl⟩
  · have hi' : i < bs.length := by omega
    rw [List.getElem?_eq_getElem hi', Option.getD_some]
    exact memGet_memWrite_inside hi'
  · exact memGet_memWrite_outside (by rwa [hl])

/-- Settles O17: each access by the lemma of its command. -/
theorem registerAccess : Obligations.RegisterAccess := by
  refine ⟨fun s r a hc ho ha => ⟨?_, ?_, ?_⟩, ?_, ?_, fun s c f a v bs hc => ⟨?_, ?_, ?_⟩⟩
  · exact fun row v hb hne hr hp => completes_registerWrite_privileged v hc ho ha hb hne hr hp
  · exact fun row v hb hne hr hp => completes_registerWrite_rejected v hc ho ha hb hne hr hp
  · exact completes_absentWrite hc ho
  · exact fun s r a u i base row hc ho hk hu hr hrc => completes_counterRead hc ho hk hu hr hrc
  · exact fun s r n off bs hc hn hp hu ha h1 h2 hl hb => completes_tableWrite_payload hc hn hp hu ha h1 h2 hl hb
  · exact fun hn hi => completes_unsupported hc (.inl hn) hi
  · exact fun ha hi => completes_unsupported hc (.inr ha) hi
  · exact fun hl => ⟨_, rfl, State.supported_refused _ hc (.inr (.inr hl))⟩

end Sys2Proof.Machine
end

section
/-!
The always-on wake detectors of a lane (R107, R108, R421, R548): what a watching detector's pulse, frame and error give, and
what a detector that fires asks for in Stable.
-/

namespace Sys2Proof.Machine

/-! ### A source in Stable (R421) -/

theorem State.coreOn_of_inStable {s : State} (h : s.inStable = true) : s.coreOn = false := by
  simp only [State.inStable, Bool.and_eq_true, Bool.not_eq_true'] at h
  obtain ⟨⟨⟨-, hcore⟩, -⟩, -⟩ := h
  exact hcore

/-- A source whose lane has asked for no wake yet asks for one in Stable. -/
theorem State.powerSource_of_inStable {s : State} {q : OnReq} (hst : s.inStable = true)
    (hnew : ∀ e ∈ s.pwk.wakeReqs, e.1.lane ≠ q.lane) :
    s.powerSource q = { s with pwk := { s.pwk with wakeReqs := s.pwk.wakeReqs ++ [(q, s.aclk)] } } := by
  have hnone : (s.pwk.wakeReqs.any fun e => e.1.code == q.code && e.1.lane == q.lane) = false := by
    rw [List.any_eq_false]
    intro e he
    simp [hnew e he]
  simp [State.powerSource, hst, hnone]

/-- A lane's detector that fires in Stable asks for a wake; CORE, which would raise the overflow's event, is off. -/
theorem State.laneWakes_of_inStable {s : State} {n : Nat} {q : OnReq} (hst : s.inStable = true)
    (hnew : ∀ e ∈ s.pwk.wakeReqs, e.1.lane ≠ q.lane) :
    s.laneWakes n q = { s with pwk := { s.pwk with wakeReqs := s.pwk.wakeReqs ++ [(q, s.aclk)] } } := by
  rw [← State.powerSource_of_inStable hst hnew]
  simp [State.laneWakes, State.coreOn_of_inStable hst]

/-! ### What each detector does (R107, R108) -/

/-- The pattern of lane n's selective-wake detector, in the always-on copy, meets a frame. -/
def Lane.pnMeets (l : Lane) (f : LaneFrame) : Bool :=
  pnMatch (l.aonPn.getD 0 0) (l.aonPn.getD 1 0) (l.aonPn.getD 2 0) (l.aonPn.getD 3 0) (l.aonPn.getD 4 0) f

/-- Lane n's record after a frame without error at its selective-wake detector. -/
def Lane.pnSaw (l : Lane) (f : LaneFrame) : Lane :=
  { l with pnOscillator := true, pnErrors := if f.format = 0 then l.pnErrors - 1 else l.pnErrors }

theorem edgeWidths_ordered (kind : Nat) : (edgeWidths kind).1 < (edgeWidths kind).2 := by
  unfold edgeWidths
  split <;> decide

section
variable {s : State} {n : Nat}

theorem exec_dominantEdgeWake_long {ns : Nat} (hp : lanePresent s.variant n = true) (hw : (s.lane n).watching = 1)
    (hns : (edgeWidths (s.lane n).aonKind).2 ≤ ns) :
    exec (.dominantEdgeWake n ns) s = .next (s.laneWakes n { code := 1, lane := n }) := by
  have hlong : ¬ ns < (edgeWidths (s.lane n).aonKind).1 := by
    have := edgeWidths_ordered (s.lane n).aonKind
    omega
  show execDominantEdgeWake n ns s = _
  simp [execDominantEdgeWake, hp, hw, hns, hlong]

theorem exec_dominantEdgeWake_short {ns : Nat} (hns : ns < (edgeWidths (s.lane n).aonKind).1) :
    exec (.dominantEdgeWake n ns) s = .next s := by
  show execDominantEdgeWake n ns s = _
  simp [execDominantEdgeWake, hns]

/-- A frame without error at a watching selective-wake detector. -/
theorem exec_selectiveWakeMatch_watching (f : LaneFrame) (hp : lanePresent s.variant n = true)
    (hw : (s.lane n).watching = 2) :
    exec (.selectiveWakeMatch n f) s = .next (
      if (s.lane n).pnMeets f = true then
        (s.setLane n ((s.lane n).pnSaw f)).laneWakes n { code := 2, lane := n, ide := f.ide, id := f.id }
      else s.setLane n ((s.lane n).pnSaw f)) := by
  show execSelectiveWakeMatch n f s = _
  rw [execSelectiveWakeMatch, if_neg (by simp [hp, hw])]
  exact (apply_ite Host.Outcome.next _ _ _).symm

theorem exec_pnErrorOverflow_last (hp : lanePresent s.variant n = true) (hw : (s.lane n).watching = 2)
    (he : (s.lane n).pnErrors = 31) :
    exec (.pnErrorOverflow n) s =
      .next ((s.setLane n { s.lane n with pnOscillator := true, pnErrors := 32 }).laneWakes n { code := 3, lane := n }) := by
  show execPnErrorOverflow n s = _
  simp [execPnErrorOverflow, hp, hw, he]

theorem exec_pnErrorOverflow_counted (hp : lanePresent s.variant n = true) (hw : (s.lane n).watching = 2)
    (he : (s.lane n).pnErrors < 31) :
    exec (.pnErrorOverflow n) s =
      .next (s.setLane n { s.lane n with pnOscillator := true, pnErrors := (s.lane n).pnErrors + 1 }) := by
  have hne : (s.lane n).pnErrors ≠ 31 := by omega
  have hmin : min 32 ((s.lane n).pnErrors + 1) = (s.lane n).pnErrors + 1 := by omega
  show execPnErrorOverflow n s = _
  simp [execPnErrorOverflow, hp, hw, hne, hmin]

theorem exec_lowPowerBiasActive_armed (hp : lanePresent s.variant n = true) (hw : (s.lane n).watching ≠ 0)
    (hk : (s.lane n).aonKind = 1) :
    exec (.lowPowerBiasActive n) s = .next (s.setLane n { s.lane n with biasOn := true }) := by
  show execLowPowerBiasActive n s = _
  simp [execLowPowerBiasActive, hp, hw, hk]

theorem exec_lowPowerBiasIdle_armed (hp : lanePresent s.variant n = true) (hw : (s.lane n).watching ≠ 0)
    (hk : (s.lane n).aonKind = 1) :
    exec (.lowPowerBiasIdle n) s = .next (s.setLane n { s.lane n with biasOn := false }) := by
  show execLowPowerBiasIdle n s = _
  simp [execLowPowerBiasIdle, hp, hw, hk]

/-! ### The wake that a detector asks for in Stable -/

/-- A detector that fires in Stable, after its lane's record has changed, leaves its request and that record. -/
theorem State.laneWakes_setLane {l : Lane} {q : OnReq} (hst : s.inStable = true)
    (hnew : ∀ e ∈ s.pwk.wakeReqs, e.1.lane ≠ q.lane) :
    ((s.setLane n l).laneWakes n q).pwk.wakeReqs = s.pwk.wakeReqs ++ [(q, s.aclk)] ∧
      ((s.setLane n l).laneWakes n q).lane n = l := by
  rw [State.laneWakes_of_inStable (s := s.setLane n l) hst hnew]
  exact ⟨rfl, State.lane_setLane_same s n l⟩

end

/-- Settles O48, by the equation of each detector's command and by what a firing detector asks for in Stable. -/
theorem wakeDetectors : Obligations.WakeDetectors := by
  intro s n hp
  refine ⟨fun hst hnew => ⟨fun ns hw hns => ?_, fun f hw hf => ?_, fun hw he => ?_⟩, fun ns _ hns => ?_,
    fun f hw hc hf => ?_, fun hw he => ?_, ?_, fun hw hk => ⟨?_, ?_⟩⟩
  · exact ⟨_, exec_dominantEdgeWake_long hp hw hns, by rw [State.laneWakes_of_inStable hst hnew]⟩
  · refine ⟨_, exec_selectiveWakeMatch_watching f hp hw, ?_⟩
    rw [if_pos (show (s.lane n).pnMeets f = true from hf)]
    exact (State.laneWakes_setLane hst hnew).1
  · obtain ⟨hreq, hlane⟩ := State.laneWakes_setLane (n := n) (q := { code := 3, lane := n })
      (l := { s.lane n with pnOscillator := true, pnErrors := 32 }) hst hnew
    exact ⟨_, exec_pnErrorOverflow_last hp hw he, hreq, by rw [hlane]⟩
  · exact ⟨_, exec_dominantEdgeWake_short hns, rfl⟩
  · refine ⟨_, exec_selectiveWakeMatch_watching f hp hw, ?_⟩
    have hno : (s.lane n).pnMeets f = false := hf
    rw [hno, if_neg Bool.false_ne_true, Lane.pnSaw, if_pos hc]
  · exact ⟨_, exec_pnErrorOverflow_counted hp hw he, rfl⟩
  · exact ⟨_, rfl, by rw [State.lane_setLane_same], rfl⟩
  · exact ⟨_, exec_lowPowerBiasActive_armed hp hw hk, by rw [State.lane_setLane_same], rfl⟩
  · exact ⟨_, exec_lowPowerBiasIdle_armed hp hw hk, by rw [State.lane_setLane_same], rfl⟩

end Sys2Proof.Machine
end

section
/-!
What a command of a lane or of a port leaves alone (R93, R116, R157, R256): one relation between the states before and after,
a rule for each elementary update and for each shared operation of the lanes and the ports, and from them each command. A rule
carries the relation one update further, so that the proof for an operation names its updates in their order.
-/

namespace Sys2Proof.Machine

/-! ### The relation -/

/-- A lane or an Ethernet port. -/
inductive FieldUnit where
  | lane (n : Nat)
  | port (n : Nat)

/-- A register in the window of a lane or port other than `u` (R109, R179). -/
def FieldUnit.Foreign (u : FieldUnit) (a : Nat) : Prop :=
  (∃ m, m < 48 ∧ u ≠ .lane m ∧ 0x180000 + 0x800 * m ≤ a ∧ a < 0x180800 + 0x800 * m) ∨
    (∃ m, m < 16 ∧ u ≠ .port m ∧ 0x140000 + 0x1000 * m ≤ a ∧ a < 0x141000 + 0x1000 * m)

/-- From `s` to `t`, no lane and no port but `u` has changed, nor have the Teams, the keys, the tables, MRAM, the frames that
wait in the switch and the outputs. -/
structure Confined (u : FieldUnit) (s t : State) : Prop where
  lane : ∀ m, u ≠ .lane m → t.lane m = s.lane m
  lanes : (∀ m, u ≠ .lane m) → t.lanes = s.lanes
  eth : ∀ m, u ≠ .port m → t.eth m = s.eth m
  gate : ∀ m, u ≠ .port m → t.gate m = s.gate m
  eths : (∀ m, u ≠ .port m) → t.eths = s.eths
  reg : ∀ a, u.Foreign a → t.reg a = s.reg a
  aper : t.aper = s.aper
  teams : t.teams = s.teams
  keySlots : t.keySlots = s.keySlots
  mram : t.mram = s.mram
  rxQueues : t.rxQueues = s.rxQueues
  stored : t.stored = s.stored
  egress : t.egress = s.egress
  outs : t.outs = s.outs

/-- A next state that the outcome gives is reached by changing `u` alone. -/
def StepConfined (u : FieldUnit) (s : State) (o : Host.Outcome State Fault Refusal) : Prop :=
  ∀ t, o = .next t → Confined u s t

/-! ### Registers that a unit may write -/

theorem not_foreign_low {u : FieldUnit} {a : Nat} (h : a < 0x140000) : ¬ u.Foreign a := by
  rintro (⟨m, -, -, h1, -⟩ | ⟨m, -, -, h1, -⟩) <;> omega

/-- A register of lane n's window, `c` being its address in lane 0. -/
theorem not_foreign_lane {n c : Nat} (h : 0x180000 ≤ c ∧ c < 0x180800) : ¬ (FieldUnit.lane n).Foreign (c + 0x800 * n) := by
  rintro (⟨m, -, hne, h1, h2⟩ | ⟨m, hm, -, h1, h2⟩)
  · exact hne (congrArg FieldUnit.lane (by omega))
  · omega

/-- Register i of an array in lane n's window. -/
theorem not_foreign_laneArray {n c k i : Nat} (h1 : 0x180000 ≤ c) (h2 : c + k * i < 0x180800) :
    ¬ (FieldUnit.lane n).Foreign (c + 0x800 * n + k * i) := by
  rw [Nat.add_right_comm]
  exact not_foreign_lane ⟨by omega, h2⟩

/-- A register of port n's window, `c` being its address in port 0. -/
theorem not_foreign_port {n c : Nat} (hn : n < 16) (h : 0x140000 ≤ c ∧ c < 0x141000) :
    ¬ (FieldUnit.port n).Foreign (c + 0x1000 * n) := by
  rintro (⟨m, -, -, h1, -⟩ | ⟨m, -, hne, h1, h2⟩)
  · omega
  · exact hne (congrArg FieldUnit.port (by omega))

/-- A register of port n's gate list (R268). -/
theorem not_foreign_gateList {u : FieldUnit} {n c : Nat} (hn : n < 16) (h : c < 0x131100) : ¬ u.Foreign (c + 0x100 * n) :=
  not_foreign_low (by omega)

/-! ### Events of any number (R10, R499) -/

theorem sourcePresent_of_ge (v : Variant) {src : Nat} (h : 1536 ≤ src) : sourcePresent v src = false := by
  unfold sourcePresent
  repeat rw [if_neg (by omega)]
  simpa using h

/-- A raise changes what an event changes, and one of a number that no source has changes nothing. -/
theorem State.raise_onlyEvents (s : State) (src : Nat) : OnlyEvents s (s.raise src) := by
  by_cases h : src < 1536
  · exact s.raise_only h
  · have hs : s.raise src = s := by
      show State.raiseTo 3 s src [] = s
      rw [State.raiseTo, sourcePresent_of_ge _ (by omega)]
      rfl
    rw [hs]
    exact OnlyEvents.refl s

/-! ### Elementary updates -/

namespace Confined

theorem refl {u : FieldUnit} {s : State} : Confined u s s :=
  ⟨fun _ _ => rfl, fun _ => rfl, fun _ _ => rfl, fun _ _ => rfl, fun _ => rfl, fun _ _ => rfl, rfl, rfl, rfl, rfl, rfl, rfl,
    rfl, rfl⟩

section
variable {u : FieldUnit} {s t : State}

theorem ite_of {c : Prop} [Decidable c] {a b : State} (ha : c → Confined u s a) (hb : ¬ c → Confined u s b) :
    Confined u s (if c then a else b) := by
  split
  · next hc => exact ha hc
  · next hc => exact hb hc

theorem ite {c : Prop} [Decidable c] {a b : State} (ha : Confined u s a) (hb : Confined u s b) :
    Confined u s (if c then a else b) := ite_of (fun _ => ha) fun _ => hb

theorem foldl {α : Type} {f : State → α → State} {l : List α} (h : Confined u s t)
    (hf : ∀ x ∈ l, ∀ v, Confined u s v → Confined u s (f v x)) : Confined u s (l.foldl f t) := by
  induction l generalizing t with
  | nil => exact h
  | cons x l ih =>
    exact ih (hf x List.mem_cons_self t h) fun y hy => hf y (List.mem_cons_of_mem x hy)

theorem onlyEvents {v : State} (h : Confined u s t) (g : OnlyEvents t v) : Confined u s v := by
  have hreg : ∀ a, u.Foreign a → v.reg a = s.reg a := fun a ha =>
    (g.reg (fun hw => not_foreign_low (by omega) ha) (fun hw => not_foreign_low (by omega) ha)).trans (h.reg a ha)
  obtain ⟨_, _, _, _, _, _, _, _, _, _, rfl, -⟩ := g
  exact { h with reg := hreg }

theorem raise (h : Confined u s t) (src : Nat) : Confined u s (t.raise src) := h.onlyEvents (t.raise_onlyEvents src)

theorem setReg {a : Nat} {v : Word} (h : Confined u s t) (ha : ¬ u.Foreign a) : Confined u s (t.setReg a v) :=
  { h with reg := fun b hb => (State.reg_setReg_other t v (by rintro rfl; exact ha hb)).trans (h.reg b hb) }

theorem fset {f : Fld} {v : Nat} (h : Confined u s t) (ha : ¬ u.Foreign f.addr) : Confined u s (t.fset f v) := h.setReg ha

theorem fcount {f : Fld} (h : Confined u s t) (ha : ¬ u.Foreign f.addr) : Confined u s (t.fcount f) := h.fset ha

theorem countSat {a : Nat} (h : Confined u s t) (ha : ¬ u.Foreign a) : Confined u s (t.countSat a) := h.setReg ha

theorem emit (h : Confined u s t) (o : Output) : Confined u s (t.emit o) := { h with }

theorem drew (h : Confined u s t) (n : Nat) : Confined u s (t.drew n) := { h with }

theorem charge (h : Confined u s t) (p amount : Nat) : Confined u s (t.charge p amount) := { h with }

theorem setTx (h : Confined u s t) (n k : Nat) (b : TxBuf) : Confined u s (t.setTx n k b) := { h with }

/-! ### Writes under owner rules (R8, R408, R409) -/

theorem absentWrite (h : Confined u s t) : Confined u s t.absentWrite := h.fcount (not_foreign_low (by decide))

theorem rejectWrite (h : Confined u s t) (r : Requester) (space index : Nat) :
    Confined u s (t.rejectWrite r space index) := by
  have hlog : ¬ u.Foreign SCL_REJECT_LOG := not_foreign_low (by decide)
  have hcnt : Confined u s (t.countSat SCL_REJECT_COUNT) := h.countSat (not_foreign_low (by decide))
  cases ho : t.ownerOf r with
  | none => simpa [State.rejectWrite, ho] using h
  | some o =>
    rw [State.rejectWrite_eq space index ho]
    exact hcnt.ite (((((hcnt.fset hlog).fset hlog).fset hlog).fset hlog).raise 1447)

theorem ownedWrite {f : State → State} (h : Confined u s (f s)) (r : Requester) (o addr : Nat) :
    Confined u s (s.ownedWrite r o addr f) := h.ite (refl.rejectWrite r 0 _)

theorem privWrite {f : State → State} (h : Confined u s (f s)) (r : Requester) (addr : Nat) :
    Confined u s (s.privWrite r addr f) := h.ite (refl.rejectWrite r 0 _)

theorem laneWrite {f : State → State} (h : Confined u s (f s)) (r : Requester) (n addr : Nat) :
    Confined u s (s.laneWrite r n addr f) := refl.absentWrite.ite (h.ownedWrite r _ addr)

theorem macWrite {f : State → State} (h : Confined u s (f s)) (r : Requester) (n addr : Nat) :
    Confined u s (s.macWrite r n addr f) := refl.absentWrite.ite (h.ownedWrite r _ addr)

end
end Confined

namespace StepConfined
variable {u : FieldUnit} {s t : State}

theorem next (h : Confined u s t) : StepConfined u s (.next t) := by
  rintro v ⟨⟩
  exact h

theorem same : StepConfined u s (.next s) := next .refl

theorem ite {c : Prop} [Decidable c] {a b : Host.Outcome State Fault Refusal} (ha : StepConfined u s a)
    (hb : StepConfined u s b) : StepConfined u s (if c then a else b) := by
  split
  · exact ha
  · exact hb

/-- A command that leaves the state as it is under a condition need be judged only without it. -/
theorem ite_same {c : Prop} [Decidable c] {b : Host.Outcome State Fault Refusal} (hb : ¬ c → StepConfined u s b) :
    StepConfined u s (if c then .next s else b) := by
  split
  · exact same
  · next hc => exact hb hc

/-- A command that leaves the state as it is for an absent port need be judged only for a port number of the block. -/
theorem ite_port {n : Nat} {c : Bool} {b : Host.Outcome State Fault Refusal} (hc : portPresent s.variant n = false → c = true)
    (hb : n < 16 → StepConfined u s b) : StepConfined u s (if c = true then .next s else b) := by
  refine ite_same fun hno => hb ?_
  have hp : portPresent s.variant n = true := by
    cases hp : portPresent s.variant n with
    | false => exact absurd (hc hp) hno
    | true => rfl
  simp only [portPresent, Bool.and_eq_true, decide_eq_true_eq] at hp
  exact hp.1

end StepConfined

/-! ### Operations of a lane -/

namespace Confined
variable {s t : State} {n : Nat}

theorem setLane (h : Confined (.lane n) s t) (l : Lane) : Confined (.lane n) s (t.setLane n l) :=
  { h with
    lane := fun m hm => (State.lane_setLane_other t l (by rintro rfl; exact hm rfl)).trans (h.lane m hm)
    lanes := fun hall => absurd rfl (hall n) }

theorem laneCount {i : Nat} (h : Confined (.lane n) s t) (hi : i < 64) : Confined (.lane n) s (t.countSat (LANE_CNT n i)) :=
  h.countSat (not_foreign_laneArray (by decide) (by omega))

/-- A field of LANE_TB_CTRL of one of the eight buffers. -/
theorem fsetTb {k hi lo v : Nat} (h : Confined (.lane n) s t) (hk : k < 8) :
    Confined (.lane n) s (t.fset ⟨LANE_TB_CTRL n k, hi, lo⟩ v) :=
  h.fset (not_foreign_laneArray (by decide) (by omega))

theorem laneRefresh (h : Confined (.lane n) s t) : Confined (.lane n) s (t.laneRefresh n) :=
  have own : ¬ (FieldUnit.lane n).Foreign (LANE_PHY_STATUS n) := not_foreign_lane (by decide)
  (((h.fset own).fset own).fset own).fset own

theorem laneDetect (h : Confined (.lane n) s t) (bit : Nat) : Confined (.lane n) s (t.laneDetect n bit) :=
  ((h.fset (f := ⟨LANE_PHY_FAULT n, bit, bit⟩) (not_foreign_lane (by decide))).fcount
    (f := LANE_PHY_FAULT_CNT_count n) (not_foreign_lane (by decide))).raise _

theorem laneFault (h : Confined (.lane n) s t) (bit : Nat) : Confined (.lane n) s (t.laneFault n bit) :=
  ((h.setLane _).laneDetect bit).laneRefresh

theorem clearFaults (h : Confined (.lane n) s t) (v : Word) : Confined (.lane n) s (t.clearFaults n v) := by
  refine h.foldl fun bit _ w hw => hw.ite ?_
  have hc : Confined (.lane n) s (w.fset ⟨LANE_PHY_FAULT n, bit, bit⟩ 0) := hw.fset (not_foreign_lane (by decide))
  exact (hc.laneDetect bit).ite hc

theorem setErrState (h : Confined (.lane n) s t) (st : Nat) : Confined (.lane n) s (t.setErrState n st) :=
  h.ite ((h.fset (f := LANE_ERR_state n) (not_foreign_lane (by decide))).raise _)

theorem integrate (h : Confined (.lane n) s t) : Confined (.lane n) s (t.integrate n) := by
  have hi := ((h.setLane { t.lane n with watching := 0, waiting := false }).fset (f := LANE_PHY_STATUS_integrated n) (v := 1)
    (not_foreign_lane (by decide))).raise (12 * n + 3)
  exact hi.ite (hi.setErrState _)

theorem txStamp {k : Nat} (h : Confined (.lane n) s t) (ts : Nat) (hk : k < 8) : Confined (.lane n) s (t.txStamp n k ts) := by
  have own : ∀ i, i < 32 → ¬ (FieldUnit.lane n).Foreign (LANE_TB_DESC n k + i) := by
    intro i hi
    have e : LANE_TB_DESC n k + i = (0x180500 + 0x20 * k + i) + 0x800 * n := by simp only [LANE_TB_DESC]; omega
    rw [e]
    exact not_foreign_lane (by omega)
  exact (h.setReg (own 16 (by decide))).setReg (own 20 (by decide))

theorem loopDelay (h : Confined (.lane n) s t) (f : LaneFrame) (whole : Bool) :
    Confined (.lane n) s (t.loopDelay n f whole) :=
  ((h.ite (h.fset (f := LANE_TDC_tdc_meas n) (not_foreign_lane (by decide)))).drew 1).ite h

theorem tbRelease {k : Nat} (h : Confined (.lane n) s t) (result : Nat) (hk : k < 8) :
    Confined (.lane n) s (t.tbRelease n k result) := by
  have hfreed : Confined (.lane n) s ((List.range (min (t.tx n k).span (8 - k))).foldl
      (fun v i => (v.fset (LANE_TB_CTRL_pending n (k + i)) 0).setTx n (k + i) {}) t) := by
    refine h.foldl fun i hi v hv => ?_
    have hlt := List.mem_range.mp hi
    exact (hv.fsetTb (by omega)).setTx n _ _
  have hdone := (hfreed.fsetTb (k := k) (hi := 1) (lo := 1) (v := 0) hk).setLane
  have hres := fun l => (hdone l).fsetTb (k := k) (hi := 6) (lo := 4) (v := result) hk
  exact (hdone _).ite (((hres _).raise _).ite (hres _))

theorem discardFabric (h : Confined (.lane n) s t) : Confined (.lane n) s (t.discardFabric n) := by
  refine h.foldl fun k hk v hv => Confined.ite ?_ hv
  have hlt := List.mem_range.mp hk
  have hc : Confined (.lane n) s ((v.fset (LANE_TB_CTRL_pending n k) 0).setTx n k {}) := (hv.fsetTb (by omega)).setTx n k _
  exact (hc.laneCount (by decide)).ite hc

theorem laneCut (h : Confined (.lane n) s t) : Confined (.lane n) s (t.laneCut n) := by
  have hcut := fun (c : Prop) (_ : Decidable c) p amount l => ((h.charge p amount).ite (c := c) h).setLane l
  unfold State.laneCut
  dsimp only
  cases (t.lane n).onBus with
  | none => exact hcut _ _ _ _ _
  | some k =>
    refine .ite_of (fun hk => ?_) fun _ => (hcut _ _ _ _ _).loopDelay _ _
    simp only [Bool.and_eq_true, decide_eq_true_eq] at hk
    obtain ⟨⟨-, hlt⟩, -⟩ := hk
    exact (((hcut _ _ _ _ _).loopDelay _ _).txStamp _ hlt).tbRelease _ hlt

theorem laneDisable (h : Confined (.lane n) s t) : Confined (.lane n) s (t.laneDisable n) :=
  (h.fset (f := LANE_PHY_CTRL_enable n) (not_foreign_lane (by decide))).laneCut.discardFabric.laneRefresh

theorem laneEnable (h : Confined (.lane n) s t) : Confined (.lane n) s (t.laneEnable n) := by
  have hon := (h.fset (f := LANE_PHY_CTRL_enable n) (v := 1) (not_foreign_lane (by decide))).fset
    (f := LANE_PHY_STATUS_integrated n) (v := 0) (not_foreign_lane (by decide))
  have hrun := fun (c : Prop) (_ : Decidable c) l => ((hon.setLane l).ite (c := c) ((hon.setLane l).setErrState 0)).laneRefresh
  exact hon.ite ((hrun _ _ _).integrate.ite (hrun _ _ _))

theorem rxEvent (h : Confined (.lane n) s t) (q : Nat) : Confined (.lane n) s (t.rxEvent n q) :=
  ((h.setLane _).raise _).ite ((h.setLane _).ite h)

theorem ackWrite (h : Confined (.lane n) s t) (q ack : Nat) : Confined (.lane n) s (t.ackWrite n q ack) := by
  have own : ¬ (FieldUnit.lane n).Foreign (rxAck n q).addr := by
    unfold rxAck
    split <;> exact not_foreign_lane (by decide)
  exact h.ite ((h.laneCount (by decide)).ite (((h.fset own).setLane _).rxEvent q))

theorem watermarkWrite (h : Confined (.lane n) s t) (q w : Nat) : Confined (.lane n) s (t.watermarkWrite n q w) := by
  have own : ¬ (FieldUnit.lane n).Foreign (rxCtrl n q).addr := by
    unfold rxCtrl
    split <;> exact not_foreign_lane (by decide)
  exact h.ite ((h.fset own).rxEvent q)

theorem budgetDefer (h : Confined (.lane n) s t) : Confined (.lane n) s (t.budgetDefer n) := by
  have own : ¬ (FieldUnit.lane n).Foreign (if n < 32 then HOB_LANE_HOLD_LO else HOB_LANE_HOLD_HI) := by
    split <;> exact not_foreign_low (by decide)
  have hc : Confined (.lane n) s (t.countSat (LANE_CNT n 8)) := h.laneCount (by decide)
  exact hc.ite ((hc.fset (f := ⟨_, _, _⟩) own).raise 1453)

end Confined


/-! ### Commands of a lane (R93, R116) -/

section
variable (s : State) (r : Requester) (n : Nat)

theorem execProtocolException_confined (fmt : Nat) : StepConfined (.lane n) s (execProtocolException n fmt s) :=
  .ite (.next ((Confined.refl.laneCount (by decide)).setLane _)) .same

theorem execCanReintegrate_confined : StepConfined (.lane n) s (execCanReintegrate n s) :=
  .ite .same (.ite (.next ((Confined.refl.setLane _).fcount (f := LANE_ERR_busoff_seq n) (not_foreign_lane (by decide))))
    (.next (Confined.refl.setLane _)))

theorem execBusOffRecovery_confined : StepConfined (.lane n) s (execBusOffRecovery n s) :=
  have own : ¬ (FieldUnit.lane n).Foreign (LANE_ERR n) := not_foreign_lane (by decide)
  .ite (.next ((((Confined.refl.fset own).fset own).fset own).setErrState 1)) .same

theorem execHpRelease_confined : StepConfined (.lane n) s (execHpRelease r n s) :=
  .next (Confined.laneWrite (Confined.refl.fset (f := LANE_HP_CTRL_full n) (not_foreign_lane (by decide))) r n _)

theorem execAckIdxWrite_confined (q ack : Nat) : StepConfined (.lane n) s (execAckIdxWrite r n q ack s) :=
  .ite .same (.next (Confined.laneWrite (Confined.refl.ackWrite q ack) r n _))

theorem execWatermarkWrite_confined (q w : Nat) : StepConfined (.lane n) s (execWatermarkWrite r n q w s) :=
  .ite .same (.next (Confined.laneWrite (Confined.refl.watermarkWrite q w) r n _))

theorem execOverVoltage_confined (pinB : Bool) : StepConfined (.lane n) s (execOverVoltage n pinB s) :=
  .ite .same (.ite (.next ((Confined.refl.setLane _).laneFault _)) (.next ((Confined.refl.setLane _).setLane _)))

theorem execTerminationReclose_confined : StepConfined (.lane n) s (execTerminationReclose n s) :=
  .next (.ite (Confined.refl.setLane _).laneRefresh (Confined.refl.setLane _))

theorem execCmRange_confined : StepConfined (.lane n) s (execCmRange n s) := .ite (.next (Confined.refl.laneFault 2)) .same

theorem execStuckDominant_confined : StepConfined (.lane n) s (execStuckDominant n s) :=
  .ite (.next ((Confined.refl.setLane _).laneFault 5)) .same

theorem execLinPullupShort_confined : StepConfined (.lane n) s (execLinPullupShort n s) :=
  .ite (.next ((Confined.refl.setLane _).laneFault 6)) .same

theorem execLaneThermal_confined : StepConfined (.lane n) s (execLaneThermal n s) :=
  .ite (.next (Confined.refl.laneFault 4)) .same

theorem execDomTimeout_confined : StepConfined (.lane n) s (execDomTimeout n s) :=
  .ite (.next (Confined.refl.laneFault 3)) .same

theorem execLaneFaultRecovery_confined (bit : Nat) : StepConfined (.lane n) s (execLaneFaultRecovery n bit s) :=
  .ite .same (.next (.ite (Confined.refl.setLane _).laneRefresh (Confined.refl.setLane _)))

theorem execLaneDisable_confined : StepConfined (.lane n) s (execLaneDisable r n s) :=
  .ite .same (.next (Confined.laneWrite (Confined.refl.laneDisable.ite .refl) r n _))

theorem execLaneReenable_confined : StepConfined (.lane n) s (execLaneReenable r n s) :=
  .ite .same (.next (Confined.laneWrite (by exact Confined.refl.ite Confined.refl.laneEnable) r n _))

theorem execLaneLoopback_confined : StepConfined (.lane n) s (execLaneLoopback r n s) :=
  .ite .same (.next (Confined.laneWrite
    (Confined.refl.fset (f := LANE_PHY_CTRL_int_loopback n) (not_foreign_lane (by decide))) r n _))

theorem execLanePhyFaultClear_confined (v : Word) : StepConfined (.lane n) s (execLanePhyFaultClear r n v s) :=
  .ite .same (.next (Confined.laneWrite (Confined.refl.clearFaults v) r n _))

theorem execLaneIntegrated_confined : StepConfined (.lane n) s (execLaneIntegrated n s) :=
  .ite (.next Confined.refl.integrate) .same

theorem execLinHeader_confined (h : LinHead) : StepConfined (.lane n) s (execLinHeader n h s) :=
  have lane : ∀ l, StepConfined (.lane n) s (.next (s.setLane n l)) := fun l => .next (Confined.refl.setLane l)
  .ite .same (.ite (lane _) (.ite (.ite (lane _) (.ite (.next (Confined.refl.setLane _).budgetDefer) (lane _))) (lane _)))

theorem execLinNoResp_confined : StepConfined (.lane n) s (execLinNoResp n s) :=
  .ite (.next ((Confined.refl.setLane _).laneCount (by decide))) .same

theorem execLinSlotStart_confined (late : Bool) (busNs : Nat) : StepConfined (.lane n) s (execLinSlotStart n late busNs s) := by
  have hslot := fun (l : Lane) (v : Nat) =>
    (((((Confined.refl (s := s)).laneCount (i := 15) (by decide)).ite (c := late = true) .refl).setLane l).fset
      (f := LANE_LIN_SCHED_slot_now n) (v := v) (not_foreign_lane (by decide))).charge (16 + n) busNs
  exact .ite .same (.ite (.next (Confined.refl.setLane _)) (.ite (.ite .same (.next (Confined.refl.setLane _).budgetDefer))
    (.ite (.next (hslot _ _)) (.next ((hslot _ _).emit _)))))

theorem execLaneTxStart_confined : StepConfined (.lane n) s (execLaneTxStart n s) := by
  unfold execLaneTxStart
  refine .ite .same ?_
  cases s.tbChoice n with
  | none => exact .next (Confined.refl.setLane _)
  | some k =>
    exact .ite (.ite .same (.next (Confined.refl.setLane _).budgetDefer)) (.next (Confined.refl.setLane _).laneRefresh)

theorem execPlcaBeacon_confined : StepConfined (.lane n) s (execPlcaBeacon n s) :=
  .ite (.next ((Confined.ite (Confined.refl.emit _) .refl).fset (f := LANE_T1S_PLCA_plca_ok n) (not_foreign_lane (by decide))))
    .same

theorem execPlcaFallback_confined : StepConfined (.lane n) s (execPlcaFallback n s) :=
  .ite (.next ((Confined.refl.fset (f := LANE_T1S_PLCA_plca_ok n) (not_foreign_lane (by decide))).laneCount (by decide))) .same

end

/-! ### Operations of a port -/

namespace Confined
variable {s t : State} {n : Nat}

theorem setEth (h : Confined (.port n) s t) (e : Eth) : Confined (.port n) s (t.setEth n e) :=
  { h with
    eth := fun m hm => (State.eth_setEth_other t e (by rintro rfl; exact hm rfl)).trans (h.eth m hm)
    eths := fun hall => absurd rfl (hall n) }

theorem setGate (h : Confined (.port n) s t) (g : PortGate) : Confined (.port n) s (t.setGate n g) :=
  { h with gate := fun m hm => (look_put_other _ _ _ (by rintro rfl; exact hm rfl)).trans (h.gate m hm) }

theorem countHalf {cnt event k : Nat} {half : Fld} (h : Confined (.port n) s t) (hc : ¬ (FieldUnit.port n).Foreign cnt)
    (hh : ¬ (FieldUnit.port n).Foreign half.addr) : Confined (.port n) s (t.countHalf cnt half event k) :=
  (((h.setReg hc).fset hh).raise event).ite (h.setReg hc)

theorem emacRaise (h : Confined (.port n) s t) (k : Nat) : Confined (.port n) s (t.emacRaise n k) := h.raise _

theorem emacCnt {i : Nat} (h : Confined (.port n) s t) (hn : n < 16) (hi : i < 64) : Confined (.port n) s (t.emacCnt n i) := by
  have hc : ¬ (FieldUnit.port n).Foreign (EMAC_CNT n i) := by
    rw [show EMAC_CNT n i = (0x140800 + 0x4 * i) + 0x1000 * n by simp only [EMAC_CNT]; omega]
    exact not_foreign_port hn (by omega)
  have hh : ¬ (FieldUnit.port n).Foreign (emacHalf n i).addr := by
    unfold emacHalf
    split <;> exact not_foreign_port hn (by decide)
  exact h.countHalf hc hh

theorem setPreempt (h : Confined (.port n) s t) (hn : n < 16) (v : Nat) : Confined (.port n) s (t.setPreempt n v) :=
  h.ite ((h.fset (f := EMAC_STATUS_preempt_active n) (not_foreign_port hn (by decide))).emacRaise 7)

theorem creditUpdate (h : Confined (.port n) s t) : Confined (.port n) s (t.creditUpdate n) :=
  { h.setGate { t.gate n with credTick := t.uptime } with }

theorem preCutNow (h : Confined (.port n) s t) (hn : n < 16) (sent : Nat) : Confined (.port n) s (t.preCutNow n sent) := by
  have hcount := fun (c : Prop) (_ : Decidable c) =>
    (h.creditUpdate.emacCnt (i := 40) hn (by decide)).ite (c := c) h.creditUpdate
  exact ((hcount _ _).setEth _).charge _ _

theorem holdCut (h : Confined (.port n) s t) (hn : n < 16) (sent : Nat) : Confined (.port n) s (t.holdCut n sent) :=
  (h.preCutNow hn sent).ite h

theorem trainStart (h : Confined (.port n) s t) (hn : n < 16) : Confined (.port n) s (t.trainStart n) :=
  have own : ¬ (FieldUnit.port n).Foreign (EMAC_PHY_STATUS n) := not_foreign_port hn (by decide)
  h.ite ((h.fset own).fset own)

theorem portEnable_on (h : Confined (.port n) s t) (hn : n < 16) : Confined (.port n) s (t.portEnable n true) := by
  have hon : Confined (.port n) s (t.fset (EMAC_CTRL_enable n) 1) := h.fset (not_foreign_port hn (by decide))
  exact h.ite (.ite_of (fun _ => (hon.trainStart hn).ite hon) fun hoff => absurd rfl hoff)

theorem steerCommit {i : Nat} (h : Confined (.port n) s t) (hn : n < 16) (hi : i < 64) (v : Word) :
    Confined (.port n) s (t.steerCommit n i v) := by
  have own : ∀ k, k < 16 → ¬ (FieldUnit.port n).Foreign (EMAC_STEER n i + k) := by
    intro k hk
    rw [show EMAC_STEER n i + k = (0x140100 + 0x10 * i + k) + 0x1000 * n by simp only [EMAC_STEER]; omega]
    exact not_foreign_port hn (by omega)
  exact ((h.setReg (own 4 (by decide))).setReg (own 8 (by decide))).setReg (own 0 (by decide))

/-! ### Gate lists -/

/-- A field of STM_GCL_STATUS. -/
theorem fsetGcl {hi lo v : Nat} (h : Confined (.port n) s t) (hn : n < 16) :
    Confined (.port n) s (t.fset ⟨STM_GCL_STATUS n, hi, lo⟩ v) := h.fset (not_foreign_gateList hn (by decide))

theorem gateBegin (h : Confined (.port n) s t) (hn : n < 16) : Confined (.port n) s (t.gateBegin n) := by
  unfold State.gateBegin
  dsimp only
  refine (h.creditUpdate.setGate _).ite ?_
  cases (t.creditUpdate n).gateEntryNow n with
  | none => exact h.creditUpdate.setGate _
  | some e => exact (h.creditUpdate.fsetGcl hn).setGate _

theorem gateForce (h : Confined (.port n) s t) (hn : n < 16) : Confined (.port n) s (t.gateForce n) :=
  (h.setGate _).gateBegin hn

theorem gateFallback (h : Confined (.port n) s t) (hn : n < 16) : Confined (.port n) s (t.gateFallback n) :=
  h.ite (((((h.fsetGcl hn).fsetGcl hn).setGate _).gateForce hn).raise 1426)

theorem gclEnable (h : Confined (.port n) s t) (hn : n < 16) (on : Bool) : Confined (.port n) s (t.gclEnable n on) := by
  have hen : Confined (.port n) s (t.fset (STM_GCL_CTRL_enable n) (b2n on)) := h.fset (not_foreign_gateList hn (by decide))
  exact h.ite ((hen.gateFallback hn).ite ((hen.gateForce hn).ite (((hen.fsetGcl hn).setGate _).gateForce hn)))

theorem gclChange (h : Confined (.port n) s t) (hn : n < 16) : Confined (.port n) s (t.gclChange n) :=
  (((h.fsetGcl hn).fsetGcl hn).setGate _).ite (((h.fsetGcl hn).fsetGcl hn).raise 1428)

theorem gclWrite (h : Confined (.port n) s t) (hn : n < 16) (v : Word) : Confined (.port n) s (t.gclWrite n v) :=
  ((h.gclEnable hn _).gclChange hn).ite (h.gclEnable hn _)

theorem gclTake (h : Confined (.port n) s t) (hn : n < 16) (base : Nat) : Confined (.port n) s (t.gclTake n base) := by
  have own : ¬ (FieldUnit.port n).Foreign (STM_GCL_OPER_CYCLE n) := not_foreign_gateList hn (by decide)
  exact ((((((h.fsetGcl hn).fsetGcl hn).fsetGcl hn).setReg own).setGate _).gateForce hn).raise 1428

end Confined

/-! ### Commands of a port (R157, R256) -/

section
variable (s : State) (r : Requester) (n : Nat)

theorem execPreemptVerifyDone_confined : StepConfined (.port n) s (execPreemptVerifyDone n s) :=
  .ite_port (fun h => by simp [State.portUp, h]) fun hn => .next ((Confined.refl.setEth _).setPreempt hn 1)

theorem execPreemptVerifyTimeout_confined : StepConfined (.port n) s (execPreemptVerifyTimeout n s) :=
  .ite_port (fun h => by simp [State.portUp, h]) fun hn =>
    have hcnt : Confined (.port n) s (s.emacCnt n 43) := Confined.refl.emacCnt hn (by decide)
    .ite (.next (hcnt.setEth _)) (.next ((hcnt.setEth _).emacRaise 7))

theorem execGateHoldApply_confined (sent : Nat) : StepConfined (.port n) s (execGateHoldApply n sent s) :=
  .ite_port (fun h => by simp [State.portUp, h]) fun hn =>
    .next (((Confined.refl.setGate _).emacCnt hn (by decide)).holdCut hn sent)

theorem execTrainingFail_confined : StepConfined (.port n) s (execTrainingFail n s) :=
  .ite_port (fun h => by simp [h]) fun hn => .next ((Confined.refl.emacCnt hn (by decide)).emacRaise 9)

theorem execSqiLow_confined (sqi : Nat) : StepConfined (.port n) s (execSqiLow n sqi s) :=
  .ite_port (fun h => by simp [h]) fun hn =>
    have hsqi : Confined (.port n) s (s.fset (EMAC_PHY_STATUS_sqi n) (sqi % 8)) :=
      Confined.refl.fset (not_foreign_port hn (by decide))
    .next (((hsqi.emacCnt hn (by decide)).emacRaise 8).ite hsqi)

theorem execPortEnable_confined : StepConfined (.port n) s (execPortEnable r n s) :=
  .ite_same fun h => .next (Confined.macWrite (Confined.refl.portEnable_on (by omega)) r n _)

theorem execSteeringRuleCommit_confined (i : Nat) (v : Word) : StepConfined (.port n) s (execSteeringRuleCommit r n i v s) :=
  .ite_same fun h => .next (Confined.macWrite (Confined.refl.steerCommit (by omega) (by omega) v) r n _)

theorem execGclChangeRequest_confined (v : Word) : StepConfined (.port n) s (execGclChangeRequest r n v s) :=
  .ite_same fun h => .ite (.next Confined.refl.absentWrite)
    (.next (Confined.privWrite (Confined.refl.gclWrite (by omega) _) r _))

theorem execGclChangeApply_confined : StepConfined (.port n) s (execGclChangeApply n s) :=
  .ite_port (fun h => by simp [h]) fun hn => .next (Confined.refl.gclTake hn _)

theorem execGateResume_confined : StepConfined (.port n) s (execGateResume n s) :=
  .ite_port (fun h => by simp [h]) fun hn =>
    have hback : Confined (.port n) s ((s.fset (STM_GCL_STATUS_fallback n) 0).raise 1427) :=
      (Confined.refl.fsetGcl hn).raise 1427
    .ite (.next (hback.gclTake hn _)) (.next (hback.gateForce hn))

end

/-! ### The obligation -/

/-- What the obligation says of a lane's command. -/
theorem Confined.lane_frame {s t : State} {n : Nat} (h : Confined (.lane n) s t) :
    (∀ m, m ≠ n → t.lane m = s.lane m) ∧
      (∀ m a, m < 48 → m ≠ n → 0x180000 + 0x800 * m ≤ a → a < 0x180800 + 0x800 * m → t.reg a = s.reg a) ∧
      t.aper = s.aper ∧ t.eths = s.eths ∧ t.teams = s.teams ∧ t.keySlots = s.keySlots ∧ t.mram = s.mram ∧
      t.stored = s.stored ∧ t.egress = s.egress ∧ t.outs = s.outs := by
  have other : ∀ m, m ≠ n → FieldUnit.lane n ≠ .lane m := fun m hm e => hm (FieldUnit.lane.inj e).symm
  exact ⟨fun m hm => h.lane m (other m hm), fun m a hb hm h1 h2 => h.reg a (.inl ⟨m, hb, other m hm, h1, h2⟩), h.aper,
    h.eths fun _ => FieldUnit.noConfusion, h.teams, h.keySlots, h.mram, h.stored, h.egress, h.outs⟩

/-- What the obligation says of a port's command. -/
theorem Confined.port_frame {s t : State} {n : Nat} (h : Confined (.port n) s t) :
    (∀ m, m ≠ n → t.eth m = s.eth m ∧ t.gate m = s.gate m) ∧
      (∀ m a, m < 16 → m ≠ n → 0x140000 + 0x1000 * m ≤ a → a < 0x141000 + 0x1000 * m → t.reg a = s.reg a) ∧
      t.lanes = s.lanes ∧ t.aper = s.aper ∧ t.teams = s.teams ∧ t.keySlots = s.keySlots ∧ t.mram = s.mram ∧
      t.rxQueues = s.rxQueues ∧ t.stored = s.stored ∧ t.egress = s.egress ∧ t.outs = s.outs := by
  have other : ∀ m, m ≠ n → FieldUnit.port n ≠ .port m := fun m hm e => hm (FieldUnit.port.inj e).symm
  exact ⟨fun m hm => ⟨h.eth m (other m hm), h.gate m (other m hm)⟩,
    fun m a hb hm h1 h2 => h.reg a (.inr ⟨m, hb, other m hm, h1, h2⟩), h.lanes fun _ => FieldUnit.noConfusion, h.aper,
    h.teams, h.keySlots, h.mram, h.rxQueues, h.stored, h.egress, h.outs⟩

/-- Every command of a lane that the obligation names changes that lane alone. -/
theorem laneCommand_confined {c : Instr} {n : Nat} (s : State)
    (hc : (∃ r v fmt q ack w bit pinB, c ∈ [Instr.protocolException n fmt, .canReintegrate n, .busOffRecovery n,
        .hpRelease r n, .ackIdxWrite r n q ack, .watermarkWrite r n q w, .overVoltage n pinB, .terminationReclose n,
        .cmRange n, .stuckDominant n, .linPullupShort n, .laneThermal n, .domTimeout n, .laneFaultRecovery n bit,
        .laneDisable r n, .laneReenable r n, .laneLoopback r n, .lanePhyFaultClear r n v, .laneIntegrated n]) ∨
      (∃ h late busNs, c ∈ [Instr.linHeader n h, .linNoResp n, .linSlotStart n late busNs, .laneTxStart n, .plcaBeacon n,
        .plcaFallback n])) : StepConfined (.lane n) s (exec c s) := by
  rcases hc with ⟨r, v, fmt, q, ack, w, bit, pinB, hmem⟩ | ⟨h, late, busNs, hmem⟩
  · simp only [List.mem_cons, List.not_mem_nil, or_false] at hmem
    rcases hmem with rfl | rfl | rfl | rfl | rfl | rfl | rfl | rfl | rfl | rfl | rfl | rfl | rfl | rfl | rfl | rfl | rfl |
      rfl | rfl
    · exact execProtocolException_confined s n fmt
    · exact execCanReintegrate_confined s n
    · exact execBusOffRecovery_confined s n
    · exact execHpRelease_confined s r n
    · exact execAckIdxWrite_confined s r n q ack
    · exact execWatermarkWrite_confined s r n q w
    · exact execOverVoltage_confined s n pinB
    · exact execTerminationReclose_confined s n
    · exact execCmRange_confined s n
    · exact execStuckDominant_confined s n
    · exact execLinPullupShort_confined s n
    · exact execLaneThermal_confined s n
    · exact execDomTimeout_confined s n
    · exact execLaneFaultRecovery_confined s n bit
    · exact execLaneDisable_confined s r n
    · exact execLaneReenable_confined s r n
    · exact execLaneLoopback_confined s r n
    · exact execLanePhyFaultClear_confined s r n v
    · exact execLaneIntegrated_confined s n
  · simp only [List.mem_cons, List.not_mem_nil, or_false] at hmem
    rcases hmem with rfl | rfl | rfl | rfl | rfl | rfl
    · exact execLinHeader_confined s n h
    · exact execLinNoResp_confined s n
    · exact execLinSlotStart_confined s n late busNs
    · exact execLaneTxStart_confined s n
    · exact execPlcaBeacon_confined s n
    · exact execPlcaFallback_confined s n

/-- Every command of a port's MAC or gate list that the obligation names changes that port alone. -/
theorem portCommand_confined {c : Instr} {n : Nat} (s : State)
    (hc : ∃ r v sent sqi i, c ∈ [Instr.preemptVerifyDone n, .preemptVerifyTimeout n, .gateHoldApply n sent, .trainingFail n,
        .sqiLow n sqi, .portEnable r n, .steeringRuleCommit r n i v, .gclChangeRequest r n v, .gclChangeApply n,
        .gateResume n]) : StepConfined (.port n) s (exec c s) := by
  obtain ⟨r, v, sent, sqi, i, hmem⟩ := hc
  simp only [List.mem_cons, List.not_mem_nil, or_false] at hmem
  rcases hmem with rfl | rfl | rfl | rfl | rfl | rfl | rfl | rfl | rfl | rfl
  · exact execPreemptVerifyDone_confined s n
  · exact execPreemptVerifyTimeout_confined s n
  · exact execGateHoldApply_confined s n sent
  · exact execTrainingFail_confined s n
  · exact execSqiLow_confined s n sqi
  · exact execPortEnable_confined s r n
  · exact execSteeringRuleCommit_confined s r n i v
  · exact execGclChangeRequest_confined s r n v
  · exact execGclChangeApply_confined s n
  · exact execGateResume_confined s n

/-- Settles O60: each command changes its lane or port alone. -/
theorem unitFrames : Obligations.UnitFrames := by
  intro c s t n ht
  exact ⟨fun hlane => (laneCommand_confined s hlane t ht).lane_frame,
    fun hport => (portCommand_confined s hport t ht).port_frame⟩

end Sys2Proof.Machine
end
